-- ==== Sys2Proof/Word.lean ====
section
/-! DEFINITION. The words the T24 works with: link bytes and the 32-bit ms timestamp (R95, R162). -/

namespace Sys2Proof

/-- One byte of the Management Link or of the script memory. -/
abbrev Byte := BitVec 8

/-- The 32-bit count of ms ticks since reset release; it wraps (R95). -/
abbrev Stamp := BitVec 32

end Sys2Proof
end

