-- ==== Sys2Proof/Syntax.lean ====
section
/-! DEFINITION. The commands of the T24: one constructor per row of spec/opcode_table.json, with the
operands its rule gives it, and the indexed resources they name (00_scope.md, Table 2). -/

namespace Sys2Proof

/-- A sled S0 to S23. -/
abbrev Sled := Fin 24
/-- A probe P0 to P47; probe p belongs to sled p div 2 and is on lane p div 12. -/
abbrev Probe := Fin 48
/-- A sensor lane N0 to N3. -/
abbrev LaneNo := Fin 4
/-- A zone input Z0 or Z1. -/
abbrev ZoneNo := Fin 2
/-- A throttle level L0 to L15; a higher number is tighter. -/
abbrev Level := Fin 16

/-- The electrical level of an input pin as the part samples it. -/
inductive Pin
  | low
  | high
deriving DecidableEq, Repr, Inhabited

/-- A command: a request the host sends on the Management Link (its TAG and its payload bytes as Chapter 12
lays them out), an event on a pin, the end of a piece of work on a lane or on the link, or the expiry of one
of the part's own counts. The constructors stand in the order of the opcode table. -/
inductive Instr
  /-- Application of supply (R151). -/
  | powerOn
  /-- RST_N taken as low, after 160 REFCLK periods (R151). -/
  | rstNLow
  /-- RST_N reads high with the supply in range; `rate` is the LINK_RATE strap as sampled (R151). -/
  | resetRelease (rate : Pin)
  /-- The last CRC byte of a frame is taken (R164). -/
  | frameReceived (b : Byte)
  /-- A LEN byte out of range is taken (R162). -/
  | frameLengthDiscard (b : Byte)
  /-- The gap count of the frame in progress expires (R163). -/
  | linkGapExpiry
  /-- The stop bit of the last byte of the frame being sent ends (R171). -/
  | frameSent
  /-- A frame whose TYPE is not a request type (R166). -/
  | unknownRequest (tag type : Byte) (payload : List Byte)
  | identify (tag : Byte) (payload : List Byte)
  | queryPart (tag : Byte) (payload : List Byte)
  /-- SET_MODE whose one payload byte is 1, RUN (R152). -/
  | setModeRun (tag : Byte)
  /-- SET_MODE whose one payload byte is 0, CONFIG (R152). -/
  | setModeConfig (tag : Byte)
  /-- Every other SET_MODE frame: mode SAFE, and the malformed ones, all of them refused (R152, R166). -/
  | setModeSafe (tag : Byte) (payload : List Byte)
  | reset (tag : Byte) (payload : List Byte)
  | writeGlobals (tag : Byte) (payload : List Byte)
  | readGlobals (tag : Byte) (payload : List Byte)
  | writeLevels (tag : Byte) (payload : List Byte)
  | readLevels (tag : Byte) (payload : List Byte)
  | writeSled (tag : Byte) (payload : List Byte)
  | readSled (tag : Byte) (payload : List Byte)
  | writeProbe (tag : Byte) (payload : List Byte)
  | readProbe (tag : Byte) (payload : List Byte)
  | writeScript (tag : Byte) (payload : List Byte)
  | readScript (tag : Byte) (payload : List Byte)
  | writeRouting (tag : Byte) (payload : List Byte)
  | readRouting (tag : Byte) (payload : List Byte)
  | setNotices (tag : Byte) (payload : List Byte)
  | setPool (tag : Byte) (payload : List Byte)
  | renewLease (tag : Byte) (payload : List Byte)
  | setWant (tag : Byte) (payload : List Byte)
  | boost (tag : Byte) (payload : List Byte)
  | releaseSled (tag : Byte) (payload : List Byte)
  | clearZone (tag : Byte) (payload : List Byte)
  | resetLane (tag : Byte) (payload : List Byte)
  | querySled (tag : Byte) (payload : List Byte)
  | queryPool (tag : Byte) (payload : List Byte)
  | queryProbe (tag : Byte) (payload : List Byte)
  | queryLane (tag : Byte) (payload : List Byte)
  /-- READ_ALERT with a clear request other than 1, the malformed ones among them (R103). -/
  | readAlert (tag : Byte) (payload : List Byte)
  /-- READ_ALERT with clear request 1; `sled` is its sled byte (R103). -/
  | readAlertAndClear (tag sled : Byte)
  | readFaults (tag : Byte) (payload : List Byte)
  | clearFaults (tag : Byte) (payload : List Byte)
  /-- The frame counter takes the value of sled `i`'s offset (R4, R13). -/
  | boundaryEvent (i : Sled)
  /-- The section ticks remaining of sled `i`'s carrier reach 0 (R9). -/
  | carrierSectionEnd (i : Sled)
  /-- The lease remaining count reaches 0 (R30). -/
  | leaseExpiry
  /-- The sampled level of PRSi becomes `level` (R62). -/
  | presenceLineChange (i : Sled) (level : Pin)
  /-- Sled `i`'s presence settle count expires (R62). -/
  | presenceSettleExpiry (i : Sled)
  /-- Sled `i`'s admission count expires (R66). -/
  | admitCountExpiry (i : Sled)
  /-- The sampled level of zone pin `z` becomes `level` (R87). -/
  | zoneInputChange (z : ZoneNo) (level : Pin)
  /-- Zone input `z`'s settle count expires (R87). -/
  | zoneSettleExpiry (z : ZoneNo)
  /-- The release count of a RELEASING zone expires (R89). -/
  | zoneReleaseExpiry
  /-- Sled `i`'s alert filter accepts its last sample (R96). -/
  | alertLevelAccepted (i : Sled)
  /-- Sled `i`'s current alert width reaches `sustain_ms` (R100). -/
  | sustainReached (i : Sled)
  /-- Sled `i`'s current alert width reaches `stuck_ms` (R101). -/
  | stuckReached (i : Sled)
  /-- Sled `i`'s hot-persist count expires (R85). -/
  | hotPersistExpiry (i : Sled)
  /-- Probe `p`'s due timer expires (R113). -/
  | dueEvent (p : Probe)
  /-- The stop of the INIT transaction open on lane `n` completes, every byte acknowledged (R125). -/
  | initTransactionEnd (n : LaneNo)
  /-- A byte sent on lane `n` in INIT or READ is not acknowledged (R129). -/
  | notAcknowledge (n : LaneNo)
  /-- The SETTLE wait of lane `n`'s poll ends (R126). -/
  | settleExpiry (n : LaneNo)
  /-- The WAIT count of lane `n`'s poll expires (R127). -/
  | waitExpiry (n : LaneNo)
  /-- The stop of lane `n`'s READ transaction completes; `b0`, `b1` are the data bytes in the order received
  (a U8 probe sends only the first) (R128). -/
  | readTransactionEnd (n : LaneNo) (b0 b1 : Byte)
  /-- Lane `n`'s transaction count expires (R108, R116). -/
  | transactionTimeout (n : LaneNo)
  /-- The stop that ends an abort on lane `n` completes (R116). -/
  | abortStopEnd (n : LaneNo)
  /-- Lane `n`'s recovery attempt samples SDA at its check (R109, R110). -/
  | recoveryAttemptEnd (n : LaneNo) (sda : Pin)
  /-- The count of lane `n`'s recovery attempt expires before its check (R109). -/
  | recoveryAttemptTimeout (n : LaneNo)
  /-- A byte received on LINK_RX is handed to the frame parser (R161, R162). -/
  | linkByteReceived (b : Byte)
  /-- Sled `i`'s alert filter samples `level`, which differs from its last sample (R96). -/
  | alertSampleChange (i : Sled) (level : Pin)
deriving DecidableEq, Repr

end Sys2Proof
end

