-- ==== Sys2Proof/WellFormed.lean ====
section
/-! DEFINITION. Which commands can exist: a request's payload fits one frame (R162: LEN counts TAG, TYPE and a payload
of 0 to 124 bytes), and a frame is spelled by the one row it belongs to. -/

namespace Sys2Proof

/-- The longest payload a frame can carry (R162). -/
def maxPayload : Nat := 124

/-- The request TYPE codes of Table 74. -/
def requestTypes : List Byte :=
  [0x01, 0x02, 0x03, 0x04, 0x10, 0x11, 0x12, 0x13, 0x14, 0x15, 0x16, 0x17, 0x18, 0x19, 0x1A, 0x1B, 0x1C,
   0x20, 0x21, 0x22, 0x23, 0x28, 0x29, 0x2A, 0x30, 0x31, 0x32, 0x33, 0x34, 0x35, 0x36]

/-- A payload that one frame can carry. -/
def payloadFits (payload : List Byte) : Bool := decide (payload.length ≤ maxPayload)

/-- A SET_MODE payload that is neither CONFIG's nor RUN's. -/
def setModeOther (payload : List Byte) : Bool := payload != [0#8] && payload != [1#8]

/-- A READ_ALERT payload that does not ask for a clear. -/
def readAlertPlain : List Byte → Bool
  | [_, c] => c != 1#8
  | _ => true

/-- A command that can exist. The events carry bounded operands only, so each of them can. -/
def Instr.wf : Instr → Bool
  | .unknownRequest _ type payload => payloadFits payload && !requestTypes.contains type
  | .setModeSafe _ payload => payloadFits payload && setModeOther payload
  | .readAlert _ payload => payloadFits payload && readAlertPlain payload
  | .identify _ p => payloadFits p
  | .queryPart _ p => payloadFits p
  | .reset _ p => payloadFits p
  | .writeGlobals _ p => payloadFits p
  | .readGlobals _ p => payloadFits p
  | .writeLevels _ p => payloadFits p
  | .readLevels _ p => payloadFits p
  | .writeSled _ p => payloadFits p
  | .readSled _ p => payloadFits p
  | .writeProbe _ p => payloadFits p
  | .readProbe _ p => payloadFits p
  | .writeScript _ p => payloadFits p
  | .readScript _ p => payloadFits p
  | .writeRouting _ p => payloadFits p
  | .readRouting _ p => payloadFits p
  | .setNotices _ p => payloadFits p
  | .setPool _ p => payloadFits p
  | .renewLease _ p => payloadFits p
  | .setWant _ p => payloadFits p
  | .boost _ p => payloadFits p
  | .releaseSled _ p => payloadFits p
  | .clearZone _ p => payloadFits p
  | .resetLane _ p => payloadFits p
  | .querySled _ p => payloadFits p
  | .queryPool _ p => payloadFits p
  | .queryProbe _ p => payloadFits p
  | .queryLane _ p => payloadFits p
  | .readFaults _ p => payloadFits p
  | .clearFaults _ p => payloadFits p
  | .setModeRun _ | .setModeConfig _ | .readAlertAndClear _ _ => true
  | .powerOn | .rstNLow | .resetRelease _ | .frameReceived _ | .frameLengthDiscard _ | .linkGapExpiry | .frameSent => true
  | .boundaryEvent _ | .carrierSectionEnd _ | .leaseExpiry | .presenceLineChange _ _ | .presenceSettleExpiry _ => true
  | .admitCountExpiry _ | .zoneInputChange _ _ | .zoneSettleExpiry _ | .zoneReleaseExpiry => true
  | .alertLevelAccepted _ | .sustainReached _ | .stuckReached _ | .hotPersistExpiry _ | .dueEvent _ => true
  | .initTransactionEnd _ | .notAcknowledge _ | .settleExpiry _ | .waitExpiry _ | .readTransactionEnd _ _ _ => true
  | .transactionTimeout _ | .abortStopEnd _ | .recoveryAttemptEnd _ _ | .recoveryAttemptTimeout _ => true
  | .linkByteReceived _ | .alertSampleChange _ _ => true

end Sys2Proof
end

