-- ==== Sys2Proof/Config.lean ====
section
/-! DEFINITION. What the part fixes (R1, R19, R169), and the values the manual leaves open: each open value is an
opaque constant, so nothing can be proved about which value it is. -/

namespace Sys2Proof

/-- The vendor code of IDENTIFY (R169). -/
def Config.vendorCode : Nat := 0x52
/-- The part code of IDENTIFY (R169). -/
def Config.partCode : Nat := 0x0C24
/-- The silicon revision of IDENTIFY (R169). -/
def Config.revision : Nat := 3
/-- REFCLK periods in one ms tick (R2). -/
def Config.refclkPerMs : Nat := 16000
/-- The largest pool size, fallback pool and lease period (R19, R26). -/
def Config.poolMax : Nat := 8000
def Config.leaseMax : Nat := 600000

/-- The rank of the event at a place in the list of events of one REFCLK period: the manual gives no order among
events that come at the same moment (R4, R114), so they are taken in the order of a free rank (assumption 4). -/
opaque Config.tieRank : Nat → Nat → Nat

/-- Whether the request processor takes its frame before an event that is due at the same moment (assumption 4). -/
opaque Config.requestFirst : Nat → Bool

/-- Whether probe B's first due event is taken before probe A's on admission; the manual fixes no order (R64, R114;
assumption 5). -/
opaque Config.probeBFirst : Nat → Bool

/-- The SCL and SDA levels a lane reads while a transaction is open, or when one is abandoned: they are the probes'
doing, and the manual states none (R107, R108, R118; assumption 6). -/
opaque Config.linesRead : Nat → Pin × Pin

/-- The retry count QUERY_PROBE shows for a poll that has no transaction in hand (R129, R136; assumption 7). -/
opaque Config.idleRetryByte : Nat → Byte

end Sys2Proof
end

