-- ==== Sys2Proof/Machine/State.lean ====
section
/-! DEFINITION. Everything the manual says the T24 holds, block by block, as plain data; the values after reset; and
the outcomes that are not a next state. -/

namespace Sys2Proof.Machine

open Sys2Proof

/-- A vector from its entries; evaluable by the kernel. -/
def tabulate {α : Type} {n : Nat} (f : Fin n → α) : Vector α n := ⟨⟨List.ofFn f⟩, by simp⟩

/-- A count of ticks: stopped, or the ticks remaining (R2). -/
abbrev Count := Option Nat

/-! ## Named values (Table 75) -/

/-- The part mode (R150). -/
inductive Mode
  | config
  | run
  | safe
deriving DecidableEq, Repr

/-- The last change cause (R150). -/
inductive Cause
  | pinReset
  | softReset
  | request
  | fault
deriving DecidableEq, Repr

/-- The validation item kinds (R150, R153). -/
inductive ItemKind
  | levels
  | costs
  | ceilings
  | thresholds
  | script
deriving DecidableEq, Repr

/-- The validation result (R150). -/
inductive Validation
  | none
  | passed
  | failed (kind : ItemKind) (index : Nat)
deriving DecidableEq, Repr

/-- Which electrical level ADMIT drives (R8). -/
inductive DrivePolarity
  | admitHigh
  | admitLow
deriving DecidableEq, Repr

/-- Which pin level means asserted (R87, R94). -/
inductive Polarity
  | assertHigh
  | assertLow
deriving DecidableEq, Repr

/-- The role of an alert line (R94). -/
inductive AlertRole
  | heat
  | ready
  | none
deriving DecidableEq, Repr

/-- How a sled's votes are combined (R81). -/
inductive Combine
  | any
  | all
deriving DecidableEq, Repr

/-- A thermal state, a vote or a probe class (R77, R79, R130). -/
inductive Heat
  | cool
  | warm
  | hot
deriving DecidableEq, Repr

/-- A probe's mode (R119). -/
inductive ProbeMode
  | direct
  | ready
  | self
deriving DecidableEq, Repr

/-- A reading's format (R119). -/
inductive Format
  | u8
  | u16
  | s16
deriving DecidableEq, Repr

/-- A lane's clock rate (R105). -/
inductive LaneSpeed
  | khz100
  | khz400
deriving DecidableEq, Repr

/-- A routing action (R138). -/
inductive Action
  | ignore
  | report
  | contain
  | safe
deriving DecidableEq, Repr

/-! ## Configuration -/

/-- The global record (Tables 9, 39, 41, 46, 49; R50, R60). -/
structure Globals where
  prescale : Nat
  frameTicks : Nat
  rampFrames : Nat
  emergencyLevel : Level
  reclaimFrames : Nat
  presenceSettleMs : Nat
  admitLimitMs : Nat
  warmCeiling : Level
  hotCeiling : Level
  escalateCount : Nat
  relaxCount : Nat
  hotLimitS : Nat
  zoneEnable : Vector Bool 2
  zonePolarity : Vector Polarity 2
  zoneSettleMs : Nat
  zoneReleaseMs : Nat
  zoneLatch : Bool
  alertFilter : Nat
  sustainMs : Nat
  stuckMs : Nat
  laneSpeed : Vector LaneSpeed 4
  laneTimeoutMs : Vector Nat 4
deriving DecidableEq, Repr

/-- One entry of the level table (R6). -/
structure LevelEntry where
  admitTicks : Nat
  holdTicks : Nat
deriving DecidableEq, Repr

/-- A sled record (R60, Table 32). -/
structure SledCfg where
  enable : Bool
  offset : Nat
  polarity : DrivePolarity
  cost : Vector Nat 16
  alertPolarity : Polarity
  alertRole : AlertRole
  combine : Combine
  lostVote : Heat
deriving DecidableEq, Repr

/-- A probe record (R119, Table 54). -/
structure ProbeCfg where
  enable : Bool
  mode : ProbeMode
  address : Nat
  initCount : Nat
  initEvery : Bool
  seq : Bool
  readRegister : Nat
  format : Format
  swap : Bool
  underLimit : Int
  warmOver : Int
  hotOver : Int
  upperLimit : Int
  pollMs : Nat
  settleMs : Nat
  waitMs : Nat
  nakRetries : Nat
  lostLimit : Nat
  selfClass : Heat
deriving DecidableEq, Repr

/-- The notice mask: a set flag lets the kind be posted (R174). -/
structure NoticeMask where
  sled : Bool
  pool : Bool
  fault : Bool
  zone : Bool
  mode : Bool
deriving DecidableEq, Repr

/-- The configuration: what a soft reset and every mode change keep, and only the configuration writes change. -/
structure Cfg where
  globals : Globals
  levels : Vector LevelEntry 16
  sleds : Vector SledCfg 24
  probes : Vector ProbeCfg 48
  script : Vector Byte 512
  routing : Vector Action 10
  mask : NoticeMask
deriving DecidableEq, Repr

/-! ## Throttle channels and books -/

/-- A carrier section (Table 11). -/
inductive Section
  | idle
  | admitting
  | holding
deriving DecidableEq, Repr

/-- A throttle channel (R8, Table 11). -/
structure Channel where
  active : Level
  dwell : Nat
  boostStep : Bool
  carrier : Section
  ticks : Nat
  latchedAdmit : Nat
  latchedHold : Nat
deriving DecidableEq, Repr

/-- The lease states (R29). -/
inductive LeaseState
  | none
  | running
  | lapsed
deriving DecidableEq, Repr

/-- The pool record (R19, Table 17). -/
structure Pool where
  size : Nat
  fallback : Nat
  leasePeriod : Nat
  leaseRemaining : Nat
  leaseState : LeaseState
deriving DecidableEq, Repr

/-- The boost states (R52). -/
inductive BoostState
  | none
  | running
  | rearm
deriving DecidableEq, Repr

/-- A sled's books, with its boost record and reclaim counter (R20, R50, R52). `recount` is the model's own: the next
boundary counts from 0, because the sled was released or RUN regained since the last one (R71, R156; assumption 25). -/
structure Books where
  grant : Nat
  loan : Nat
  draining : Nat
  wanted : Level
  cls : Fin 4
  floorReserved : Bool
  reclaim : Nat
  recount : Bool
  boost : BoostState
  boostFrames : Nat
deriving DecidableEq, Repr

/-- A raise queue entry's class (Table 24). -/
inductive QClass
  | floor
  | cls (k : Fin 4)
deriving DecidableEq, Repr

/-- A raise queue entry (R38, Table 24). -/
structure Entry where
  sled : Sled
  cls : QClass
  wanted : Level
  held : Bool
deriving DecidableEq, Repr

/-! ## Sleds, alerts and heat -/

/-- The six sled states (Table 33). -/
inductive SledState
  | disabled
  | absent
  | standby
  | admitting
  | tracking
  | isolated
deriving DecidableEq, Repr

/-- A lifecycle record with its presence filter (R61, R62, Table 34). `prs` is the PRS level as last sampled. -/
structure Life where
  state : SledState
  present : Bool
  prs : Pin
  settle : Count
  admission : Count
  admitTimeout : Bool
  awaitA : Bool
  awaitB : Bool
  containPending : Bool
deriving DecidableEq, Repr

/-- A thermal record (R77, Table 38). -/
structure Thermal where
  state : Heat
  escalate : Nat
  relax : Nat
  hotPersist : Count
  hotRaised : Bool
  combined : Option Heat
deriving DecidableEq, Repr

/-- An alert channel (R95, Table 47). `pin` is the level on ALR; `filtered` is set for ASSERTED. `tickOwed` is the
model's own: an ms tick that brings the width to a mark has come, and this channel has not taken it yet (R100, R101;
assumption 24). -/
structure Alert where
  pin : Pin
  lastSample : Pin
  run : Nat
  accepted : Pin
  filtered : Bool
  width : Nat
  seen : Bool
  lastTime : Option Stamp
  lastWidth : Nat
  longest : Nat
  count : Nat
  total : Nat
  sustained : Bool
  stuck : Bool
  tickOwed : Bool
deriving DecidableEq, Repr

/-- Everything the blocks hold for one sled, its configuration apart. -/
structure SledRun where
  chan : Channel
  books : Books
  life : Life
  therm : Thermal
  alert : Alert
deriving DecidableEq, Repr

/-- The zone states (Table 42). -/
inductive ZoneState
  | normal
  | emergency
  | releasing
deriving DecidableEq, Repr

/-- A zone input's filter (R87). `pin` is the level as last sampled. -/
structure ZoneFilter where
  pin : Pin
  accepted : Pin
  settle : Count
deriving DecidableEq, Repr

/-- The zone (R88). -/
structure Zone where
  state : ZoneState
  release : Count
  filters : Vector ZoneFilter 2
deriving DecidableEq, Repr

/-! ## Lanes and probes -/

/-- The lane states (R106). -/
inductive LaneState
  | idle
  | busy
  | recover
  | failed
deriving DecidableEq, Repr

/-- The phases of a poll (R124). -/
inductive Phase
  | init
  | settle
  | wait
  | read
deriving DecidableEq, Repr

/-- A poll in progress: its probe, its phase, the number of the INIT transaction in hand (R125), the retry count of
the transaction in hand (R129) and the count of a SETTLE or WAIT (R126, R127). A transaction is open exactly in INIT
and READ. -/
structure Poll where
  probe : Probe
  phase : Phase
  transaction : Nat
  retries : Nat
  timer : Count
deriving DecidableEq, Repr

/-- A lane's poll in progress (Table 50). -/
inductive InProgress
  | absent
  | poll (p : Poll)
  | aborting
deriving DecidableEq, Repr

/-- A lane record (R106, Table 50), with the count of its recovery attempt (R109), the clock rate read at the start
of the transaction or attempt (R105), and the pin levels as last read (R118). -/
structure Lane where
  state : LaneState
  queue : List Probe
  poll : InProgress
  transaction : Count
  attempt : Count
  attempts : Nat
  timeouts : Nat
  recoveries : Nat
  clock : LaneSpeed
  scl : Pin
  sda : Pin
deriving DecidableEq, Repr

/-- A probe's run state (R112). -/
inductive RunState
  | idle
  | queued
  | active
deriving DecidableEq, Repr

/-- A probe's health (R132). -/
inductive Health
  | unknown
  | ok
  | suspect
  | lost
deriving DecidableEq, Repr

/-- The failure reasons (Table 57). -/
inductive Reason
  | nakInit
  | nakRead
  | implausible
  | noReady
  | laneAbort
  | laneFailed
deriving DecidableEq, Repr

/-- A probe's scheduling and health records (R112 Table 51, R132 Table 58). -/
structure ProbeRun where
  run : RunState
  due : Count
  overruns : Nat
  health : Health
  failures : Nat
  lastReason : Option Reason
  lastValue : Option Int
  lastClass : Option Heat
  lastTime : Option Stamp
  needsInit : Bool
deriving DecidableEq, Repr

/-! ## Fault recorder and notices -/

/-- The ten fault classes (Table 60). -/
inductive FaultClass
  | probeLost
  | readingImplausible
  | laneStuck
  | alertStuck
  | admitTimeout
  | hotPersist
  | zoneAlarm
  | leaseLapsed
  | pollOverrun
  | linkFrame
deriving DecidableEq, Repr

/-- What a fault concerns (Table 60). -/
inductive Subject
  | probe (p : Probe)
  | lane (n : LaneNo)
  | sled (i : Sled)
  | zoneInput (z : ZoneNo)
  | pool
  | link
deriving DecidableEq, Repr

/-- A first record while its valid flag is set (R141). -/
structure FaultRecord where
  cls : FaultClass
  subject : Subject
  time : Stamp
  detail : Nat
deriving DecidableEq, Repr

/-- One severity's first record (none: the valid flag is clear), later-set and later-count (R141). Bit c of the
later-set is class c, as the reply carries it (R176). -/
structure SeverityRecord where
  first : Option FaultRecord
  laterSet : BitVec 16
  laterCount : Nat
deriving DecidableEq, Repr

/-- The two severities (R138). -/
inductive Severity
  | severe
  | advisory
deriving DecidableEq, Repr

/-- A pair of notice kind and subject (Table 71). -/
inductive Notice
  | sled (i : Sled)
  | pool
  | fault (v : Severity)
  | zone
  | mode
deriving DecidableEq, Repr

/-- The notice pending set: a set flag is a pair in the set, so no pair is in it twice (R172). -/
structure NoticeSet where
  sled : Vector Bool 24
  pool : Bool
  severe : Bool
  advisory : Bool
  zone : Bool
  mode : Bool
deriving DecidableEq, Repr

/-! ## The timebases and the part -/

/-- The timebases (R1, R2, R3, R95). -/
structure Clock where
  prescaleCount : Nat
  msCount : Nat
  frame : Nat
  stamp : Stamp
deriving DecidableEq, Repr

/-- Everything that runs, link queues and configuration apart. `arbiterDue` is the model's own: a trigger of the
arbiter (R43) taken in the event in progress, clear between events (assumption 10). `free` is the model's own: how
many free values have been read (assumption 4). -/
structure Run where
  clock : Clock
  mode : Mode
  cause : Cause
  validation : Validation
  pool : Pool
  sleds : Vector SledRun 24
  queue : List Entry
  raiseOrder : List Sled
  boostList : List Sled
  arbiterDue : Bool
  zone : Zone
  lanes : Vector Lane 4
  probes : Vector ProbeRun 48
  severe : SeverityRecord
  advisory : SeverityRecord
  notices : NoticeSet
  free : Nat
deriving DecidableEq, Repr

/-! ## The Management Link -/

/-- What a frame carries between LEN and CRC (R162). -/
structure Frame where
  tag : Byte
  type : Byte
  payload : List Byte
deriving DecidableEq, Repr

/-- The frame parser's state with the bytes it keeps (R162, Table 68). -/
inductive Parser
  | hunt
  | length
  | body (len : Byte) (kept : List Byte)
  | crcHigh (len : Byte) (kept : List Byte)
  | crcLow (len : Byte) (kept : List Byte) (high : Byte)
deriving DecidableEq, Repr

/-- A frame in the reply queue or on the line, and whether it is the reply to RESET (R158). -/
structure Outgoing where
  frame : Frame
  isReset : Bool
deriving DecidableEq, Repr

/-- The Link Interface and the request processor's one mark (R158, R162 to R165, R171). `rate` is the LINK_RATE strap
as sampled at reset release: high is 460,800 baud. -/
structure Link where
  rate : Pin
  parser : Parser
  gap : Count
  rx : List Frame
  replies : List Outgoing
  resetAccepted : Bool
  tx : Option Outgoing
deriving DecidableEq, Repr

/-- The machine. `pending` is the queue of commands that are waiting; `due` holds the events that the present REFCLK
period made due and that are not yet taken (assumption 2); `inReset` is set while a pin reset is in force (R151). -/
structure State where
  pending : List Instr
  due : List Instr
  inReset : Bool
  link : Link
  cfg : Cfg
  run : Run
deriving DecidableEq, Repr

/-! ## The outcomes that are not a next state -/

/-- Why a command stops. No rule of the manual stops the part, so there is one reason and it is the model's. -/
inductive Fault
  /-- Raised by a request's meaning for a command that is not well-formed (`Instr.wf`): no frame carries it, or it is
  spelled by another row. Safe: no such command can reach the part. -/
  | illFormed
deriving DecidableEq, Repr

/-- Why a command has no meaning. -/
inductive Refusal
  /-- Raised by `exec` for a command that has no meaning yet; no arm does so. Safe. -/
  | notModelled (mnemonic : String)
deriving DecidableEq, Repr

/-! ## Values after reset (Table 80 and the tables of the block chapters) -/

def Globals.default : Globals where
  prescale := 16
  frameTicks := 1000
  rampFrames := 4
  emergencyLevel := 15
  reclaimFrames := 50
  presenceSettleMs := 200
  admitLimitMs := 2000
  warmCeiling := 6
  hotCeiling := 12
  escalateCount := 1
  relaxCount := 8
  hotLimitS := 60
  zoneEnable := tabulate fun _ => false
  zonePolarity := tabulate fun _ => .assertLow
  zoneSettleMs := 50
  zoneReleaseMs := 1000
  zoneLatch := false
  alertFilter := 4
  sustainMs := 100
  stuckMs := 5000
  laneSpeed := tabulate fun _ => .khz100
  laneTimeoutMs := tabulate fun _ => 25

def SledCfg.default (i : Sled) : SledCfg where
  enable := true
  offset := i.val * 41
  polarity := .admitHigh
  cost := tabulate fun k => 4 * (16 - k.val)
  alertPolarity := .assertLow
  alertRole := .heat
  combine := .any
  lostVote := .hot

def ProbeCfg.default : ProbeCfg where
  enable := false
  mode := .direct
  address := 74
  initCount := 0
  initEvery := false
  seq := false
  readRegister := 0
  format := .u8
  swap := false
  underLimit := 0
  warmOver := 70
  hotOver := 85
  upperLimit := 125
  pollMs := 1000
  settleMs := 0
  waitMs := 10
  nakRetries := 2
  lostLimit := 3
  selfClass := .hot

/-- The default routing: REPORT, but HOT_PERSIST CONTAIN and POLL_OVERRUN IGNORE (Table 60). -/
def Action.default (c : Fin 10) : Action :=
  if c = 5 then .contain else if c = 8 then .ignore else .report

def Cfg.default : Cfg where
  globals := .default
  levels := tabulate fun k => { admitTicks := 16 - k.val, holdTicks := k.val }
  sleds := tabulate SledCfg.default
  probes := tabulate fun _ => .default
  script := tabulate fun _ => 0
  routing := tabulate Action.default
  mask := { sled := true, pool := true, fault := true, zone := true, mode := true }

/-- The pin level that means deasserted (R87, R95). -/
def Polarity.deasserted : Polarity → Pin
  | .assertHigh => .low
  | .assertLow => .high

/-- Table 11 after a reset; `l15` is the level table's entry for L15 and `ramp` is `ramp_frames`. -/
def Channel.initial (ramp : Nat) (l15 : LevelEntry) : Channel where
  active := 15
  dwell := ramp
  boostStep := false
  carrier := .idle
  ticks := 0
  latchedAdmit := l15.admitTicks
  latchedHold := l15.holdTicks

/-- Tables 18 and 25 after a reset. -/
def Books.initial : Books where
  grant := 0
  loan := 0
  draining := 0
  wanted := 0
  cls := 3
  floorReserved := false
  reclaim := 0
  recount := false
  boost := .none
  boostFrames := 0

/-- Table 34 after a reset: ABSENT or DISABLED by `enable`. -/
def Life.initial (enable : Bool) (prs : Pin) (settle : Count) : Life where
  state := if enable then .absent else .disabled
  present := false
  prs := prs
  settle := settle
  admission := none
  admitTimeout := false
  awaitA := false
  awaitB := false
  containPending := false

/-- Table 38 after a reset, and whenever a sled leaves service (R86). -/
def Thermal.initial : Thermal where
  state := .cool
  escalate := 0
  relax := 0
  hotPersist := none
  hotRaised := false
  combined := none

/-- Table 47 after a reset; the pin is the world's. -/
def Alert.initial (pol : Polarity) (pin : Pin) : Alert where
  pin := pin
  lastSample := pol.deasserted
  run := 0
  accepted := pol.deasserted
  filtered := false
  width := 0
  seen := false
  lastTime := none
  lastWidth := 0
  longest := 0
  count := 0
  total := 0
  sustained := false
  stuck := false
  tickOwed := false

/-- One sled's records after a reset. -/
def SledRun.initial (c : Cfg) (i : Sled) (prs alr : Pin) (settle : Count) : SledRun where
  chan := .initial c.globals.rampFrames (c.levels.get 15)
  books := .initial
  life := .initial (c.sleds.get i).enable prs settle
  therm := .initial
  alert := .initial (c.sleds.get i).alertPolarity alr

/-- Table 50 after a reset; the clock rate in use and the pin levels are named by assumption 9. -/
def Lane.initial : Lane where
  state := .idle
  queue := []
  poll := .absent
  transaction := none
  attempt := none
  attempts := 0
  timeouts := 0
  recoveries := 0
  clock := .khz100
  scl := .high
  sda := .high

/-- Tables 51 and 58 after a reset. -/
def ProbeRun.initial : ProbeRun where
  run := .idle
  due := none
  overruns := 0
  health := .unknown
  failures := 0
  lastReason := none
  lastValue := none
  lastClass := none
  lastTime := none
  needsInit := false

def SeverityRecord.empty : SeverityRecord where
  first := none
  laterSet := 0
  laterCount := 0

def NoticeSet.empty : NoticeSet where
  sled := tabulate fun _ => false
  pool := false
  severe := false
  advisory := false
  zone := false
  mode := false

def Pool.initial : Pool where
  size := 0
  fallback := 0
  leasePeriod := 0
  leaseRemaining := 0
  leaseState := .none

/-- The zone after a reset: NORMAL, each filter at the deasserted level of its input (R87, R88). -/
def Zone.initial (c : Cfg) (pins : ZoneNo → Pin) (settle : Count) : Zone where
  state := .normal
  release := none
  filters := tabulate fun z =>
    { pin := pins z, accepted := (c.globals.zonePolarity.get z).deasserted, settle := settle }

/-- The part after a reset whose configuration is `c`: what a pin reset and a soft reset have in common. -/
def Run.initial (c : Cfg) (cause : Cause) (clock : Clock) (pool : Pool) (prs alr : Sled → Pin) (zone : ZoneNo → Pin)
    (settleRuns : Bool) (free : Nat) : Run where
  clock := clock
  mode := .config
  cause := cause
  validation := .none
  pool := pool
  sleds := tabulate fun i =>
    .initial c i (prs i) (alr i) (if settleRuns then some c.globals.presenceSettleMs else none)
  queue := []
  raiseOrder := []
  boostList := []
  arbiterDue := false
  zone := .initial c zone (if settleRuns then some c.globals.zoneSettleMs else none)
  lanes := tabulate fun _ => .initial
  probes := tabulate fun _ => .initial
  severe := .empty
  advisory := .empty
  notices := .empty
  free := free

def Clock.start : Clock where
  prescaleCount := 0
  msCount := 0
  frame := 0
  stamp := 0

/-- The link interface after a reset (R162, R164, R171). -/
def Link.initial (rate : Pin) : Link where
  rate := rate
  parser := .hunt
  gap := none
  rx := []
  replies := []
  resetAccepted := false
  tx := none

/-- The machine right after reset release with no sled seated: CONFIG, every record at its power-on value, the settle
counts started, and the MODE notice of the release on the line (R151, R160, R171; assumptions 8 and 9). -/
def State.reset : State where
  pending := []
  due := []
  inReset := false
  link := { Link.initial .low with
    tx := some { frame := { tag := 0, type := 0x64, payload := [0, 0] }, isReset := false } }
  cfg := .default
  run := .initial .default .pinReset .start .initial (fun _ => .high) (fun _ => .high) (fun _ => .high) true 0

end Sys2Proof.Machine
end

