-- ==== Sys2Proof/Machine/Ops.lean ====
section
/-! DEFINITION. The named operations every family shares: reading and changing one record of a block, counts, costs and
levels (R11, R12, R23), posting notices (R172). A block has no exception entry: raising a fault is recorded state
(Machine/Faults.lean). -/

namespace Sys2Proof.Machine

open Sys2Proof

/-! ## Numbering (Table 2) -/

def sledOfProbe (p : Probe) : Sled := ⟨p.val / 2, by omega⟩
def laneOfProbe (p : Probe) : LaneNo := ⟨p.val / 12, by omega⟩
def laneOfSled (i : Sled) : LaneNo := ⟨i.val / 6, by omega⟩
def probeA (i : Sled) : Probe := ⟨2 * i.val, by omega⟩
def probeB (i : Sled) : Probe := ⟨2 * i.val + 1, by omega⟩
def allSleds : List Sled := List.finRange 24
def allProbes : List Probe := List.finRange 48
def allLanes : List LaneNo := List.finRange 4
def allLevels : List Level := List.finRange 16
/-- The sleds of lane n, lowest first. -/
def sledsOfLane (n : LaneNo) : List Sled := allSleds.filter (fun i => laneOfSled i == n)
/-- The probes of lane n, lowest first. -/
def probesOfLane (n : LaneNo) : List Probe := allProbes.filter (fun p => laneOfProbe p == n)

/-- A vector with every entry changed by its index. -/
def mapAt {α β : Type} {n : Nat} (f : Fin n → α → β) (v : Vector α n) : Vector β n := tabulate fun i => f i (v.get i)

/-- A vector with one entry changed. -/
def modAt {α : Type} {n : Nat} (i : Fin n) (f : α → α) (v : Vector α n) : Vector α n := v.set i.val (f (v.get i)) i.isLt

/-! ## Records of the running part -/

def Run.modSled (i : Sled) (f : SledRun → SledRun) (r : Run) : Run := { r with sleds := modAt i f r.sleds }
def Run.modChan (i : Sled) (f : Channel → Channel) (r : Run) : Run := r.modSled i fun x => { x with chan := f x.chan }
def Run.modBooks (i : Sled) (f : Books → Books) (r : Run) : Run := r.modSled i fun x => { x with books := f x.books }
def Run.modLife (i : Sled) (f : Life → Life) (r : Run) : Run := r.modSled i fun x => { x with life := f x.life }
def Run.modTherm (i : Sled) (f : Thermal → Thermal) (r : Run) : Run := r.modSled i fun x => { x with therm := f x.therm }
def Run.modAlert (i : Sled) (f : Alert → Alert) (r : Run) : Run := r.modSled i fun x => { x with alert := f x.alert }
def Run.modProbe (p : Probe) (f : ProbeRun → ProbeRun) (r : Run) : Run := { r with probes := modAt p f r.probes }
def Run.modLane (n : LaneNo) (f : Lane → Lane) (r : Run) : Run := { r with lanes := modAt n f r.lanes }

def Run.chan (r : Run) (i : Sled) : Channel := (r.sleds.get i).chan
def Run.books (r : Run) (i : Sled) : Books := (r.sleds.get i).books
def Run.life (r : Run) (i : Sled) : Life := (r.sleds.get i).life
def Run.therm (r : Run) (i : Sled) : Thermal := (r.sleds.get i).therm
def Run.alert (r : Run) (i : Sled) : Alert := (r.sleds.get i).alert
def Run.probe (r : Run) (p : Probe) : ProbeRun := r.probes.get p
def Run.lane (r : Run) (n : LaneNo) : Lane := r.lanes.get n
def Cfg.sled (c : Cfg) (i : Sled) : SledCfg := c.sleds.get i
def Cfg.probe (c : Cfg) (p : Probe) : ProbeCfg := c.probes.get p

/-- Takes the number of the next free value. -/
def Run.spendFree (r : Run) : Run := { r with free := r.free + 1 }

/-- Marks a trigger of the arbiter (R43). -/
def Run.triggerIf (b : Bool) (r : Run) : Run := { r with arbiterDue := r.arbiterDue || b }

/-! ## Sled states -/

/-- ADMITTING, TRACKING or ISOLATED. -/
def SledState.inService : SledState → Bool
  | .admitting | .tracking | .isolated => true
  | .disabled | .absent | .standby => false

/-- Neither ABSENT nor DISABLED: the presence check of R166. -/
def SledState.isPresent : SledState → Bool
  | .disabled | .absent => false
  | .standby | .admitting | .tracking | .isolated => true

/-- RUN or SAFE. -/
def Mode.works : Mode → Bool
  | .config => false
  | .run | .safe => true

/-- The enabled probes of a sled, A first (R60). -/
def enabledProbes (c : Cfg) (i : Sled) : List Probe := [probeA i, probeB i].filter fun p => (c.probe p).enable

/-! ## Counts (R2) -/

/-- One ms tick of a count. -/
def Count.down : Count → Count
  | none => none
  | some 0 => some 0
  | some (n + 1) => some n

/-- A count that the ticks have brought to its end and whose expiry is not yet taken. -/
def Count.expired (k : Count) : Bool := k == some 0

/-- A rise by one that stays at a ceiling. -/
def satSucc (max n : Nat) : Nat := if n < max then n + 1 else n

/-! ## Costs, ceilings and levels -/

def costAt (c : Cfg) (i : Sled) (k : Level) : Nat := (c.sled i).cost.get k
def floorCost (c : Cfg) (i : Sled) : Nat := costAt c i 15

/-- The ceiling of a thermal state (R78). -/
def ceilingOf (c : Cfg) : Heat → Level
  | .cool => 0
  | .warm => c.globals.warmCeiling
  | .hot => c.globals.hotCeiling

/-- A sled's thermal ceiling as it stands (R77). -/
def Run.ceiling (c : Cfg) (r : Run) (i : Sled) : Level := ceilingOf c (r.therm i).state

/-- The cost of a sled's wanted level (R21). -/
def Run.wantCost (c : Cfg) (r : Run) (i : Sled) : Nat := costAt c i (r.books i).wanted

/-- The loosest level, not looser than `m`, whose cost is at most `bound` (R11, R45, R48). -/
def loosest (c : Cfg) (i : Sled) (m : Level) (bound : Int) : Option Level :=
  allLevels.find? fun k => decide (m ≤ k) && decide ((costAt c i k : Int) ≤ bound)

/-- The grant level (R11); a DISABLED sled's is L15, and any other sled's with no grant is the loosest level that costs
nothing, where its table has one (R18; assumption 14). -/
def Run.grantLevel (c : Cfg) (r : Run) (i : Sled) : Level :=
  if (r.life i).state = .disabled then 15
  else (loosest c i 0 ((r.books i).grant + (r.books i).loan : Nat)).getD 15

/-- SAFE, or an emergency in RUN: the condition of R58. -/
def Run.raisesForbidden (r : Run) : Bool := r.mode == .safe || (r.mode == .run && r.zone.state == .emergency)

/-- The tighter of two levels. -/
def tighter (a b : Level) : Level := if a ≤ b then b else a

/-- The unramped target level: the tightest of the terms of Table 13 that are present (R12). -/
def Run.target (c : Cfg) (r : Run) (i : Sled) : Level :=
  let st := (r.life i).state
  let entering := st == .admitting || st == .tracking
  let safeTerm : Level := if r.mode == .safe && entering then 15 else 0
  let emergencyTerm : Level :=
    if r.mode == .run && r.zone.state == .emergency && entering then c.globals.emergencyLevel else 0
  let stateTerm : Level := if st == .tracking then 0 else 15
  tighter (r.grantLevel c i) (tighter (r.ceiling c i) (tighter safeTerm (tighter emergencyTerm stateTerm)))

/-! ## The books as sums (R23, R26) -/

def sumSleds (f : Sled → Nat) : Nat := (allSleds.map f).sum
def Run.sumGrants (r : Run) : Nat := sumSleds fun i => (r.books i).grant
def Run.sumLoans (r : Run) : Nat := sumSleds fun i => (r.books i).loan
def Run.sumDraining (r : Run) : Nat := sumSleds fun i => (r.books i).draining

/-- Headroom: signed, computed and not stored (R23). -/
def Run.headroom (r : Run) : Int := (r.pool.size : Int) - r.sumGrants - r.sumLoans - r.sumDraining

/-- The floors held (R26). -/
def Run.floorsHeld (c : Cfg) (r : Run) : Nat :=
  sumSleds fun i =>
    match (r.life i).state with
    | .tracking | .isolated => floorCost c i
    | .admitting => if (r.books i).floorReserved then floorCost c i else 0
    | .disabled | .absent | .standby => 0

/-! ## Notices (R172) -/

/-- Whether a post is taken: its kind is not masked, and SLED and POOL are not posted in CONFIG (R172). -/
def noticeAllowed (c : Cfg) (m : Mode) : Notice → Bool
  | .sled _ => c.mask.sled && m.works
  | .pool => c.mask.pool && m.works
  | .fault _ => c.mask.fault
  | .zone => c.mask.zone
  | .mode => c.mask.mode

def NoticeSet.insert (k : Notice) (n : NoticeSet) : NoticeSet :=
  match k with
  | .sled i => { n with sled := modAt i (fun _ => true) n.sled }
  | .pool => { n with pool := true }
  | .fault .severe => { n with severe := true }
  | .fault .advisory => { n with advisory := true }
  | .zone => { n with zone := true }
  | .mode => { n with mode := true }

def NoticeSet.erase (k : Notice) (n : NoticeSet) : NoticeSet :=
  match k with
  | .sled i => { n with sled := modAt i (fun _ => false) n.sled }
  | .pool => { n with pool := false }
  | .fault .severe => { n with severe := false }
  | .fault .advisory => { n with advisory := false }
  | .zone => { n with zone := false }
  | .mode => { n with mode := false }

/-- The first pending pair: by kind, and within a kind by subject (R173, Table 71). -/
def NoticeSet.first (n : NoticeSet) : Option Notice :=
  match allSleds.find? (fun i => n.sled.get i) with
  | some i => some (.sled i)
  | none =>
    if n.pool then some .pool
    else if n.severe then some (.fault .severe)
    else if n.advisory then some (.fault .advisory)
    else if n.zone then some .zone
    else if n.mode then some .mode
    else none

/-- Posts a notice (R172). -/
def Run.post (c : Cfg) (k : Notice) (r : Run) : Run :=
  if noticeAllowed c r.mode k then { r with notices := r.notices.insert k } else r

/-! ## Alert and zone readings -/

/-- Whether a pin level reads as asserted (R87, R95). -/
def Polarity.asserts (pol : Polarity) (p : Pin) : Bool := p != pol.deasserted

/-- Whether zone input `z` is accepted as asserted (R87). -/
def Run.zoneAsserted (c : Cfg) (r : Run) (z : ZoneNo) : Bool :=
  (c.globals.zonePolarity.get z).asserts (r.zone.filters.get z).accepted

/-- Whether an enabled zone input is accepted as asserted (R88 to R90). -/
def Run.zoneActive (c : Cfg) (r : Run) (z : ZoneNo) : Bool := c.globals.zoneEnable.get z && r.zoneAsserted c z
def Run.anyZoneActive (c : Cfg) (r : Run) : Bool := r.zoneActive c 0 || r.zoneActive c 1

/-- Sets a throttle channel back: L15, the dwell loaded, no boost step, carrier IDLE (R16). The latched lengths stay
(assumption 13). -/
def Channel.force (ramp : Nat) (x : Channel) : Channel :=
  { x with active := 15, dwell := ramp, boostStep := false, carrier := .idle, ticks := 0 }

end Sys2Proof.Machine
end

