-- ==== Sys2Proof/Machine/Flags.lean ====
section
/-! DEFINITION. The conditions the part computes from its state: the held flag (R42), the filtered alert level (R97),
votes (R79 to R81), ALARM_N (R147) and the THR lines (R10). -/

namespace Sys2Proof.Machine

open Sys2Proof

/-- Whether a class entry of sled `i` is held (R42). -/
def Run.holds (c : Cfg) (r : Run) (i : Sled) : Bool :=
  decide (costAt c i (r.ceiling c i) ≤ (r.books i).grant) || (r.books i).boost == .running || r.raisesForbidden

/-- Whether sled `i`'s alert line is filtered as ASSERTED: in service and accepted at the asserted level (R97). -/
def Run.alertLevel (c : Cfg) (r : Run) (i : Sled) : Bool :=
  (r.life i).state.inService && (c.sled i).alertPolarity.asserts (r.alert i).accepted

/-! ## Votes -/

def Heat.rank : Heat → Nat
  | .cool => 0
  | .warm => 1
  | .hot => 2

def Heat.hotter (a b : Heat) : Heat := if a.rank ≤ b.rank then b else a
def Heat.cooler (a b : Heat) : Heat := if a.rank ≤ b.rank then a else b

/-- One step cooler (R83). -/
def Heat.stepDown : Heat → Heat
  | .hot => .warm
  | .warm => .cool
  | .cool => .cool

/-- A probe's vote by its health (R79). -/
def probeVote (c : Cfg) (r : Run) (p : Probe) : Option Heat :=
  if (c.probe p).enable then
    match (r.probe p).health with
    | .unknown => none
    | .ok | .suspect => (r.probe p).lastClass
    | .lost => some (c.sled (sledOfProbe p)).lostVote
  else none

/-- The alert line's vote, when its role is HEAT (R80). -/
def alertVote (c : Cfg) (r : Run) (i : Sled) : Option Heat :=
  match (c.sled i).alertRole with
  | .heat =>
    if (r.alert i).filtered then (if (r.alert i).sustained then some .hot else some .warm) else some .cool
  | .ready | .none => none

/-- The votes of a sled's sources, probe A, probe B, alert line (R93). -/
def votesOf (c : Cfg) (r : Run) (i : Sled) : List (Option Heat) :=
  [probeVote c r (probeA i), probeVote c r (probeB i), alertVote c r i]

/-- The hottest or the coolest of the votes given; COOL when none is (R81). -/
def combineVotes (how : Combine) (votes : List Heat) : Heat :=
  match votes with
  | [] => .cool
  | v :: vs =>
    match how with
    | .any => vs.foldl Heat.hotter v
    | .all => vs.foldl Heat.cooler v

def combinedVote (c : Cfg) (r : Run) (i : Sled) : Heat :=
  combineVotes (c.sled i).combine ((votesOf c r i).filterMap id)

/-! ## Pins the part drives -/

/-- Whether ALARM_N is pulled low: the severe first record is valid or the mode is SAFE (R147). -/
def Run.alarm (r : Run) : Bool := r.severe.first.isSome || r.mode == .safe
def State.alarm (s : State) : Bool := !s.inReset && s.run.alarm

/-- How a THR line is driven (R10). -/
inductive Drive
  | high
  | low
  | highZ
deriving DecidableEq, Repr

/-- The level of a carrier half under a polarity (R8). -/
def DrivePolarity.level (pol : DrivePolarity) (admitHalf : Bool) : Drive :=
  match pol with
  | .admitHigh => if admitHalf then .high else .low
  | .admitLow => if admitHalf then .low else .high

/-- The THR line of sled `i` (R10, Table 12). -/
def State.thr (s : State) (i : Sled) : Drive :=
  if s.inReset then .low
  else
    let pol := (s.cfg.sled i).polarity
    match (s.run.life i).state with
    | .disabled => .highZ
    | .absent => pol.level false
    | .standby | .admitting | .tracking | .isolated => pol.level ((s.run.chan i).carrier == .admitting)

end Sys2Proof.Machine
end

