-- ==== Sys2Proof/Machine/Budget.lean ====
section
/-! DEFINITION. The Budget Unit's books and raise queue (Chapters 2 and 3), and the sled state changes that act on
them: entry to TRACKING (R65), isolation (R69, R70), the arbiter (R43 to R46), revocation (R47 to R49), reclaim (R50,
R51), boosts (R52 to R57). -/

namespace Sys2Proof.Machine

open Sys2Proof

/-! ## The raise queue (R38 to R42) -/

def QClass.rank : QClass → Nat
  | .floor => 0
  | .cls k => k.val + 1

/-- Puts an entry at the back of its class (R38). -/
def insertEntry (e : Entry) (q : List Entry) : List Entry :=
  q.takeWhile (fun x => decide (x.cls.rank ≤ e.cls.rank)) ++ e :: q.dropWhile (fun x => decide (x.cls.rank ≤ e.cls.rank))

def Run.queued (r : Run) (i : Sled) : Bool := r.queue.any fun e => e.sled == i

/-- The sled's entry leaves; those behind it close up (R41). -/
def Run.leaveQueue (i : Sled) (r : Run) : Run := { r with queue := r.queue.filter fun e => e.sled != i }

/-- The held flag of an entry (R42): a FLOOR entry is never held. -/
def Run.entryHeld (c : Cfg) (r : Run) (i : Sled) : QClass → Bool
  | .floor => false
  | .cls _ => r.holds c i

/-- Every held flag recomputed; an entry that goes from held to unheld triggers the arbiter (R42). -/
def Run.refreshHeld (c : Cfg) (r : Run) : Run :=
  { r with
    queue := r.queue.map fun e => { e with held := r.entryHeld c e.sled e.cls }
    arbiterDue := r.arbiterDue || r.queue.any fun e => e.held && !r.entryHeld c e.sled e.cls }

/-- An entry joins at the back of a class; unheld it triggers the arbiter, held it does not, a reclaimed sled's entry
among them (R39; assumption 10). -/
def Run.join (c : Cfg) (i : Sled) (k : QClass) (r : Run) : Run :=
  let h := r.entryHeld c i k
  { r with
    queue := insertEntry { sled := i, cls := k, wanted := (r.books i).wanted, held := h } r.queue
    arbiterDue := r.arbiterDue || !h }

/-- A TRACKING sled whose grant is below its cost at its wanted level joins, if it is not queued (R39). -/
def Run.joinIfShort (c : Cfg) (i : Sled) (r : Run) : Run :=
  if r.queued i || !((r.life i).state == .tracking) || decide (r.wantCost c i ≤ (r.books i).grant) then r
  else r.join c i (.cls (r.books i).cls)

/-! ## Boosts (R52, R55, R56) -/

/-- A RUNNING boost ends: the loan drains, the state is REARM, the sled leaves the boost list (R55). -/
def Run.endBoost (i : Sled) (r : Run) : Run :=
  { r.modBooks i fun b =>
      { b with draining := b.draining + b.loan, loan := 0, boost := .rearm, boostFrames := 0 } with
    boostList := r.boostList.filter fun j => j != i }

/-- A RUNNING boost ends early: as above, and the boost step pending mark is cleared (R56). The caller recomputes the
held flags. -/
def Run.endBoostEarly (i : Sled) (r : Run) : Run :=
  if (r.books i).boost == .running then (r.endBoost i).modChan i fun x => { x with boostStep := false } else r

/-- Every RUNNING boost ends early (R56, R58). -/
def Run.endAllBoosts (r : Run) : Run := allSleds.foldl (fun r i => r.endBoostEarly i) r

/-! ## Entry to TRACKING and isolation -/

/-- A sled becomes TRACKING: the admission count stops, a SLED notice is posted, and it joins the queue if its grant is
below its want (R65, R71). -/
def Run.becomeTracking (c : Cfg) (i : Sled) (r : Run) : Run :=
  ((r.modLife i fun l => { l with state := .tracking, admission := none }).post c (.sled i)).joinIfShort c i

/-- The books of a sled that is isolated: its boost ends, its grant is cut to the floor, its entry leaves (R69). -/
def Run.cutToFloor (c : Cfg) (i : Sled) (r : Run) : Run :=
  (((r.endBoostEarly i).modBooks i fun b =>
    { b with grant := min b.grant (floorCost c i), draining := b.draining + (b.grant - floorCost c i) }).leaveQueue i).refreshHeld c

/-- A sled becomes ISOLATED (R69). With its floor just reserved no units move (R70). -/
def Run.isolate (c : Cfg) (i : Sled) (r : Run) : Run :=
  (((r.modLife i fun l => { l with state := .isolated, admission := none, containPending := false }).cutToFloor c i)).post c (.sled i)

/-- A containment reaches a sled (R69, R70, Table 36). -/
def Run.containSled (c : Cfg) (i : Sled) (r : Run) : Run :=
  match (r.life i).state with
  | .disabled | .absent | .standby | .isolated => r
  | .tracking => r.isolate c i
  | .admitting =>
    if (r.books i).floorReserved then r.isolate c i else r.modLife i fun l => { l with containPending := true }

/-- An ADMITTING sled is looked at again: with its floor reserved it becomes ISOLATED if contain is pending, and
TRACKING if its awaiting set is empty (R65, R70). -/
def Run.settleAdmission (c : Cfg) (i : Sled) (r : Run) : Run :=
  let l := r.life i
  if l.state == .admitting && (r.books i).floorReserved then
    if l.containPending then r.isolate c i
    else if l.awaitA || l.awaitB then r else r.becomeTracking c i
  else r

/-! ## The arbiter (R43 to R46) -/

/-- The sled takes the newest place in the raise order (R46). -/
def Run.takeNewest (i : Sled) (r : Run) : Run := { r with raiseOrder := (r.raiseOrder.filter fun j => j != i) ++ [i] }

/-- A FLOOR entry is served: true when the walk goes on (R25, R44). -/
def Run.serveFloor (c : Cfg) (i : Sled) (r : Run) : Run × Bool :=
  if (floorCost c i : Int) ≤ r.headroom then
    ((((r.modBooks i fun b => { b with grant := floorCost c i, floorReserved := true }).leaveQueue i).takeNewest i).settleAdmission c i,
      true)
  else (r, false)

/-- The level a class entry's service raises the sled to, if it can be loosened at all (R45). -/
def Run.serviceLevel (c : Cfg) (r : Run) (i : Sled) : Option Level :=
  match loosest c i (tighter (r.books i).wanted (r.ceiling c i)) ((r.books i).grant + r.headroom) with
  | none => none
  | some k => if costAt c i k ≤ (r.books i).grant then none else some k

/-- A class entry is served: true when the walk goes on (R45). -/
def Run.serveClass (c : Cfg) (i : Sled) (r : Run) : Run × Bool :=
  match r.serviceLevel c i with
  | none => (r, false)
  | some k =>
    let r' := (r.modBooks i fun b => { b with grant := costAt c i k }).takeNewest i
    if r'.wantCost c i ≤ costAt c i k then (r'.leaveQueue i, true)
    else (r'.refreshHeld c, r'.holds c i)

/-- An entry is served by its class: true when the walk goes on (R44). -/
def Run.serveEntry (c : Cfg) (e : Entry) (r : Run) : Run × Bool :=
  match e.cls with
  | .floor => r.serveFloor c e.sled
  | .cls _ => r.serveClass c e.sled

/-- The walk from the front: each turn serves the first unheld entry, until one stops it (R44). -/
def Run.walk (c : Cfg) : Nat → Run → Run
  | 0, r => r
  | fuel + 1, r =>
    match r.queue.find? fun e => !e.held with
    | none => r
    | some e => if (r.serveEntry c e).2 then Run.walk c fuel (r.serveEntry c e).1 else (r.serveEntry c e).1

/-- The turns a walk can take: each ends with an entry gone or held, and a reserved floor brings at most one entry
more. -/
def walkTurns : Nat := 72

/-- One service of the arbiter (R43). -/
def Run.serve (c : Cfg) (r : Run) : Run := { r.walk c walkTurns with arbiterDue := false }

/-- The service at the end of an event, if the event brought a trigger (R43; assumption 10). -/
def Run.serveIfDue (c : Cfg) (r : Run) : Run := if r.arbiterDue then r.serve c else r

/-! ## Revocation (R47 to R49) -/

/-- What revocation has done so far: the books, the deficit left, whether anything was taken, and the sleds whose
grants were cut, in the order they were taken. -/
structure Revoked where
  run : Run
  deficit : Int
  taken : Bool
  cut : List Sled
deriving DecidableEq, Repr

/-- One RUNNING boost's loan is taken whole (R47). -/
def revokeLoan (v : Revoked) (i : Sled) : Revoked :=
  if v.deficit ≤ 0 || !((v.run.books i).boost == .running) then v
  else
    { v with
      run := v.run.endBoostEarly i
      deficit := v.deficit - (v.run.books i).loan
      taken := true }

/-- The grant a sled keeps under a deficit: its cost at the loosest level within the grant less the deficit, else its
floor cost (R48). -/
def keptGrant (c : Cfg) (i : Sled) (grant : Nat) (deficit : Int) : Nat :=
  match loosest c i 0 (grant - deficit) with
  | some k => costAt c i k
  | none => floorCost c i

/-- One sled's grant above its floor is cut (R48). -/
def revokeGrant (c : Cfg) (v : Revoked) (i : Sled) : Revoked :=
  let old := (v.run.books i).grant
  if v.deficit ≤ 0 || decide (old ≤ floorCost c i) then v
  else
    let new := keptGrant c i old v.deficit
    { run := v.run.modBooks i fun b => { b with grant := new, draining := b.draining + (old - new) }
      deficit := v.deficit - (old - new : Nat)
      taken := true
      cut := v.cut ++ [i] }

/-- The sleds in the order revocation takes their grants: class 3 to 0, newest raise first (R48). -/
def Run.revokeOrder (r : Run) : List Sled :=
  ([3, 2, 1, 0] : List (Fin 4)).flatMap fun k => r.raiseOrder.reverse.filter fun i => (r.books i).cls == k

/-- The sum of grants and loans less the pool size (R47). -/
def Run.deficit (r : Run) : Int := (r.sumGrants : Int) + r.sumLoans - r.pool.size

/-- Revocation, with its completion: joins in the order of the cuts (assumption 17), held flags, POOL notice (R47 to
R49). Nothing happens when the pool covers the grants and loans. -/
def Run.revoke (c : Cfg) (r : Run) : Run :=
  let v1 := r.boostList.reverse.foldl revokeLoan { run := r, deficit := r.deficit, taken := false, cut := [] }
  let v2 := v1.run.revokeOrder.foldl (revokeGrant c) v1
  if v2.taken then ((v2.cut.foldl (fun r i => r.joinIfShort c i) v2.run).refreshHeld c).post c .pool else r

/-- A new pool size: any deficit is revoked, and a rise in headroom triggers the arbiter (R28, R30). -/
def Run.resizePool (c : Cfg) (size : Nat) (r : Run) : Run :=
  ({ r with pool := { r.pool with size := size } }.revoke c).triggerIf (decide (r.pool.size < size))

/-! ## The lease (R28, R29) -/

/-- The lease starts from the lease period held (R28, R29). -/
def Pool.startLease (p : Pool) : Pool :=
  if p.leasePeriod = 0 then { p with leaseState := .none, leaseRemaining := 0 }
  else { p with leaseState := .running, leaseRemaining := p.leasePeriod }

/-- The lease stops (R29). -/
def Pool.stopLease (p : Pool) : Pool := { p with leaseState := .none, leaseRemaining := 0 }

/-! ## Step 4 of a boundary event (R34, R50, R51, R55) -/

/-- Substep 1: the draining figure returns to headroom. -/
def Run.returnDraining (i : Sled) (r : Run) : Run :=
  (r.modBooks i fun b => { b with draining := 0 }).triggerIf (decide (0 < (r.books i).draining))

/-- Substep 2: the boost record is advanced. -/
def Run.advanceBoost (c : Cfg) (i : Sled) (r : Run) : Run :=
  match (r.books i).boost with
  | .none => r
  | .rearm => r.modBooks i fun b => { b with boost := .none }
  | .running =>
    if (r.books i).boostFrames ≤ 1 then (r.endBoost i).refreshHeld c
    else r.modBooks i fun b => { b with boostFrames := b.boostFrames - 1 }

/-- Whether the reclaim counter rises at this boundary: R50's conditions as they stand at it, whatever came and went since
the last one (assumption 28). -/
def Run.reclaimCounts (c : Cfg) (r : Run) (i : Sled) : Bool :=
  (r.life i).state == .tracking && decide (r.grantLevel c i < r.ceiling c i) && r.mode == .run
    && !(r.zone.state == .emergency)

/-- The reclaim counter after a boundary; the boundary is the one a new count waits for (R50, R71, R156). -/
def Run.countReclaim (n : Nat) (i : Sled) (r : Run) : Run := r.modBooks i fun b => { b with reclaim := n, recount := false }

/-- What the reclaim counter counts on from: 0 where the count starts anew at this boundary (R71, R156). -/
def Books.counted (b : Books) : Nat := if b.recount then 0 else b.reclaim

/-- A reclaim: the grant is cut to the cost at the ceiling (R51). Its join is held, so it brings no service, as R39
states (assumption 10). -/
def Run.reclaim (c : Cfg) (i : Sled) (r : Run) : Run :=
  let keep := costAt c i (r.ceiling c i)
  let r' := r.countReclaim 0 i
  if (r.books i).grant ≤ keep then r'
  else
    ((r'.modBooks i fun b => { b with grant := keep, draining := b.draining + (b.grant - keep) }).joinIfShort c i).refreshHeld c

/-- Substep 3: the reclaim counter is advanced, and a reclaim is made when it reaches `reclaim_frames` (R50, R51). An
emergency, a relaxation of the ceiling or a grant cut that begins and ends between two boundaries leaves the count: R50's
bullets over its closing sentence, the model's choice (assumption 28). -/
def Run.advanceReclaim (c : Cfg) (i : Sled) (r : Run) : Run :=
  if r.reclaimCounts c i then
    if c.globals.reclaimFrames ≤ (r.books i).counted + 1 then r.reclaim c i
    else r.countReclaim ((r.books i).counted + 1) i
  else r.countReclaim 0 i

/-- Step 4 of the boundary event; its service is the event's (R55). -/
def Run.boundaryBooks (c : Cfg) (i : Sled) (r : Run) : Run :=
  ((r.returnDraining i).advanceBoost c i).advanceReclaim c i

/-! ## Wants and boosts accepted (R32, R33, R40, R54) -/

/-- The sled's new want and class, with the cut of R33: the units go to draining, or to the loan of a RUNNING boost. -/
def Run.storeWant (c : Cfg) (i : Sled) (want : Level) (k : Fin 4) (r : Run) : Run :=
  r.modBooks i fun b =>
    let cost := costAt c i want
    let cut := b.grant - cost
    { b with
      wanted := want
      cls := k
      grant := b.grant - cut
      loan := if b.boost == .running then b.loan + cut else b.loan
      draining := if b.boost == .running then b.draining else b.draining + cut }

/-- A queued sled's entry takes the new want in its place; on an unheld entry, a FLOOR entry among them, that is a
trigger (R40, R42, R43). -/
def Run.updateWant (i : Sled) (want : Level) (r : Run) : Run :=
  { r with
    queue := r.queue.map fun e => if e.sled == i then { e with wanted := want } else e
    arbiterDue := r.arbiterDue || r.queue.any fun e => e.sled == i && !e.held && e.wanted != want }

/-- The entry of a queued sled whose class differs leaves its place for the back of the new class; it counts as a join
(R40). -/
def Run.requeue (c : Cfg) (i : Sled) (k : Fin 4) (r : Run) : Run := (r.leaveQueue i).join c i (.cls k)

/-- What the raise queue does with an accepted SET_WANT (R39 to R41). -/
def Run.queueWant (c : Cfg) (i : Sled) (want : Level) (k : Fin 4) (r : Run) : Run :=
  match (r.life i).state with
  | .tracking =>
    if r.wantCost c i ≤ (r.books i).grant then r.leaveQueue i
    else if r.queue.any fun e => e.sled == i && e.cls == .cls k then r.updateWant i want
    else r.requeue c i k
  | .admitting => r.updateWant i want
  | .isolated | .standby | .absent | .disabled => r

/-- An accepted SET_WANT (R32). -/
def Run.setWant (c : Cfg) (i : Sled) (want : Level) (k : Fin 4) (r : Run) : Run :=
  ((r.storeWant c i want k).queueWant c i want k).refreshHeld c

/-- An accepted BOOST (R54). -/
def Run.startBoost (c : Cfg) (i : Sled) (frames : Nat) (r : Run) : Run :=
  ({ (r.modBooks i fun b =>
        { b with loan := costAt c i 0 - b.grant, boost := .running, boostFrames := frames }).modChan i
        fun x => { x with boostStep := true } with
      boostList := r.boostList ++ [i] }).refreshHeld c

/-- The books of a removed sled, and its places in the queue and the lists (R35, R57, R46). -/
def Run.zeroBooks (i : Sled) (r : Run) : Run :=
  let b := r.books i
  (({ (r.modBooks i fun _ => .initial) with
      raiseOrder := r.raiseOrder.filter fun j => j != i
      boostList := r.boostList.filter fun j => j != i }).leaveQueue i).triggerIf
    (decide (0 < b.grant + b.loan + b.draining))

/-- Every book, the queue and the lists on SET_MODE CONFIG; wants and classes are kept (R36, R57, R157). -/
def Run.clearBooks (r : Run) : Run :=
  { r with
    pool := r.pool.stopLease
    sleds := mapAt (fun _ x => { x with books := { Books.initial with wanted := x.books.wanted, cls := x.books.cls } }) r.sleds
    queue := []
    raiseOrder := []
    boostList := [] }

end Sys2Proof.Machine
end

