-- ==== Sys2Proof/Machine/Operands.lean ====
section
/-! DEFINITION. The bytes of requests, replies and notices: numbers high byte first (R175), the codes of Table 75, the
checks made at a payload offset (R175), and the records of Tables 76 and 77 in both directions. -/

namespace Sys2Proof.Machine

open Sys2Proof

/-! ## Numbers in a payload (R175) -/

/-- The byte at an offset, as a number. -/
def byteAt (p : List Byte) (k : Nat) : Nat := (p.getD k 0).toNat
def wordAt (p : List Byte) (k : Nat) : Nat := byteAt p k * 256 + byteAt p (k + 1)
def longAt (p : List Byte) (k : Nat) : Nat := wordAt p k * 65536 + wordAt p (k + 2)
/-- A four-byte figure in two's complement. -/
def signedAt (p : List Byte) (k : Nat) : Int := (BitVec.ofNat 32 (longAt p k)).toInt

def put8 (n : Nat) : List Byte := [BitVec.ofNat 8 n]
def put16 (n : Nat) : List Byte := [BitVec.ofNat 8 (n / 256), BitVec.ofNat 8 n]
def put32 (n : Nat) : List Byte :=
  [BitVec.ofNat 8 (n / 16777216), BitVec.ofNat 8 (n / 65536), BitVec.ofNat 8 (n / 256), BitVec.ofNat 8 n]
def putSigned16 (n : Int) : List Byte := put16 (BitVec.ofInt 16 n).toNat
def putSigned32 (n : Int) : List Byte := put32 (BitVec.ofInt 32 n).toNat
def putFlag (b : Bool) : List Byte := put8 (if b then 1 else 0)

/-! ## Codes (Table 75) -/

/-- The reply statuses (Table 69). -/
inductive Status
  | ok
  | badLength
  | badType
  | badField
  | wrongMode
  | busy
  | notPresent
  | notAllowed
  | lapsed
  | poolTooSmall
  | invalidConfig
deriving DecidableEq, Repr

def Status.code : Status → Nat
  | .ok => 0
  | .badLength => 1
  | .badType => 2
  | .badField => 3
  | .wrongMode => 4
  | .busy => 5
  | .notPresent => 6
  | .notAllowed => 7
  | .lapsed => 8
  | .poolTooSmall => 9
  | .invalidConfig => 10

def Mode.code : Mode → Nat
  | .config => 0
  | .run => 1
  | .safe => 2

def Cause.code : Cause → Nat
  | .pinReset => 0
  | .softReset => 1
  | .request => 2
  | .fault => 3

def ItemKind.code : ItemKind → Nat
  | .levels => 1
  | .costs => 2
  | .ceilings => 3
  | .thresholds => 4
  | .script => 5

/-- Validation result, item kind and index, the last two 0 unless FAILED (Table 78). -/
def Validation.codes : Validation → Nat × Nat × Nat
  | .none => (0, 0, 0)
  | .passed => (1, 0, 0)
  | .failed k i => (2, k.code, i)

def SledState.code : SledState → Nat
  | .disabled => 0
  | .absent => 1
  | .standby => 2
  | .admitting => 3
  | .tracking => 4
  | .isolated => 5

def Heat.code (h : Heat) : Nat := h.rank
def Heat.ofCode : Nat → Heat
  | 0 => .cool
  | 1 => .warm
  | _ => .hot

def DrivePolarity.code : DrivePolarity → Nat
  | .admitHigh => 0
  | .admitLow => 1
def DrivePolarity.ofCode (n : Nat) : DrivePolarity := if n = 0 then .admitHigh else .admitLow

def Polarity.code : Polarity → Nat
  | .assertHigh => 0
  | .assertLow => 1
def Polarity.ofCode (n : Nat) : Polarity := if n = 0 then .assertHigh else .assertLow

def AlertRole.code : AlertRole → Nat
  | .heat => 0
  | .ready => 1
  | .none => 2
def AlertRole.ofCode : Nat → AlertRole
  | 0 => .heat
  | 1 => .ready
  | _ => .none

def Combine.code : Combine → Nat
  | .any => 0
  | .all => 1
def Combine.ofCode (n : Nat) : Combine := if n = 0 then .any else .all

def ProbeMode.code : ProbeMode → Nat
  | .direct => 0
  | .ready => 1
  | .self => 2
def ProbeMode.ofCode : Nat → ProbeMode
  | 0 => .direct
  | 1 => .ready
  | _ => .self

def Format.code : Format → Nat
  | .u8 => 0
  | .u16 => 1
  | .s16 => 2
def Format.ofCode : Nat → Format
  | 0 => .u8
  | 1 => .u16
  | _ => .s16

def LaneSpeed.code : LaneSpeed → Nat
  | .khz100 => 0
  | .khz400 => 1
def LaneSpeed.ofCode (n : Nat) : LaneSpeed := if n = 0 then .khz100 else .khz400

def Action.code : Action → Nat
  | .ignore => 0
  | .report => 1
  | .contain => 2
  | .safe => 3
def Action.ofCode : Nat → Action
  | 0 => .ignore
  | 1 => .report
  | 2 => .contain
  | _ => .safe

def QClass.code : QClass → Nat
  | .floor => 15
  | .cls k => k.val

def LeaseState.code : LeaseState → Nat
  | .none => 0
  | .running => 1
  | .lapsed => 2

def BoostState.code : BoostState → Nat
  | .none => 0
  | .running => 1
  | .rearm => 2

def ZoneState.code : ZoneState → Nat
  | .normal => 0
  | .emergency => 1
  | .releasing => 2

def Health.code : Health → Nat
  | .unknown => 0
  | .ok => 1
  | .suspect => 2
  | .lost => 3

def Reason.code : Reason → Nat
  | .nakInit => 1
  | .nakRead => 2
  | .implausible => 3
  | .noReady => 4
  | .laneAbort => 5
  | .laneFailed => 6

def RunState.code : RunState → Nat
  | .idle => 0
  | .queued => 1
  | .active => 2

def LaneState.code : LaneState → Nat
  | .idle => 0
  | .busy => 1
  | .recover => 2
  | .failed => 3

def Phase.code : Phase → Nat
  | .init => 1
  | .settle => 2
  | .wait => 3
  | .read => 4

/-- Subject kind and index, the index 0 for the pool and the link (R176). -/
def Subject.codes : Subject → Nat × Nat
  | .probe p => (0, p.val)
  | .lane n => (1, n.val)
  | .sled i => (2, i.val)
  | .zoneInput z => (3, z.val)
  | .pool => (4, 0)
  | .link => (5, 0)

def FaultClass.index : FaultClass → Fin 10
  | .probeLost => 0
  | .readingImplausible => 1
  | .laneStuck => 2
  | .alertStuck => 3
  | .admitTimeout => 4
  | .hotPersist => 5
  | .zoneAlarm => 6
  | .leaseLapsed => 7
  | .pollOverrun => 8
  | .linkFrame => 9

/-- The link error kinds (R164). -/
inductive LinkError
  | truncated
  | length
  | crc
  | overrun
deriving DecidableEq, Repr

def LinkError.code : LinkError → Nat
  | .truncated => 1
  | .length => 2
  | .crc => 3
  | .overrun => 4

def pinCode : Pin → Nat
  | .low => 0
  | .high => 1

def Severity.code : Severity → Nat
  | .severe => 0
  | .advisory => 1

def putCount (k : Count) (put : Nat → List Byte) : List Byte := put (k.getD 0)

/-! ## Checks at an offset (R175) -/

/-- One check of a request: the offset of its field, and whether it passes. -/
abbrev Check := Nat × Bool

/-- The offset of the first failing check; the checks stand in the order of offsets (R175). -/
def firstFailing (cs : List Check) : Option Nat := (cs.find? fun c => !c.2).map (·.1)

def flagCheck (p : List Byte) (k : Nat) : Check := (k, decide (byteAt p k ≤ 1))
def atMost (p : List Byte) (k n : Nat) : Check := (k, decide (byteAt p k ≤ n))
def byteIn (p : List Byte) (k lo hi : Nat) : Check := (k, decide (lo ≤ byteAt p k) && decide (byteAt p k ≤ hi))
def wordIn (p : List Byte) (k lo hi : Nat) : Check := (k, decide (lo ≤ wordAt p k) && decide (wordAt p k ≤ hi))
def longIn (p : List Byte) (k lo hi : Nat) : Check := (k, decide (lo ≤ longAt p k) && decide (longAt p k ≤ hi))
/-- The range of a threshold (Table 54). -/
def thresholdCheck (p : List Byte) (k : Nat) : Check :=
  (k, decide (-32768 ≤ signedAt p k) && decide (signedAt p k ≤ 65535))

/-- The index a byte names, once its range has been checked. -/
def finAt (n : Nat) [NeZero n] (p : List Byte) (k : Nat) : Fin n := Fin.ofNat n (byteAt p k)

/-! ## The global record (Table 76) -/

/-- The eleven values of `prescale` (R1). -/
def prescales : List Nat := [1, 2, 4, 8, 16, 32, 64, 128, 256, 512, 1024]

/-- The largest offset held in any sled record (R5). -/
def Cfg.largestOffset (c : Cfg) : Nat := (allSleds.map fun i => (c.sled i).offset).foldl Nat.max 0

/-- The checks of WRITE_GLOBALS (R1, R5, R50, R60, R78, R87, R94, R105). -/
def globalsChecks (c : Cfg) (p : List Byte) : List Check :=
  [(0, prescales.contains (wordAt p 0)),
   (2, decide (256 ≤ wordAt p 2) && decide (c.largestOffset < wordAt p 2)),
   byteIn p 4 1 255, atMost p 5 15, byteIn p 6 1 255, wordIn p 7 1 65535, wordIn p 9 100 65535,
   atMost p 11 15, atMost p 12 15, byteIn p 13 1 15, byteIn p 14 1 255, wordIn p 15 1 3600,
   flagCheck p 17, flagCheck p 18, flagCheck p 19, flagCheck p 20,
   wordIn p 21 1 1000, wordIn p 23 0 60000, flagCheck p 25,
   byteIn p 26 1 15, wordIn p 27 1 65535, longIn p 29 100 600000,
   flagCheck p 33, flagCheck p 34, flagCheck p 35, flagCheck p 36,
   byteIn p 37 1 255, byteIn p 38 1 255, byteIn p 39 1 255, byteIn p 40 1 255]

def decodeGlobals (p : List Byte) : Globals where
  prescale := wordAt p 0
  frameTicks := wordAt p 2
  rampFrames := byteAt p 4
  emergencyLevel := finAt 16 p 5
  reclaimFrames := byteAt p 6
  presenceSettleMs := wordAt p 7
  admitLimitMs := wordAt p 9
  warmCeiling := finAt 16 p 11
  hotCeiling := finAt 16 p 12
  escalateCount := byteAt p 13
  relaxCount := byteAt p 14
  hotLimitS := wordAt p 15
  zoneEnable := tabulate fun z => byteAt p (17 + z.val) == 1
  zonePolarity := tabulate fun z => .ofCode (byteAt p (19 + z.val))
  zoneSettleMs := wordAt p 21
  zoneReleaseMs := wordAt p 23
  zoneLatch := byteAt p 25 == 1
  alertFilter := byteAt p 26
  sustainMs := wordAt p 27
  stuckMs := longAt p 29
  laneSpeed := tabulate fun n => .ofCode (byteAt p (33 + n.val))
  laneTimeoutMs := tabulate fun n => byteAt p (37 + n.val)

def encodeGlobals (g : Globals) : List Byte :=
  put16 g.prescale ++ put16 g.frameTicks ++ put8 g.rampFrames ++ put8 g.emergencyLevel.val ++ put8 g.reclaimFrames
    ++ put16 g.presenceSettleMs ++ put16 g.admitLimitMs ++ put8 g.warmCeiling.val ++ put8 g.hotCeiling.val
    ++ put8 g.escalateCount ++ put8 g.relaxCount ++ put16 g.hotLimitS
    ++ putFlag (g.zoneEnable.get 0) ++ putFlag (g.zoneEnable.get 1)
    ++ put8 (g.zonePolarity.get 0).code ++ put8 (g.zonePolarity.get 1).code
    ++ put16 g.zoneSettleMs ++ put16 g.zoneReleaseMs ++ putFlag g.zoneLatch
    ++ put8 g.alertFilter ++ put16 g.sustainMs ++ put32 g.stuckMs
    ++ (allLanes.flatMap fun n => put8 (g.laneSpeed.get n).code) ++ (allLanes.flatMap fun n => put8 (g.laneTimeoutMs.get n))

/-! ## The level table (R6, R170) -/

/-- The entries a WRITE_LEVELS payload carries. -/
def levelCount (p : List Byte) : Nat := (p.length - 1) / 2

def levelsChecks (p : List Byte) : List Check :=
  (0, decide (byteAt p 0 ≤ 15)) :: (0, decide (byteAt p 0 + levelCount p ≤ 16)) ::
    (List.range (levelCount p)).map fun j => (1 + 2 * j, decide (1 ≤ byteAt p (1 + 2 * j)))

/-- The level table after WRITE_LEVELS: entry j goes to level first + j. -/
def decodeLevels (p : List Byte) (old : Vector LevelEntry 16) : Vector LevelEntry 16 :=
  mapAt (fun k e =>
    let first := byteAt p 0
    if first ≤ k.val ∧ k.val < first + levelCount p then
      { admitTicks := byteAt p (1 + 2 * (k.val - first)), holdTicks := byteAt p (2 + 2 * (k.val - first)) }
    else e) old

def encodeLevels (v : Vector LevelEntry 16) : List Byte :=
  put8 0 ++ allLevels.flatMap fun k => put8 (v.get k).admitTicks ++ put8 (v.get k).holdTicks

/-! ## The sled and probe records (Table 77) -/

/-- The checks of WRITE_SLED (R5, R21, R60, R94). -/
def sledChecks (c : Cfg) (p : List Byte) : List Check :=
  [atMost p 0 23, flagCheck p 1, (2, decide (wordAt p 2 < c.globals.frameTicks)), flagCheck p 4]
    ++ (allLevels.map fun k => wordIn p (5 + 2 * k.val) 0 1023)
    ++ [flagCheck p 37, atMost p 38 2, flagCheck p 39, atMost p 40 2]

def decodeSled (p : List Byte) : SledCfg where
  enable := byteAt p 1 == 1
  offset := wordAt p 2
  polarity := .ofCode (byteAt p 4)
  cost := tabulate fun k => wordAt p (5 + 2 * k.val)
  alertPolarity := .ofCode (byteAt p 37)
  alertRole := .ofCode (byteAt p 38)
  combine := .ofCode (byteAt p 39)
  lostVote := .ofCode (byteAt p 40)

def encodeSled (i : Sled) (x : SledCfg) : List Byte :=
  put8 i.val ++ putFlag x.enable ++ put16 x.offset ++ put8 x.polarity.code
    ++ (allLevels.flatMap fun k => put16 (x.cost.get k))
    ++ put8 x.alertPolarity.code ++ put8 x.alertRole.code ++ put8 x.combine.code ++ put8 x.lostVote.code

/-- The checks of WRITE_PROBE (R119). -/
def probeChecks (p : List Byte) : List Check :=
  [atMost p 0 47, flagCheck p 1, atMost p 2 2, atMost p 3 127, atMost p 4 64, flagCheck p 5, flagCheck p 6,
   atMost p 7 255, atMost p 8 2, flagCheck p 9,
   thresholdCheck p 10, thresholdCheck p 14, thresholdCheck p 18, thresholdCheck p 22,
   wordIn p 26 10 65535, atMost p 28 255, byteIn p 29 1 255, atMost p 30 7, byteIn p 31 1 15, byteIn p 32 1 2]

def decodeProbe (p : List Byte) : ProbeCfg where
  enable := byteAt p 1 == 1
  mode := .ofCode (byteAt p 2)
  address := byteAt p 3
  initCount := byteAt p 4
  initEvery := byteAt p 5 == 1
  seq := byteAt p 6 == 1
  readRegister := byteAt p 7
  format := .ofCode (byteAt p 8)
  swap := byteAt p 9 == 1
  underLimit := signedAt p 10
  warmOver := signedAt p 14
  hotOver := signedAt p 18
  upperLimit := signedAt p 22
  pollMs := wordAt p 26
  settleMs := byteAt p 28
  waitMs := byteAt p 29
  nakRetries := byteAt p 30
  lostLimit := byteAt p 31
  selfClass := .ofCode (byteAt p 32)

def encodeProbe (n : Probe) (x : ProbeCfg) : List Byte :=
  put8 n.val ++ putFlag x.enable ++ put8 x.mode.code ++ put8 x.address ++ put8 x.initCount ++ putFlag x.initEvery
    ++ putFlag x.seq ++ put8 x.readRegister ++ put8 x.format.code ++ putFlag x.swap
    ++ putSigned32 x.underLimit ++ putSigned32 x.warmOver ++ putSigned32 x.hotOver ++ putSigned32 x.upperLimit
    ++ put16 x.pollMs ++ put8 x.settleMs ++ put8 x.waitMs ++ put8 x.nakRetries ++ put8 x.lostLimit
    ++ put8 x.selfClass.code

/-! ## The script memory (R121) -/

def scriptWriteChecks (p : List Byte) : List Check :=
  [(0, decide (wordAt p 0 ≤ 511)), (0, decide (wordAt p 0 + (p.length - 2) ≤ 512))]

/-- The script memory after WRITE_SCRIPT: the data bytes from the offset upward. -/
def writeScriptBytes (p : List Byte) (old : Vector Byte 512) : Vector Byte 512 :=
  mapAt (fun k b =>
    if wordAt p 0 ≤ k.val ∧ k.val < wordAt p 0 + (p.length - 2) then p.getD (2 + (k.val - wordAt p 0)) 0 else b) old

/-- The byte of the script memory at an offset (0 beyond its end, where no checked request and no validated segment
reads). -/
def scriptByte (v : Vector Byte 512) (k : Nat) : Byte := v.toList.getD k 0

def scriptReadChecks (p : List Byte) : List Check :=
  [(0, decide (wordAt p 0 ≤ 511)), (0, decide (wordAt p 0 + byteAt p 2 ≤ 512)), byteIn p 2 1 48]

def readScriptBytes (p : List Byte) (v : Vector Byte 512) : List Byte :=
  (List.range (byteAt p 2)).map fun j => scriptByte v (wordAt p 0 + j)

/-! ## Routing and notice mask (R139, R174) -/

/-- CONTAIN is not allowed for ZONE_ALARM, LEASE_LAPSED and LINK_FRAME (R139). -/
def routingChecks (p : List Byte) : List Check :=
  (List.range 10).map fun k =>
    (k, decide (byteAt p k ≤ 3) && !(byteAt p k == 2 && (k == 6 || k == 7 || k == 9)))

def decodeRouting (p : List Byte) : Vector Action 10 := tabulate fun k => .ofCode (byteAt p k.val)
def encodeRouting (v : Vector Action 10) : List Byte := (List.finRange 10).flatMap fun k => put8 (v.get k).code

def noticesChecks (p : List Byte) : List Check := (List.range 5).map (flagCheck p)

def decodeMask (p : List Byte) : NoticeMask where
  sled := byteAt p 0 == 1
  pool := byteAt p 1 == 1
  fault := byteAt p 2 == 1
  zone := byteAt p 3 == 1
  mode := byteAt p 4 == 1

/-! ## Frames on the wire (R162) -/

/-- One byte into the CRC, most significant bit first, polynomial 0x1021. -/
def crcByte (crc : BitVec 16) (b : Byte) : BitVec 16 :=
  (List.range 8).foldl (fun x _ => if x.msb then (x <<< 1) ^^^ 0x1021#16 else x <<< 1) (crc ^^^ (b.zeroExtend 16 <<< 8))

/-- The CRC of a run of bytes: starts from 0xFFFF, no final inversion. -/
def crcOf (bs : List Byte) : BitVec 16 := bs.foldl crcByte 0xFFFF#16

/-- The two CRC bytes, high byte first. -/
def crcBytes (bs : List Byte) : List Byte := [(crcOf bs).extractLsb' 8 8, (crcOf bs).extractLsb' 0 8]

/-- TAG, TYPE and payload. -/
def Frame.inner (f : Frame) : List Byte := f.tag :: f.type :: f.payload

/-- LEN: the count of TAG, TYPE and payload. -/
def Frame.len (f : Frame) : Byte := BitVec.ofNat 8 f.inner.length

/-- The frame's bytes on the line (Table 73). -/
def Frame.wire (f : Frame) : List Byte := [0xC3#8] ++ [f.len] ++ f.inner ++ crcBytes (f.len :: f.inner)

/-- A bit as a level on the line: a set bit is high (R161). -/
def lineLevel (bit : Bool) : Pin := if bit then .high else .low

/-- The ten levels of a byte on the line: start bit, eight data bits least significant first, stop bit (R161). -/
def lineLevels (b : Byte) : List Pin := [.low] ++ (List.range 8).map (fun k => lineLevel (b.getLsbD k)) ++ [.high]

/-- The byte that eight data bits make, the first of them least significant (R161). -/
def byteOfLevels (bits : List Pin) : Byte := BitVec.ofNat 8 (bits.foldr (fun x n => 2 * n + if x = .high then 1 else 0) 0)

end Sys2Proof.Machine
end

