-- ==== Sys2Proof/Machine/Faults.lean ====
section
/-! DEFINITION. The Fault Recorder (Chapter 9): taking a fault is one shared operation, with containment and the move to
SAFE inside it (R140); and the records' clear (R145). -/

namespace Sys2Proof.Machine

open Sys2Proof

/-- The severity an action records at (Table 61). -/
def Action.severity : Action → Option Severity
  | .ignore => none
  | .report => some .advisory
  | .contain | .safe => some .severe

/-- A fault recorded at a severity: it fills an empty first record, or is counted as later (R141). -/
def SeverityRecord.take (f : FaultRecord) (v : SeverityRecord) : SeverityRecord :=
  match v.first with
  | none => { v with first := some f }
  | some _ =>
    { v with
      laterSet := v.laterSet ||| (1#16 <<< f.cls.index.val)
      laterCount := satSucc 255 v.laterCount }

def Run.severity (r : Run) : Severity → SeverityRecord
  | .severe => r.severe
  | .advisory => r.advisory

/-- The fault is recorded at its severity and a FAULT notice is posted (R140 step 3). -/
def Run.record (c : Cfg) (v : Severity) (f : FaultRecord) (r : Run) : Run :=
  match v with
  | .severe => { r with severe := r.severe.take f }.post c (.fault .severe)
  | .advisory => { r with advisory := r.advisory.take f }.post c (.fault .advisory)

/-- The sleds a CONTAIN-routed fault's subject covers (R143). -/
def Run.covered (r : Run) : Subject → List Sled
  | .probe p => [sledOfProbe p]
  | .sled i => [i]
  | .lane n => (sledsOfLane n).filter fun i => (r.life i).state == .admitting || (r.life i).state == .tracking
  | .zoneInput _ | .pool | .link => []

/-- Containment of each sled covered, lowest first, each taken whole (R143). -/
def Run.contain (c : Cfg) (s : Subject) (r : Run) : Run := (r.covered s).foldl (fun r i => r.containSled c i) r

/-- The demand for SAFE: in RUN the mode becomes SAFE, boosts end and class entries are held (R144, R155). ALARM_N
follows by itself (`Run.alarm`). -/
def Run.demandSafe (c : Cfg) (r : Run) : Run :=
  match r.mode with
  | .run => (({ r with mode := .safe, cause := .fault }.endAllBoosts).refreshHeld c).post c .mode
  | .config | .safe => r

/-- A fault is raised and taken, through the steps of R140, within the raising event. -/
def Run.raise (c : Cfg) (k : FaultClass) (s : Subject) (detail : Nat) (r : Run) : Run :=
  let f : FaultRecord := { cls := k, subject := s, time := r.clock.stamp, detail := detail }
  match c.routing.get k.index with
  | .ignore => r
  | .report => r.record c .advisory f
  | .contain => (r.record c .severe f).contain c s
  | .safe => (r.record c .severe f).demandSafe c

/-- CLEAR_FAULTS: both records, sets and counts (R145). -/
def Run.clearFaults (r : Run) : Run := { r with severe := .empty, advisory := .empty }

end Sys2Proof.Machine
end

