-- ==== Sys2Proof/Machine/Thermal.lean ====
section
/-! DEFINITION. The Thermal Evaluator's evaluation (R82 to R85). -/

namespace Sys2Proof.Machine

open Sys2Proof

/-- The counters and the state after one combined vote (R83). -/
def Thermal.count (g : Globals) (v : Heat) (t : Thermal) : Thermal :=
  let t := { t with combined := some v }
  if t.state.rank < v.rank then
    if g.escalateCount ≤ t.escalate + 1 then { t with escalate := 0, relax := 0, state := v }
    else { t with escalate := t.escalate + 1, relax := 0 }
  else if v.rank < t.state.rank then
    if g.relaxCount ≤ t.relax + 1 then { t with escalate := 0, relax := 0, state := t.state.stepDown }
    else { t with escalate := 0, relax := t.relax + 1 }
  else { t with escalate := 0, relax := 0 }

/-- The hot-persist count at a change of state: an episode of HOT begins or ends (R85). -/
def Thermal.episode (g : Globals) (old : Heat) (t : Thermal) : Thermal :=
  if t.state == .hot && old != .hot then { t with hotPersist := some (g.hotLimitS * 1000), hotRaised := false }
  else if t.state != .hot && old == .hot then { t with hotPersist := none }
  else t

/-- What a change of thermal state hands on (R84): an escalation from COOL ends the boost, the held flags are
recomputed, a SLED notice is posted. -/
def Run.handThermal (c : Cfg) (i : Sled) (old : Heat) (r : Run) : Run :=
  if (r.therm i).state == old then r
  else ((if old == .cool then r.endBoostEarly i else r).refreshHeld c).post c (.sled i)

/-- One evaluation of a sled, while it is in service (R82 to R84). -/
def Run.evaluate (c : Cfg) (i : Sled) (r : Run) : Run :=
  if (r.life i).state.inService then
    let old := (r.therm i).state
    let v := combinedVote c r i
    (r.modTherm i fun t => (t.count c.globals v).episode c.globals old).handThermal c i old
  else r

end Sys2Proof.Machine
end

