-- ==== Sys2Proof/Machine/Lanes.lean ====
section
/-! DEFINITION. Sensor lanes, what they drive and read on their pins, poll scheduling and probe operations (Chapters 7 and
8). -/

namespace Sys2Proof.Machine

open Sys2Proof

/-! ## Script segments and the transactions of a poll (R122, R125, R128) -/

/-- Where an enabled probe's segment begins: twice the pairs of the enabled probes below it (R122). -/
def segmentStart (c : Cfg) (p : Probe) : Nat :=
  2 * ((allProbes.filter fun q => decide (q < p) && (c.probe q).enable).map fun q => (c.probe q).initCount).sum

/-- The probe's pairs of register and value, pair 0 first (R122). -/
def scriptPairs (c : Cfg) (p : Probe) : List (Byte × Byte) :=
  (List.range (c.probe p).initCount).map fun j =>
    (scriptByte c.script (segmentStart c p + 2 * j), scriptByte c.script (segmentStart c p + 2 * j + 1))

/-- What a lane puts on its bus in a transaction (R107). -/
inductive BusStep
  | start
  | repeatedStart
  | send (b : Byte)
  | receive (acknowledge : Bool)
  | stop
deriving DecidableEq, Repr

/-- An address byte: the 7-bit address, then the direction bit, set to read (R125, R128). -/
def addressByte (x : ProbeCfg) (read : Bool) : Byte := BitVec.ofNat 8 (2 * x.address + (if read then 1 else 0))

/-- The groups of a `seq` phase: runs of pairs whose registers rise by one; 255 then 0 starts a new group (R125). -/
def groupPairs : List (Byte × Byte) → List (List (Byte × Byte))
  | [] => []
  | a :: rest =>
    match groupPairs rest with
    | (b :: g) :: gs => if b.1.toNat = a.1.toNat + 1 then (a :: b :: g) :: gs else [a] :: (b :: g) :: gs
    | gs => [a] :: gs

/-- A group on the bus: its address byte, its first register and its values (R125). -/
def groupSteps (x : ProbeCfg) (g : List (Byte × Byte)) : List BusStep :=
  .send (addressByte x false) :: (g.head?.map fun a => BusStep.send a.1).toList ++ g.map fun a => .send a.2

/-- The transactions of a probe's INIT phase (R125). -/
def initTransactions (c : Cfg) (p : Probe) : List (List BusStep) :=
  let x := c.probe p
  if x.seq then
    [.start :: (List.intercalate [.repeatedStart] ((groupPairs (scriptPairs c p)).map (groupSteps x))) ++ [.stop]]
  else (scriptPairs c p).map fun a => .start :: groupSteps x [a] ++ [.stop]

/-- How many transactions INIT makes (R125). -/
def initTransactionCount (x : ProbeCfg) : Nat := if x.seq then 1 else x.initCount

/-- The READ transaction: the last data byte read is not acknowledged (R107, R128). -/
def readTransaction (x : ProbeCfg) : List BusStep :=
  [.start, .send (addressByte x false), .send (BitVec.ofNat 8 x.readRegister), .repeatedStart, .send (addressByte x true)]
    ++ (match x.format with
        | .u8 => [.receive false]
        | .u16 | .s16 => [.receive true, .receive false])
    ++ [.stop]

/-- The transaction a poll has open, if its phase has one (R124). -/
def Poll.openTransaction (c : Cfg) (p : Poll) : Option (List BusStep) :=
  match p.phase with
  | .init => (initTransactions c p.probe)[p.transaction]?
  | .read => some (readTransaction (c.probe p.probe))
  | .settle | .wait => none

/-- What a transaction comes to when it is cut short after the bus steps begun, the last of them under way: that step is
finished, a byte through its acknowledge bit, and a stop follows unless it was the stop. A not-acknowledged byte ends so
(R129), and so does an abort, where the lane does not acknowledge a read byte (R116; assumption 27). -/
def cutShort (begun : List BusStep) : List BusStep :=
  match begun.getLast? with
  | none | some .stop => begun
  | some (.receive _) => begun.dropLast ++ [.receive false, .stop]
  | some .start | some .repeatedStart | some (.send _) => begun ++ [.stop]

/-- The pin steps a lane takes, in order (R107, R109). -/
inductive PinStep
  | sclLow
  | sclRelease
  | sdaLow
  | sdaRelease
  | waitSclHigh
  | waitSdaHigh
  | waitBusFree
  | halfPeriod
  | sampleSda
deriving DecidableEq, Repr

/-- One bit on the lane, with SDA pulled low or released while SCL is low (R107). -/
def bitSteps (release : Bool) : List PinStep :=
  [if release then .sdaRelease else .sdaLow, .sclRelease, .waitSclHigh, .sampleSda, .halfPeriod, .sclLow]

/-- The pin steps of a bus step (R107). A start waits until both pins read high at once. A received byte is eight released
bits and the lane's own acknowledge bit. -/
def BusStep.pins : BusStep → List PinStep
  | .start => [.waitBusFree, .sdaLow, .halfPeriod, .sclLow]
  | .repeatedStart => [.sdaRelease, .sclRelease, .waitSclHigh, .sdaLow, .halfPeriod, .sclLow]
  | .send b => ((List.range 8).flatMap fun k => bitSteps (b.getMsbD k)) ++ bitSteps true
  | .receive acknowledge => (List.replicate 8 (bitSteps true)).flatten ++ bitSteps (!acknowledge)
  | .stop => [.sdaLow, .sclRelease, .waitSclHigh, .sdaRelease, .waitSdaHigh]

/-- The pulses of a recovery attempt, given the SDA samples it would take: it stops pulsing at the first high, after
nine at most (R109). -/
def recoveryPulses (samples : List Pin) : Nat :=
  min 9 ((samples.take 9).takeWhile (fun x => x == .low)).length.succ

/-- One clock pulse of a recovery attempt (R109 step 2). -/
def recoveryPulse : List PinStep := [.sclRelease, .waitSclHigh, .halfPeriod, .sampleSda, .sclLow]

/-- The stop of a recovery attempt and the check of SDA after it (R109 steps 3 and 4). -/
def recoveryCheck : List PinStep := [.sdaLow, .sclRelease, .waitSclHigh, .halfPeriod, .sdaRelease, .halfPeriod, .sampleSda]

/-- The pin steps of a recovery attempt (R109). -/
def recoverySteps (samples : List Pin) : List PinStep :=
  .sdaRelease :: (List.replicate (recoveryPulses samples) recoveryPulse).flatten ++ recoveryCheck

/-! ## What a lane reads on its pins (R107, R109)

The lane's reader follows the readings of SCL and SDA and is bit timing, so no part of State (assumption 20). A reading is one
look of a step that waits, or one sample; what a look finds is the doing of the devices on the lane. -/

/-- The levels of a lane's two pins at one look. -/
structure Reading where
  scl : Pin
  sda : Pin
deriving DecidableEq, Repr

/-- A wait: the readings left after the first that meets its condition; none while it goes on. -/
def awaitReading (met : Reading → Bool) : List Reading → Option (List Reading)
  | [] => none
  | x :: rest => if met x then some rest else awaitReading met rest

/-- Takes pin steps one after the other on readings: the SDA samples taken, and the readings left; none while a step is still
to come. A wait for SCL lasts as long as a probe stretches the clock (R107). -/
def readSteps : List PinStep → List Reading → Option (List Pin × List Reading)
  | [], readings => some ([], readings)
  | .sampleSda :: _, [] => none
  | .sampleSda :: steps, x :: readings => (readSteps steps readings).map fun t => (x.sda :: t.1, t.2)
  | .waitSclHigh :: steps, readings => (awaitReading (fun x => x.scl == .high) readings).bind (readSteps steps)
  | .waitSdaHigh :: steps, readings => (awaitReading (fun x => x.sda == .high) readings).bind (readSteps steps)
  | .waitBusFree :: steps, readings =>
    (awaitReading (fun x => x.scl == .high && x.sda == .high) readings).bind (readSteps steps)
  | .sclLow :: steps, readings | .sclRelease :: steps, readings | .sdaLow :: steps, readings
  | .sdaRelease :: steps, readings | .halfPeriod :: steps, readings => readSteps steps readings

/-- What a transaction has come to: it goes on, a byte sent was not acknowledged and the stop after it has ended, or its own
stop has ended, with the bytes read. -/
inductive Heard
  | unfinished
  | refused
  | ended (bytes : List Byte)
deriving DecidableEq, Repr

/-- A byte read before the others. -/
def Heard.withByte (b : Byte) : Heard → Heard
  | .unfinished => .unfinished
  | .refused => .refused
  | .ended bytes => .ended (b :: bytes)

/-- The byte in the samples of a byte read: eight data bits, most significant first; the ninth is the lane's own acknowledge
bit (R107). -/
def byteRead (samples : List Pin) : Byte := byteOfLevels (samples.take 8).reverse

/-- What the bus steps of a transaction come to on a run of readings. The ninth sample of a byte sent is its acknowledge bit,
low an acknowledge and high a not-acknowledge, after which a stop is made (R129); its data bits are compared with nothing
(R107). -/
def hear : List BusStep → List Reading → Heard
  | [], _ => .ended []
  | x :: steps, readings =>
    match readSteps x.pins readings with
    | none => .unfinished
    | some (samples, left) =>
      match x with
      | .send _ =>
        if samples[8]? = some .high then (if (readSteps BusStep.stop.pins left).isSome then .refused else .unfinished)
        else hear steps left
      | .receive _ => (hear steps left).withByte (byteRead samples)
      | .start | .repeatedStart | .stop => hear steps left

/-- The readings left after the pulses of a recovery attempt, `k` at most: none follows a sample that finds SDA high
(R109 step 2). -/
def hearPulses : Nat → List Reading → Option (List Reading)
  | 0, readings => some readings
  | k + 1, readings =>
    match readSteps recoveryPulse readings with
    | none => none
    | some (samples, left) => if .high ∈ samples then some left else hearPulses k left

/-- The level of SDA at the check of a recovery attempt; none while the attempt goes on (R109 step 4). -/
def hearRecovery (readings : List Reading) : Option Pin :=
  (hearPulses 9 readings).bind fun left => (readSteps recoveryCheck left).bind fun t => t.1.head?

/-! ## The drive of SCL and SDA (R106, R107) -/

/-- What a lane does to its pins, open-drain: each is pulled low or released, which is high impedance (R106, R107). -/
structure Pull where
  scl : Bool
  sda : Bool
deriving DecidableEq, Repr

/-- Both pins released. -/
def Pull.none : Pull := { scl := false, sda := false }

/-- What a pin step does to the drive; waiting and sampling leave it. -/
def Pull.take (d : Pull) : PinStep → Pull
  | .sclLow => { d with scl := true }
  | .sclRelease => { d with scl := false }
  | .sdaLow => { d with sda := true }
  | .sdaRelease => { d with sda := false }
  | .waitSclHigh | .waitSdaHigh | .waitBusFree | .halfPeriod | .sampleSda => d

/-- The drive after a course of pin steps that begins with both pins released. -/
def pullAfter (course : List PinStep) : Pull := course.foldl Pull.take .none

/-- Whether a lane releases both pins whatever it did before: IDLE, FAILED, and SETTLE and WAIT (R106, R107, R111, R126,
R127). -/
def Lane.quiet (x : Lane) : Bool :=
  match x.state, x.poll with
  | .recover, _ => false
  | .busy, .aborting => false
  | .busy, .poll p => p.phase == .settle || p.phase == .wait
  | .busy, .absent | .idle, _ | .failed, _ => true

/-- The drive of lane `n`'s SCL and SDA. `course` is the pin steps made so far of the work in hand, the transaction, the
abort or the recovery attempt (`Run.inCourse`): how far it has come is bit timing (assumption 20). At the expiry of a
transaction, an abort or an attempt the next work has made no step, so both pins are released (R108, R109, R116); while a
pin reset is in force they are released too (R106). -/
def State.lanePull (s : State) (n : LaneNo) (course : List PinStep) : Pull :=
  if s.inReset || (s.run.lane n).quiet then .none else pullAfter course

/-- The courses lane `n` can be in: a beginning of its open transaction, whole or cut short at a byte sent that is not
acknowledged; of a transaction that an abort cut short, which the lane record no longer names; or of a recovery attempt
(R107, R109, R116, R129). -/
def Run.inCourse (c : Cfg) (r : Run) (n : LaneNo) (course : List PinStep) : Prop :=
  match (r.lane n).state, (r.lane n).poll with
  | .recover, _ => ∃ samples, course <+: recoverySteps samples
  | .busy, .aborting => ∃ begun, begun ≠ [] ∧ course <+: (cutShort begun).flatMap BusStep.pins
  | .busy, .poll p =>
    ∃ t, p.openTransaction c = some t
      ∧ (course <+: t.flatMap BusStep.pins
          ∨ ∃ begun b, begun ++ [.send b] <+: t ∧ course <+: (cutShort (begun ++ [.send b])).flatMap BusStep.pins)
  | .busy, .absent | .idle, _ | .failed, _ => course = []

/-! ## Polls (R115, R124 to R127) -/

/-- The lane opens a transaction: its count and its clock rate are read, and what it reads on its pins is the probes'
doing from here on (R105, R107, R108; assumption 6). -/
def Run.openOnLane (c : Cfg) (n : LaneNo) (r : Run) : Run :=
  let pins := Config.linesRead r.free
  (r.modLane n fun x =>
    { x with
      transaction := some (c.globals.laneTimeoutMs.get n)
      clock := c.globals.laneSpeed.get n
      scl := pins.1
      sda := pins.2 }).spendFree

/-- The stop that ends a transaction: the count stops, and both pins read high (R107, R108). -/
def Run.closeOnLane (n : LaneNo) (r : Run) : Run :=
  r.modLane n fun x => { x with transaction := none, scl := .high, sda := .high }

/-- Sets the poll in progress. -/
def Run.setPoll (n : LaneNo) (p : Poll) (r : Run) : Run := r.modLane n fun x => { x with poll := .poll p }

/-- A poll's READ phase begins (R128). -/
def Run.beginRead (c : Cfg) (n : LaneNo) (p : Probe) (r : Run) : Run :=
  (r.setPoll n { probe := p, phase := .read, transaction := 0, retries := 0, timer := none }).openOnLane c n

/-- A poll goes on after INIT and SETTLE: to WAIT in READY and SELF modes, to READ in DIRECT mode (R124, R127). -/
def Run.beginWaitOrRead (c : Cfg) (n : LaneNo) (p : Probe) (r : Run) : Run :=
  match (c.probe p).mode with
  | .direct => r.beginRead c n p
  | .ready | .self =>
    r.setPoll n { probe := p, phase := .wait, transaction := 0, retries := 0, timer := some (c.probe p).waitMs }

/-- Whether the poll that begins runs INIT (R124). -/
def Run.initCalledFor (c : Cfg) (r : Run) (p : Probe) : Bool :=
  decide (0 < (c.probe p).initCount) && ((c.probe p).initEvery || (r.probe p).needsInit)

/-- A poll operation begins at its first phase (R124). -/
def Run.beginPoll (c : Cfg) (n : LaneNo) (p : Probe) (r : Run) : Run :=
  if r.initCalledFor c p then
    (r.setPoll n { probe := p, phase := .init, transaction := 0, retries := 0, timer := none }).openOnLane c n
  else r.beginWaitOrRead c n p

/-- INIT ends: the mark is cleared, and SETTLE runs if it has a length (R124 to R126). -/
def Run.endInit (c : Cfg) (n : LaneNo) (p : Probe) (r : Run) : Run :=
  let r := (r.closeOnLane n).modProbe p fun x => { x with needsInit := false }
  if 0 < (c.probe p).settleMs then
    r.setPoll n { probe := p, phase := .settle, transaction := 0, retries := 0, timer := some (c.probe p).settleMs }
  else r.beginWaitOrRead c n p

/-- An IDLE lane serves the front of its queue (R115). -/
def Run.serveLane (c : Cfg) (n : LaneNo) (r : Run) : Run :=
  match (r.lane n).state, (r.lane n).queue with
  | .idle, p :: rest =>
    ((r.modLane n fun x => { x with state := .busy, queue := rest }).modProbe p fun x => { x with run := .active }).beginPoll c n p
  | _, _ => r

/-- The lane is free again: no poll, IDLE, and it serves its queue (R115, R116). -/
def Run.freeLane (c : Cfg) (n : LaneNo) (r : Run) : Run :=
  (r.modLane n fun x => { x with state := .idle, poll := .absent }).serveLane c n

/-! ## Health and outcomes (R130 to R135) -/

/-- A success in the health record (R133). -/
def ProbeRun.succeed (now : Stamp) (cls : Heat) (value : Option Int) (x : ProbeRun) : ProbeRun :=
  { x with
    failures := 0
    lastClass := some cls
    lastValue := if value.isSome then value else x.lastValue
    lastTime := some now
    health := .ok }

/-- A failure in the health record (R134). -/
def ProbeRun.fail (now : Stamp) (limit : Nat) (reason : Reason) (x : ProbeRun) : ProbeRun :=
  let n := satSucc 255 x.failures
  { x with
    failures := n
    lastReason := some reason
    lastTime := some now
    health := if limit ≤ n then .lost else .suspect }

/-- The health record back at its values, `needs_init` apart (R132). -/
def ProbeRun.forget (x : ProbeRun) : ProbeRun :=
  { x with
    health := .unknown
    failures := 0
    lastReason := none
    lastValue := none
    lastClass := none
    lastTime := none }

/-- The probe leaves its sled's awaiting set (R65, R135). -/
def Run.leaveAwaiting (p : Probe) (r : Run) : Run :=
  r.modLife (sledOfProbe p) fun l =>
    if p.val % 2 = 0 then { l with awaitA := false } else { l with awaitB := false }

/-- Whether the probe is in its sled's awaiting set. -/
def Run.awaits (r : Run) (p : Probe) : Bool :=
  let l := r.life (sledOfProbe p)
  if p.val % 2 = 0 then l.awaitA else l.awaitB

/-- A success is handed on: health, Sled Tracker, Thermal Evaluator (R133, R135). -/
def Run.handSuccess (c : Cfg) (p : Probe) (cls : Heat) (value : Option Int) (r : Run) : Run :=
  let i := sledOfProbe p
  let r := r.modProbe p fun x => x.succeed r.clock.stamp cls value
  let r := if r.awaits p then (r.leaveAwaiting p).settleAdmission c i else r
  r.evaluate c i

/-- A failure is handed on: health, READING_IMPLAUSIBLE with its raw reading, PROBE_LOST, Thermal Evaluator (R130,
R134, R135). -/
def Run.handFailure (c : Cfg) (p : Probe) (reason : Reason) (raw : Option Nat) (r : Run) : Run :=
  let wasLost := (r.probe p).health == .lost
  let r := r.modProbe p fun x => x.fail r.clock.stamp (c.probe p).lostLimit reason
  let nowLost := (r.probe p).health == .lost
  let r := match raw with
    | some n => r.raise c .readingImplausible (.probe p) n
    | none => r
  let r := if nowLost && !wasLost then r.raise c .probeLost (.probe p) reason.code else r
  r.evaluate c (sledOfProbe p)

/-- How a poll or a counted failure ends. -/
inductive PollResult
  | success (cls : Heat) (value : Option Int)
  | failure (reason : Reason) (raw : Option Nat)
deriving DecidableEq, Repr

def Run.handOutcome (c : Cfg) (p : Probe) (o : PollResult) (r : Run) : Run :=
  match o with
  | .success cls value => r.handSuccess c p cls value
  | .failure reason raw => r.handFailure c p reason raw

/-- A poll ends with an outcome: it is handed on, the probe is IDLE, and the lane serves its queue again (R115). -/
def Run.endPoll (c : Cfg) (n : LaneNo) (p : Probe) (o : PollResult) (r : Run) : Run :=
  ((r.handOutcome c p o).modProbe p fun x => { x with run := .idle }).freeLane c n

/-- The raw reading from the bytes received (R128). -/
def rawReading (x : ProbeCfg) (b0 b1 : Byte) : Nat :=
  match x.format with
  | .u8 => b0.toNat
  | .u16 | .s16 => if x.swap then b1.toNat * 256 + b0.toNat else b0.toNat * 256 + b1.toNat

/-- The value decoded from a raw reading (R128). -/
def decodeReading (f : Format) (raw : Nat) : Int :=
  match f with
  | .u8 | .u16 => raw
  | .s16 => if raw < 32768 then raw else (raw : Int) - 65536

/-- The outcome of a value read (R130). -/
def classify (x : ProbeCfg) (raw : Nat) : PollResult :=
  let v := decodeReading x.format raw
  if v < x.underLimit ∨ x.upperLimit < v then .failure .implausible (some raw)
  else if x.hotOver ≤ v then .success .hot (some v)
  else if x.warmOver ≤ v then .success .warm (some v)
  else .success .cool (some v)

/-! ## Due events (R113) and recovery (R109 to R111) -/

/-- A due event of a probe (R112, R113). -/
def Run.dueEvent (c : Cfg) (p : Probe) (r : Run) : Run :=
  let n := laneOfProbe p
  let r := r.modProbe p fun x => { x with due := some (c.probe p).pollMs }
  match (r.probe p).run with
  | .queued | .active =>
    let r := r.modProbe p fun x => { x with overruns := satSucc 65535 x.overruns }
    r.raise c .pollOverrun (.probe p) (r.probe p).overruns
  | .idle =>
    if (r.lane n).state == .failed then r.handFailure c p .laneFailed none
    else
      ((r.modProbe p fun x => { x with run := .queued }).modLane n fun x => { x with queue := x.queue ++ [p] }).serveLane c n

/-- A recovery attempt begins: its count and its clock rate are read, and what it reads on its pins is the probes' doing
from here on (R105, R109; assumption 6). -/
def Run.beginAttempt (c : Cfg) (n : LaneNo) (attempts : Nat) (r : Run) : Run :=
  let pins := Config.linesRead r.free
  (r.modLane n fun x =>
    { x with
      state := .recover
      attempts := attempts
      attempt := some (c.globals.laneTimeoutMs.get n)
      clock := c.globals.laneSpeed.get n
      scl := pins.1
      sda := pins.2 }).spendFree

/-- The lane abandons what it was doing at an expiry and releases both pins (`State.lanePull`): what it last read is the
probes' doing (R108, R109, R116; assumption 6). -/
def Run.abandonLane (n : LaneNo) (r : Run) : Run :=
  let pins := Config.linesRead r.free
  (r.modLane n fun x => { x with transaction := none, attempt := none, scl := pins.1, sda := pins.2 }).spendFree

/-- The lane gives up: FAILED, LANE_STUCK, and every queued probe fails, front first (R110). -/
def Run.failLane (c : Cfg) (n : LaneNo) (r : Run) : Run :=
  let q := (r.lane n).queue
  let r := (r.modLane n fun x => { x with state := .failed, attempts := 3, attempt := none }).raise c .laneStuck (.lane n) 3
  q.foldl
    (fun r p =>
      ((r.modLane n fun x => { x with queue := x.queue.tail }).modProbe p fun x => { x with run := .idle }).handFailure c p
        .laneFailed none)
    r

/-- A failed attempt: the next one, or the lane gives up (R110). -/
def Run.attemptFailed (c : Cfg) (n : LaneNo) (r : Run) : Run :=
  if (r.lane n).attempts < 3 then r.beginAttempt c n ((r.lane n).attempts + 1) else r.failLane c n

/-- A successful attempt: the lane is IDLE, every probe of it needs its pairs again, and it serves its queue (R110,
R123). -/
def Run.attemptSucceeded (c : Cfg) (n : LaneNo) (r : Run) : Run :=
  let r := r.modLane n fun x =>
    { x with state := .idle, attempts := 0, attempt := none, recoveries := satSucc 65535 x.recoveries }
  let r := (probesOfLane n).foldl (fun r p => r.modProbe p fun x => { x with needsInit := true }) r
  r.serveLane c n

/-! ## Aborts (R116) -/

/-- The sled's queued probes leave their lane's queue (R68, R114). -/
def Run.unqueue (p : Probe) (r : Run) : Run :=
  (r.modLane (laneOfProbe p) fun x => { x with queue := x.queue.filter fun q => q != p }).modProbe p fun x =>
    { x with run := if x.run == .queued then .idle else x.run }

/-- A poll in progress on lane n is aborted: without an open transaction the lane is free at once, with one it
finishes byte and stop as ABORTING (R116). -/
def Run.abortPoll (c : Cfg) (n : LaneNo) (r : Run) : Run :=
  match (r.lane n).poll with
  | .poll p =>
    let r := r.modProbe p.probe fun x => { x with run := .idle }
    match p.phase with
    | .settle | .wait => r.freeLane c n
    | .init | .read => r.modLane n fun x => { x with poll := .aborting }
  | .absent | .aborting => r

/-- The poll in progress on lane n, if it is one of sled i's. -/
def Run.pollOfSled (r : Run) (n : LaneNo) (i : Sled) : Option Poll :=
  match (r.lane n).poll with
  | .poll p => if sledOfProbe p.probe = i then some p else none
  | .absent | .aborting => none

/-- A sled's probes leave service: queued ones leave first, then the poll in progress is aborted (R68; assumption 18);
timers stop and the health records are forgotten. -/
def Run.dropProbes (c : Cfg) (i : Sled) (r : Run) : Run :=
  let n := laneOfSled i
  let r := (r.unqueue (probeA i)).unqueue (probeB i)
  let r := if (r.pollOfSled n i).isSome then r.abortPoll c n else r
  [probeA i, probeB i].foldl (fun r p => r.modProbe p fun x => { x.forget with due := none }) r

/-- Every queue is emptied and every poll aborted, and every due timer stops (R117; assumption 18). -/
def Run.stopLanes (c : Cfg) (r : Run) : Run :=
  let r := { r with
    lanes := mapAt (fun _ x => { x with queue := [] }) r.lanes
    probes := mapAt (fun _ x => { x with due := none, run := if x.run == .queued then .idle else x.run }) r.probes }
  allLanes.foldl (fun r n => r.abortPoll c n) r

end Sys2Proof.Machine
end

