-- ==== Sys2Proof/Machine/Alerts.lean ====
section
/-! DEFINITION. The Alert Capture Unit (Chapter 6): edges, measurements, marks and ready offers. -/

namespace Sys2Proof.Machine

open Sys2Proof

/-- The ceiling of the widths and the total (R95). -/
def widthMax : Nat := 4294967295

/-- The measurement at an asserting edge (R99). -/
def Alert.beginAssertion (now : Stamp) (a : Alert) : Alert :=
  { a with filtered := true, count := satSucc 65535 a.count, lastTime := some now, seen := true, width := 0 }

/-- The measurement at a deasserting edge; the marks are cleared, and a tick that this channel has not taken yet finds
no assertion (R99 to R101). -/
def Alert.endAssertion (a : Alert) : Alert :=
  { a with
    filtered := false
    lastWidth := a.width
    longest := max a.longest a.width
    width := 0
    sustained := false
    stuck := false
    tickOwed := false }

/-- The record on removal: the filter runs on, the rest takes its reset values (R104). -/
def Alert.removed (a : Alert) : Alert :=
  { a with
    filtered := false
    width := 0
    seen := false
    lastTime := none
    lastWidth := 0
    longest := 0
    count := 0
    total := 0
    sustained := false
    stuck := false
    tickOwed := false }

/-- READ_ALERT with clearing (R103). -/
def Alert.clearMeasurements (a : Alert) : Alert := { a with lastWidth := 0, longest := 0, count := 0, total := 0 }

/-- A ready assertion ends the WAIT of a poll: READ in READY mode, success with `self_class` in SELF mode (R127,
R131). A DIRECT poll is never in WAIT. -/
def Run.readyAssertion (c : Cfg) (n : LaneNo) (p : Probe) (r : Run) : Run :=
  match (c.probe p).mode with
  | .self => r.endPoll c n p (.success (c.probe p).selfClass none)
  | .direct | .ready => r.beginRead c n p

/-- A READY line's asserting edge is offered to the lane of its sled; only a poll of that sled in WAIT takes it
(R102). -/
def Run.offerReady (c : Cfg) (i : Sled) (r : Run) : Run :=
  match r.pollOfSled (laneOfSled i) i with
  | some p => if p.phase == .wait then r.readyAssertion c (laneOfSled i) p.probe else r
  | none => r

/-- An asserting edge: measured, then handed on by role (R98, R99). -/
def Run.assertingEdge (c : Cfg) (i : Sled) (r : Run) : Run :=
  let r := r.modAlert i fun a => a.beginAssertion r.clock.stamp
  match (c.sled i).alertRole with
  | .heat => r.evaluate c i
  | .ready => r.offerReady c i
  | .none => r

/-- A deasserting edge made by the filter: measured, then handed on by role (R98, R99). -/
def Run.deassertingEdge (c : Cfg) (i : Sled) (r : Run) : Run :=
  let r := r.modAlert i Alert.endAssertion
  match (c.sled i).alertRole with
  | .heat => r.evaluate c i
  | .ready | .none => r

/-- The filtered level follows the accepted level and the sled's state; a change is an edge (R97). -/
def Run.followAlert (c : Cfg) (i : Sled) (r : Run) : Run :=
  match r.alertLevel c i, (r.alert i).filtered with
  | true, false => r.assertingEdge c i
  | false, true => r.deassertingEdge c i
  | true, true | false, false => r

/-- The filter accepts its last sample (R96). -/
def Run.acceptAlert (c : Cfg) (i : Sled) (r : Run) : Run :=
  (r.modAlert i fun a => { a with accepted := a.lastSample }).followAlert c i

/-- The sample filter sees a new level; with `alert_filter` 1 it accepts it at once (R96). -/
def Run.sampleAlert (c : Cfg) (i : Sled) (level : Pin) (r : Run) : Run :=
  let r := r.modAlert i fun a => { a with pin := level, lastSample := level, run := 1 }
  if c.globals.alertFilter ≤ 1 ∧ (r.alert i).accepted ≠ level then r.acceptAlert c i else r

/-! ## The marks (R100, R101) -/

/-- Whether an assertion's width has come to `sustain_ms` without its mark. -/
def Alert.sustainDue (g : Globals) (a : Alert) : Bool := a.filtered && !a.sustained && decide (g.sustainMs ≤ a.width)

/-- Whether an assertion's width has come to `stuck_ms` without its mark. -/
def Alert.stuckDue (g : Globals) (a : Alert) : Bool := a.filtered && !a.stuck && decide (g.stuckMs ≤ a.width)

/-- The ms tick that brings the width to a limit is taken: the width and the total rise by what is missing (R99). -/
def Alert.reach (limit : Nat) (a : Alert) : Alert :=
  { a with width := max a.width limit, total := min widthMax (a.total + (limit - a.width)), tickOwed := false }

/-- The sustained mark is set; a HEAT line hands it on (R98, R100). -/
def Run.markSustained (c : Cfg) (i : Sled) (r : Run) : Run :=
  let r := r.modAlert i fun a => { a with sustained := true }
  match (c.sled i).alertRole with
  | .heat => r.evaluate c i
  | .ready | .none => r

/-- The stuck mark is set, and a HEAT or READY line raises ALERT_STUCK (R101). -/
def Run.markStuck (c : Cfg) (i : Sled) (r : Run) : Run :=
  let r := r.modAlert i fun a => { a with stuck := true }
  match (c.sled i).alertRole with
  | .heat | .ready => r.raise c .alertStuck (.sled i) (r.alert i).count
  | .none => r

/-- The tick at which the width comes to `sustain_ms`; where that is `stuck_ms` too, the same tick sets both marks
(assumption 24). -/
def Run.sustain (c : Cfg) (i : Sled) (r : Run) : Run :=
  let r := (r.modAlert i fun a => a.reach c.globals.sustainMs).markSustained c i
  if (r.alert i).stuckDue c.globals then r.markStuck c i else r

/-- The tick at which the width comes to `stuck_ms`; where that is `sustain_ms` too, the same tick sets both marks
(assumption 24). -/
def Run.stick (c : Cfg) (i : Sled) (r : Run) : Run :=
  let r := (r.modAlert i fun a => a.reach c.globals.stuckMs).markStuck c i
  if (r.alert i).sustainDue c.globals then r.markSustained c i else r

end Sys2Proof.Machine
end

