-- ==== Sys2Proof/Machine/Sleds.lean ====
section
/-! DEFINITION. The Sled Tracker (Chapter 4): presence, admission, removal, release, enabling. -/

namespace Sys2Proof.Machine

open Sys2Proof

/-- The order in which a sled's enabled probes get their first due events; between the two it is free (R64, R114;
assumption 5). -/
def Run.firstDueOrder (c : Cfg) (i : Sled) (r : Run) : List Probe :=
  match enabledProbes c i with
  | [a, b] => if Config.probeBFirst r.free then [b, a] else [a, b]
  | ps => ps

/-- A probe of an admitted sled: marked `needs_init`, its overruns 0, and its first due event (R64, R112, R123). -/
def Run.firstDue (c : Cfg) (p : Probe) (r : Run) : Run :=
  (r.modProbe p fun x => { x with needsInit := true, overruns := 0 }).dueEvent c p

/-- A sled becomes ADMITTING: its awaiting set, admission count and FLOOR entry, served as it joins; its probes' first
due events; the edge of a line held asserted; a SLED notice (R64, R97, R154; assumption 12). -/
def Run.startAdmission (c : Cfg) (i : Sled) (r : Run) : Run :=
  let r := r.modLife i fun l =>
    { l with
      state := .admitting
      containPending := false
      admitTimeout := false
      awaitA := (c.probe (probeA i)).enable
      awaitB := (c.probe (probeB i)).enable
      admission := some c.globals.admitLimitMs }
  let r := r.modBooks i fun b => { b with grant := 0, floorReserved := false }
  let r := (r.join c i .floor).serve c
  let r := (r.firstDueOrder c i).foldl (fun r p => r.firstDue c p) r.spendFree
  (r.followAlert c i).post c (.sled i)

/-- The GONE teardown (R67, R68). -/
def Run.teardown (c : Cfg) (i : Sled) (r : Run) : Run :=
  let r := r.modLife i fun l =>
    { l with
      state := .absent
      admission := none
      awaitA := false
      awaitB := false
      containPending := false
      admitTimeout := false }
  let r := r.zeroBooks i
  let r := r.modChan i fun x => x.force c.globals.rampFrames
  let r := r.dropProbes c i
  let r := (r.modAlert i Alert.removed).modTherm i fun _ => .initial
  r.post c (.sled i)

/-- PRESENT and GONE events by state and mode (R63, Table 35). -/
def Run.presenceEvent (c : Cfg) (i : Sled) (present : Bool) (r : Run) : Run :=
  match (r.life i).state, present with
  | .absent, true =>
    if r.mode.works then r.startAdmission c i else r.modLife i fun l => { l with state := .standby }
  | .standby, false | .admitting, false | .tracking, false | .isolated, false => r.teardown c i
  | .disabled, _ | .absent, false | .standby, true | .admitting, true | .tracking, true | .isolated, true => r

/-- The presence settle count expires (R62). -/
def Run.settlePresence (c : Cfg) (i : Sled) (r : Run) : Run :=
  let now := (r.life i).prs == .low
  let changed := now != (r.life i).present
  let r := r.modLife i fun l => { l with settle := none, present := now }
  if changed then r.presenceEvent c i now else r

/-- The admission count expires; the fault's detail says what is outstanding (R66). -/
def Run.admissionExpired (c : Cfg) (i : Sled) (r : Run) : Run :=
  let floorOut := !(r.books i).floorReserved
  let probeOut := (r.life i).awaitA || (r.life i).awaitB
  let detail := (if floorOut then 1 else 0) + (if probeOut then 2 else 0)
  (r.modLife i fun l => { l with admitTimeout := true, admission := none }).raise c .admitTimeout (.sled i) detail

/-- An accepted RELEASE_SLED (R71): a sled that was ISOLATED counts its reclaim from 0 at its next boundary. -/
def Run.release (c : Cfg) (i : Sled) (r : Run) : Run :=
  match (r.life i).state with
  | .isolated => (r.modBooks i fun b => { b with recount := true }).becomeTracking c i
  | .admitting => r.modLife i fun l => { l with containPending := false }
  | .tracking | .standby | .absent | .disabled => r

/-- A change of `enable` (R72). `enable` is the new value. -/
def Run.changeEnable (i : Sled) (enable : Bool) (r : Run) : Run :=
  if enable then r.modLife i fun l => { l with state := if l.present then .standby else .absent }
  else
    (r.modLife i fun l => { l with state := .disabled }).modChan i fun x => { x with carrier := .idle, ticks := 0 }

end Sys2Proof.Machine
end

