-- ==== Sys2Proof/Machine/Zone.lean ====
section
/-! DEFINITION. The zone (R87 to R92). -/

namespace Sys2Proof.Machine

open Sys2Proof

def Run.setZone (state : ZoneState) (release : Count) (r : Run) : Run :=
  { r with zone := { r.zone with state := state, release := release } }

/-- An enabled input is accepted as asserted: EMERGENCY, ZONE_ALARM, a ZONE notice, and on a change the hand-over: in
RUN every boost ends and class entries are held (R88, R92). -/
def Run.assertZone (c : Cfg) (z : ZoneNo) (r : Run) : Run :=
  let old := r.zone.state
  let r := ((r.setZone .emergency none).raise c .zoneAlarm (.zoneInput z) old.code).post c .zone
  if old == .emergency then r
  else if r.mode == .run then r.endAllBoosts.refreshHeld c
  else r

/-- The emergency ends: RELEASING or NORMAL, a ZONE notice, and the held flags follow (R89, R90, R92). -/
def Run.endEmergency (c : Cfg) (r : Run) : Run :=
  let ms := c.globals.zoneReleaseMs
  ((if 0 < ms then r.setZone .releasing (some ms) else r.setZone .normal none).post c .zone).refreshHeld c

/-- An enabled input is accepted as deasserted (R89). -/
def Run.deassertZone (c : Cfg) (r : Run) : Run :=
  match r.zone.state with
  | .emergency => if !r.anyZoneActive c && !c.globals.zoneLatch then r.endEmergency c else r.post c .zone
  | .normal | .releasing => r

/-- A zone settle count expires (R87). -/
def Run.settleZone (c : Cfg) (z : ZoneNo) (r : Run) : Run :=
  let f := r.zone.filters.get z
  let r' := { r with zone := { r.zone with filters := modAt z (fun f => { f with accepted := f.pin, settle := none }) r.zone.filters } }
  if f.pin = f.accepted || !c.globals.zoneEnable.get z then r'
  else if r'.zoneAsserted c z then r'.assertZone c z else r'.deassertZone c

/-- The release count expires: NORMAL and a ZONE notice (R89). -/
def Run.releaseExpired (c : Cfg) (r : Run) : Run := (r.setZone .normal none).post c .zone

/-- Whether input `z` was active under the configuration before a write and is after it, taken as its event (R91). -/
def Run.zoneFieldChange (before after : Cfg) (z : ZoneNo) (r : Run) : Run :=
  match r.zoneActive before z, r.zoneActive after z with
  | false, true => r.assertZone after z
  | true, false => r.deassertZone after
  | true, true | false, false => r

/-- What an accepted WRITE_GLOBALS does to the zone: Z0, then Z1, then a latch taken away (R91). -/
def Run.zoneWrite (before after : Cfg) (r : Run) : Run :=
  let r := (r.zoneFieldChange before after 0).zoneFieldChange before after 1
  if before.globals.zoneLatch && !after.globals.zoneLatch && r.zone.state == .emergency && !r.anyZoneActive after then
    r.endEmergency after
  else r

end Sys2Proof.Machine
end

