-- ==== Sys2Proof/Machine/Modes.lean ====
section
/-! DEFINITION. The Mode Controller (Chapter 10): validation (R153), entry to RUN (R154), RUN from SAFE (R156) and
the return to CONFIG (R157). Entry to SAFE is part of taking a fault (Machine/Faults.lean). -/

namespace Sys2Proof.Machine

open Sys2Proof

/-! ## Validation (R153, Table 66) -/

/-- Whether the duty of a level exceeds that of the level before it (R7). -/
def dutyRises (before after : LevelEntry) : Bool :=
  decide (before.admitTicks * (after.admitTicks + after.holdTicks) < after.admitTicks * (before.admitTicks + before.holdTicks))

/-- A level with the one after it, for L0 to L14. -/
def levelPairs : List (Level × Level) := (List.finRange 15).map fun k => (k.castSucc, k.succ)

/-- Item 1: the level whose duty exceeds that of the level before it (R7). -/
def levelsFault (c : Cfg) : Option Nat :=
  (levelPairs.find? fun k => dutyRises (c.levels.get k.1) (c.levels.get k.2)).map (·.2.val)

/-- Item 2: the first enabled sled whose costs rise from a level to the next (R22). -/
def costsFault (c : Cfg) : Option Nat :=
  (allSleds.find? fun i => (c.sled i).enable && levelPairs.any fun k => decide (costAt c i k.1 < costAt c i k.2)).map (·.val)

/-- Item 3: `hot_ceiling` looser than `warm_ceiling` (R78). -/
def ceilingsFault (c : Cfg) : Option Nat :=
  if c.globals.hotCeiling < c.globals.warmCeiling then some 0 else none

/-- Whether a value lies in the decoded domain of a format (R120). -/
def Format.holds (f : Format) (v : Int) : Bool :=
  match f with
  | .u8 => decide (0 ≤ v) && decide (v ≤ 255)
  | .u16 => decide (0 ≤ v) && decide (v ≤ 65535)
  | .s16 => decide (-32768 ≤ v) && decide (v ≤ 32767)

/-- Whether a probe's thresholds lie in its decoded domain and are ordered (R120). -/
def ProbeCfg.thresholdsPass (x : ProbeCfg) : Bool :=
  [x.underLimit, x.warmOver, x.hotOver, x.upperLimit].all x.format.holds
    && decide (x.underLimit ≤ x.warmOver) && decide (x.warmOver ≤ x.hotOver) && decide (x.hotOver ≤ x.upperLimit)

/-- Item 4: the first enabled probe whose thresholds fail (R120). -/
def thresholdsFault (c : Cfg) : Option Nat :=
  (allProbes.find? fun p => (c.probe p).enable && !(c.probe p).thresholdsPass).map (·.val)

/-- Item 5: the lowest enabled probe whose segment ends beyond byte 511 (R122). -/
def scriptFault (c : Cfg) : Option Nat :=
  (allProbes.find? fun p => (c.probe p).enable && decide (512 < segmentStart c p + 2 * (c.probe p).initCount)).map (·.val)

/-- The first item that fails, with its index (R153). -/
def validationFault (c : Cfg) : Option (ItemKind × Nat) :=
  ((levelsFault c).map fun k => (ItemKind.levels, k)).or
    (((costsFault c).map fun k => (ItemKind.costs, k)).or
      (((ceilingsFault c).map fun k => (ItemKind.ceilings, k)).or
        (((thresholdsFault c).map fun k => (ItemKind.thresholds, k)).or
          ((scriptFault c).map fun k => (ItemKind.script, k)))))

/-! ## Changes of mode -/

/-- Every STANDBY sled becomes ADMITTING, S0 first, each taken whole (R73, R154 step 4). -/
def Run.admitStandby (c : Cfg) (r : Run) : Run :=
  allSleds.foldl (fun r i => if (r.life i).state == .standby then r.startAdmission c i else r) r

/-- From CONFIG to RUN, once validation has passed (R154). The emergency term and the held flags of step 5 follow from
the mode and the zone state as they stand (`Run.target`, `Run.holds`). -/
def Run.enterRun (c : Cfg) (r : Run) : Run :=
  ({ r with
      mode := .run
      cause := .request
      validation := .passed
      pool := r.pool.startLease
      probes := mapAt (fun _ x => ProbeRun.forget x) r.probes }.admitStandby c).post c .mode

/-- The sled's reclaim counts from 0 at its next boundary (R71, R156). -/
def SledRun.recount (x : SledRun) : SledRun := { x with books := { x.books with recount := true } }

/-- From SAFE to RUN (R156): the held flags are recomputed and may trigger the arbiter (R58), and every sled counts its
reclaim from 0 at its next boundary. -/
def Run.runFromSafe (c : Cfg) (r : Run) : Run :=
  ({ r with
      mode := .run
      cause := .request
      sleds := mapAt (fun _ x => SledRun.recount x) r.sleds }.refreshHeld c).post c .mode

/-- A sled on SET_MODE CONFIG: one in service becomes STANDBY, its assertion closed and measured but not handed on, its
thermal record initial, its line forced to L15 (R16, R74, R86, R97, R157). -/
def SledRun.leaveService (ramp : Nat) (x : SledRun) : SledRun :=
  if x.life.state.inService then
    { x with
      chan := x.chan.force ramp
      life := { x.life with
        state := .standby
        admission := none
        admitTimeout := false
        awaitA := false
        awaitB := false
        containPending := false }
      therm := .initial
      alert := if x.alert.filtered then x.alert.endAssertion else x.alert }
  else x

/-- Every pending SLED and POOL notice leaves the set (R157 step 7, R172). -/
def NoticeSet.dropRunKinds (n : NoticeSet) : NoticeSet := { n with sled := tabulate fun _ => false, pool := false }

/-- From RUN or SAFE to CONFIG (R157). -/
def Run.toConfig (c : Cfg) (r : Run) : Run :=
  let r := ({ r with mode := .config, cause := .request }.clearBooks).stopLanes c
  { r with
    probes := mapAt (fun _ x => ProbeRun.forget x) r.probes
    sleds := mapAt (fun _ x => SledRun.leaveService c.globals.rampFrames x) r.sleds
    notices := r.notices.dropRunKinds }.post c .mode

end Sys2Proof.Machine
end

