-- ==== Sys2Proof/Machine/Link.lean ====
section
/-! DEFINITION. The Link Interface (Chapter 11): the frame parser (R162, R163), the receive queue (R164), the notices'
contents (Table 79, R176) and the transmitter (R171, R173); and what ends every event: the arbiter's service and the
transmitter's next frame. -/

namespace Sys2Proof.Machine

open Sys2Proof

/-! ## The line (R161) -/

/-- The receiver of LINK_RX: it waits for the line to read high, or for the falling edge of a start bit, or it takes the
bits of a byte. It is bit timing and so no part of State (assumption 20). -/
inductive Receiver
  | waitHigh
  | idle
  | bits (got : List Pin)
deriving DecidableEq, Repr

/-- The receiver takes a reading of LINK_RX: outside a byte any look at the line, in a byte the sample at the middle of
the next bit. The stop bit ends the byte, which is taken with the data bits as sampled; after a low one the receiver waits
for the line to read high (R161). -/
def Receiver.take : Receiver → Pin → Receiver × Option Byte
  | .waitHigh, .low => (.waitHigh, none)
  | .waitHigh, .high | .idle, .high => (.idle, none)
  | .idle, .low => (.bits [], none)
  | .bits got, level =>
    if got.length < 8 then (.bits (got ++ [level]), none)
    else (match level with | .high => .idle | .low => .waitHigh, some (byteOfLevels got))

/-- The bytes a run of readings makes. -/
def Receiver.bytes (x : Receiver) : List Pin → List Byte
  | [] => []
  | level :: rest => (x.take level).2.toList ++ Receiver.bytes (x.take level).1 rest

/-- The commands that readings of LINK_RX stand for: each byte is handed to the parser; in a pin reset the line is not
received (R151, R161). -/
def State.received (s : State) (x : Receiver) (readings : List Pin) : List Instr :=
  if s.inReset then [] else (x.bytes readings).map .linkByteReceived

/-- The level on LINK_TX. `bit` counts the bit times since the start bit of the frame in hand, whose bytes go back to back;
the line is high while the transmitter is IDLE and in a pin reset (R161, R171). -/
def State.linkTx (s : State) (bit : Nat) : Pin :=
  if s.inReset then .high
  else
    match s.link.tx with
    | none => .high
    | some o => (o.frame.wire.flatMap lineLevels).getD bit .high

/-! ## Receiving -/

/-- A discard raises LINK_FRAME (R164). -/
def State.raiseLink (e : LinkError) (s : State) : State := { s with run := s.run.raise s.cfg .linkFrame .link e.code }

/-- The parser takes a state, with its gap count (R163). -/
def State.setParser (p : Parser) (gap : Count) (s : State) : State := { s with link := { s.link with parser := p, gap := gap } }

/-- The gap count as it is started and restarted (R163). -/
def gapStart : Count := some 3

/-- The receive queue's and the reply queue's capacity (R164, R171). -/
def queueMax : Nat := 4

/-- A frame whose CRC matches joins the receive queue, or is discarded with detail OVERRUN (R164). -/
def State.acceptFrame (f : Frame) (s : State) : State :=
  if s.link.rx.length < queueMax then { s with link := { s.link with rx := s.link.rx ++ [f] } }
  else s.raiseLink .overrun

/-- The frame the parser's bytes after LEN make. -/
def frameOfBytes : List Byte → Frame
  | tag :: type :: payload => { tag := tag, type := type, payload := payload }
  | [tag] => { tag := tag, type := 0, payload := [] }
  | [] => { tag := 0, type := 0, payload := [] }

/-- The check at the last CRC byte (R164). -/
def State.checkFrame (len : Byte) (kept : List Byte) (high low : Byte) (s : State) : State :=
  if crcBytes (len :: kept) = [high, low] then s.acceptFrame (frameOfBytes kept) else s.raiseLink .crc

/-- A LEN in range: 2 to 126 (R162). -/
def lenOk (b : Byte) : Bool := decide (2 ≤ b.toNat) && decide (b.toNat ≤ 126)

/-- A LEN out of range discards the frame (R162, R164). -/
def State.discardLength (s : State) : State := (s.setParser .hunt none).raiseLink .length

/-- The parser takes a byte according to its state (R162, Table 68). -/
def State.takeLinkByte (b : Byte) (s : State) : State :=
  match s.link.parser with
  | .hunt => if b = 0xC3#8 then s.setParser .length gapStart else s
  | .length => if lenOk b then s.setParser (.body b []) gapStart else s.discardLength
  | .body len kept =>
    if kept.length + 1 < len.toNat then s.setParser (.body len (kept ++ [b])) gapStart
    else s.setParser (.crcHigh len (kept ++ [b])) gapStart
  | .crcHigh len kept => s.setParser (.crcLow len kept b) gapStart
  | .crcLow len kept high => (s.setParser .hunt none).checkFrame len kept high b

/-! ## Notices (Table 79) -/

/-- A fault block (R176). -/
def faultBlock (v : SeverityRecord) : List Byte :=
  (match v.first with
    | none => putFlag false
    | some f =>
      putFlag true ++ put8 f.cls.index.val ++ put8 f.subject.codes.1 ++ put8 f.subject.codes.2 ++ put32 f.time.toNat
        ++ put16 f.detail)
    ++ put16 v.laterSet.toNat ++ put8 v.laterCount

/-- A notice's TYPE (Table 74). -/
def Notice.type : Notice → Byte
  | .sled _ => 0x60
  | .pool => 0x61
  | .fault _ => 0x62
  | .zone => 0x63
  | .mode => 0x64

/-- A notice's content, read from the state as it stands (R173, Table 79). -/
def noticePayload (c : Cfg) (r : Run) : Notice → List Byte
  | .sled i =>
    put8 i.val ++ put8 (r.life i).state.code ++ put8 (r.therm i).state.code ++ put8 (r.ceiling c i).val
      ++ put8 (r.chan i).active.val ++ put8 (r.target c i).val ++ put16 (r.books i).grant
  | .pool => put16 r.pool.size ++ putSigned16 r.headroom ++ put8 r.pool.leaseState.code
  | .fault v => put8 v.code ++ faultBlock (r.severity v)
  | .zone => put8 r.zone.state.code ++ putFlag (r.zoneAsserted c 0) ++ putFlag (r.zoneAsserted c 1)
  | .mode => put8 r.mode.code ++ put8 r.cause.code

/-- A notice frame: TAG 0 and the TYPE of its kind. -/
def noticeFrame (c : Cfg) (r : Run) (k : Notice) : Frame := { tag := 0, type := k.type, payload := noticePayload c r k }

/-! ## Sending (R171) -/

/-- An IDLE transmitter takes the next frame: the front reply, else the first pending notice unless a RESET has been
accepted, else nothing. -/
def State.kick (s : State) : State :=
  match s.link.tx, s.link.replies with
  | some _, _ => s
  | none, o :: rest => { s with link := { s.link with tx := some o, replies := rest } }
  | none, [] =>
    if s.link.resetAccepted then s
    else
      match s.run.notices.first with
      | none => s
      | some k =>
        { s with
          link := { s.link with tx := some { frame := noticeFrame s.cfg s.run k, isReset := false } }
          run := { s.run with notices := s.run.notices.erase k } }

/-- The end of an event: the arbiter serves if the event triggered it, and an IDLE transmitter takes its next frame
(R43, R171; assumptions 10 and 11). -/
def State.finish (s : State) : State := { s with run := s.run.serveIfDue s.cfg }.kick

/-! ## Events -/

/-- An event: it occurs when no pin reset is in force and its condition holds; otherwise nothing changes (R151;
assumptions 1 and 21). -/
def State.event (occurs : Bool) (effect : State → State) (s : State) : Host.Outcome State Fault Refusal :=
  if !s.inReset && occurs then .next (effect s).finish else .next s

/-- An event whose effect is on the running part only. -/
def State.runEvent (occurs : Bool) (effect : Cfg → Run → Run) (s : State) : Host.Outcome State Fault Refusal :=
  s.event occurs fun s => { s with run := effect s.cfg s.run }

/-- Whether the parser is at the last byte of a frame. -/
def Parser.atLastByte : Parser → Bool
  | .crcLow _ _ _ => true
  | .hunt | .length | .body _ _ | .crcHigh _ _ => false

/-- FRAME_RECEIVED: the last CRC byte is taken and the frame is checked (R164). -/
def execFrameReceived (b : Byte) (s : State) : Host.Outcome State Fault Refusal :=
  s.event s.link.parser.atLastByte (State.takeLinkByte b)

/-- FRAME_LENGTH_DISCARD: a LEN out of range (R162). -/
def execFrameLengthDiscard (b : Byte) (s : State) : Host.Outcome State Fault Refusal :=
  s.event (s.link.parser == .length && !lenOk b) State.discardLength

/-- LINK_GAP_EXPIRY: the frame is discarded with detail TRUNCATED (R163). -/
def execLinkGapExpiry (s : State) : Host.Outcome State Fault Refusal :=
  s.event s.link.gap.isSome fun s => (s.setParser .hunt none).raiseLink .truncated

/-- LINK_BYTE_RECEIVED: the parser takes a byte (R161, R162). -/
def execLinkByteReceived (b : Byte) (s : State) : Host.Outcome State Fault Refusal :=
  s.event true (State.takeLinkByte b)

end Sys2Proof.Machine
end

