-- ==== Sys2Proof/Machine/Reset.lean ====
section
/-! DEFINITION. Resets (R151, R158, R159): the pin reset and its release, the soft reset, and the end of a frame on the
line, at which the soft reset takes effect. -/

namespace Sys2Proof.Machine

open Sys2Proof

/-- The levels the world puts on the input pins, as last sampled. -/
def Run.prsPins (r : Run) (i : Sled) : Pin := (r.life i).prs
def Run.alrPins (r : Run) (i : Sled) : Pin := (r.alert i).pin
def Run.zonePins (r : Run) (z : ZoneNo) : Pin := (r.zone.filters.get z).pin

/-- The running part at its power-on values, with the settle counts stopped or started (R151). -/
def Run.pinReset (settleRuns : Bool) (r : Run) : Run :=
  .initial .default .pinReset .start .initial r.prsPins r.alrPins r.zonePins settleRuns r.free

/-- A pin reset is in force: every block at its power-on values, every outstanding event gone (R151). The link rate holds
until the next release. -/
def State.hold (s : State) : State :=
  { s with due := [], inReset := true, link := .initial s.link.rate, cfg := .default, run := s.run.pinReset false }

/-- Reset release: the strap is sampled, the timebases and the settle counts start, a MODE notice is posted (R151). -/
def State.release (rate : Pin) (s : State) : State :=
  { s with
    due := []
    inReset := false
    link := .initial rate
    cfg := .default
    run := (s.run.pinReset true).post .default .mode }

/-- The timebases across a soft reset: the frame and the prescaler restart, the ms divider and the timestamp run on
(R1, R2, R3, R95). -/
def Clock.softReset (k : Clock) : Clock := { k with prescaleCount := 0, frame := 0 }

/-- The pool record across a soft reset (R19). -/
def Pool.softReset (p : Pool) : Pool := p.stopLease

/-- The soft reset takes effect (R159, Table 67). -/
def State.softReset (s : State) : State :=
  let r := s.run
  { s with
    due := []
    link := .initial s.link.rate
    run := (Run.initial s.cfg .softReset r.clock.softReset r.pool.softReset r.prsPins r.alrPins r.zonePins true r.free).post
      s.cfg .mode }

/-- The stop bit of a frame's last byte ends: the transmitter is IDLE; after the reply to RESET the soft reset takes
effect (R158, R171). -/
def State.frameEnds (s : State) : State :=
  match s.link.tx with
  | none => s
  | some o => if o.isReset then s.softReset else { s with link := { s.link with tx := none } }

/-- POWER_ON: the part holds itself in reset (R151). -/
def execPowerOn (s : State) : Host.Outcome State Fault Refusal := .next s.hold

/-- RST_N_LOW: the RST_N reset is in force (R151). -/
def execRstNLow (s : State) : Host.Outcome State Fault Refusal := .next s.hold

/-- RESET_RELEASE, when a pin reset is in force (R151). -/
def execResetRelease (rate : Pin) (s : State) : Host.Outcome State Fault Refusal :=
  if s.inReset then .next (s.release rate).finish else .next s

/-- FRAME_SENT: the transmitter takes its next frame within the event (R171). -/
def execFrameSent (s : State) : Host.Outcome State Fault Refusal := s.event s.link.tx.isSome State.frameEnds

end Sys2Proof.Machine
end

