-- ==== Sys2Proof/Machine/Requests.lean ====
section
/-! DEFINITION. The path of a request (R164 to R168): its frame is accepted, taken when the Request Processor can take
it, checked for length and mode and then by its own rule, carried out, and answered by one reply. -/

namespace Sys2Proof.Machine

open Sys2Proof

/-! ## Answers (R166, R167) -/

/-- A request's answer: the status, and the further content of the reply (Table 69). -/
structure Answer where
  status : Status
  content : List Byte
deriving DecidableEq, Repr

def Answer.ok (content : List Byte) : Answer := { status := .ok, content := content }
def Answer.refuse (status : Status) : Answer := { status := status, content := [] }
/-- BAD_FIELD with the payload offset of the first failing field (R175). -/
def Answer.badField (offset : Nat) : Answer := { status := .badField, content := put8 offset }

/-- What a request does: the state after it and its answer. -/
abbrev Body := State → State × Answer

/-- A refused request changes no state (R166). -/
def refuse (status : Status) : Body := fun s => (s, .refuse status)

/-- A request that changes nothing is answered OK with fields read from the state as it stands (R167). -/
def report (content : State → List Byte) : Body := fun s => (s, .ok (content s))

/-- A request carried out: the state changes, and the reply is the status only. -/
def carryOut (effect : State → State) : Body := fun s => (effect s, .ok [])

/-- A request whose effect is on the running part only. -/
def carryOutRun (effect : Cfg → Run → Run) : Body := carryOut fun s => { s with run := effect s.cfg s.run }

/-- The field checks, from offset 0 upward (R175); then what follows. -/
def withChecks (checks : List Check) (body : Body) : Body := fun s =>
  match firstFailing checks with
  | some offset => (s, .badField offset)
  | none => body s

/-- A state check: refused with a status when the condition holds; then what follows. -/
def refuseIf (cond : State → Bool) (status : Status) (body : Body) : Body := fun s =>
  if cond s then (s, .refuse status) else body s

/-- The presence check of the three requests that need a sled in its slot (R166). -/
def withPresence (i : Sled) (body : Body) : Body := refuseIf (fun s => !(s.run.life i).state.isPresent) .notPresent body

/-- The checks common to all requests: the payload length, then the mode (R166). -/
def checked (lengthOk : Nat → Bool) (modeOk : Mode → Bool) (body : List Byte → Body) (p : List Byte) : Body := fun s =>
  if !lengthOk p.length then (s, .refuse .badLength)
  else if !modeOk s.run.mode then (s, .refuse .wrongMode)
  else body p s

/-! ## Modes and lengths (Tables 70 and 74) -/

def anyMode (_ : Mode) : Bool := true
def configOnly (m : Mode) : Bool := m == .config
def runOnly (m : Mode) : Bool := m == .run
def configOrRun (m : Mode) : Bool := m != .safe
def runOrSafe (m : Mode) : Bool := m != .config
def exactly (n k : Nat) : Bool := k == n

/-! ## Taking a request (R165, R167) -/

/-- The reply to a frame: its TAG, its TYPE plus 0x80 with the wrap, the status and the further content (R167). -/
def replyFrame (f : Frame) (a : Answer) : Frame :=
  { tag := f.tag, type := f.type + 0x80, payload := put8 a.status.code ++ a.content }

/-- The frame is at the front of the receive queue, or joins it as R164 states (assumption 3). -/
def State.receive (f : Frame) (s : State) : State := if s.link.rx.head? = some f then s else s.acceptFrame f

/-- Whether the Request Processor takes the frame at the front (R165). -/
def Link.canTake (l : Link) : Bool := !l.rx.isEmpty && decide (l.replies.length < queueMax) && !l.resetAccepted

/-- The frame leaves the receive queue (R165). -/
def State.popFrame (s : State) : State := { s with link := { s.link with rx := s.link.rx.tail } }

/-- The reply joins the back of the reply queue (R165). -/
def State.pushReply (o : Outgoing) (s : State) : State := { s with link := { s.link with replies := s.link.replies ++ [o] } }

/-- The request is executed as one event: carried out, the arbiter served if it is due, and then the reply built
(R165, R167; assumption 10). `isReset` marks the OK reply to RESET (R158). -/
def State.answer (f : Frame) (isReset : Bool) (body : Body) (s : State) : State :=
  let (t, a) := body s.popFrame
  { t with run := t.run.serveIfDue t.cfg }.pushReply { frame := replyFrame f a, isReset := isReset && a.status == Status.ok }

/-- A request command: the frame is received; if it is at the front and can be taken, it is executed; the transmitter
takes its next frame (R164, R165, R171; assumption 3). While a pin reset is in force nothing is received. -/
def State.request (f : Frame) (wf isReset : Bool) (body : Body) (s : State) : Host.Outcome State Fault Refusal :=
  if !wf then .fault .illFormed
  else if s.inReset then .next s
  else
    let s := s.receive f
    if s.link.rx.head? = some f ∧ s.link.canTake then .next (s.answer f isReset body).finish else .next s.finish

end Sys2Proof.Machine
end

