-- ==== Sys2Proof/Machine/BudgetRequests.lean ====
section
/-! DEFINITION. Meanings of the budget requests (Table 70): SET_POOL, RENEW_LEASE, SET_WANT and BOOST. -/

namespace Sys2Proof.Machine

open Sys2Proof

/-- What SET_POOL carries: the size, the lease period and the fallback (R26). -/
structure PoolSetting where
  size : Nat
  leasePeriod : Nat
  fallback : Nat
deriving DecidableEq, Repr

def decodePool (p : List Byte) : PoolSetting where
  size := wordAt p 0
  leasePeriod := longAt p 2
  fallback := wordAt p 6

/-- The field checks of SET_POOL (R26). -/
def poolChecks (p : List Byte) : List Check :=
  [wordIn p 0 0 Config.poolMax, longIn p 2 0 Config.leaseMax, wordIn p 6 0 Config.poolMax]

/-- An accepted SET_POOL: in CONFIG the values are stored (R27); in RUN and SAFE the pool changes in place and the lease
restarts (R28). -/
def Run.setPool (x : PoolSetting) (c : Cfg) (r : Run) : Run :=
  if r.mode.works then
    let r := { r with pool := { r.pool with leasePeriod := x.leasePeriod, fallback := x.fallback } }
    let r := r.resizePool c x.size
    { r with pool := r.pool.startLease }
  else
    { r with pool := { r.pool with size := x.size, leasePeriod := x.leasePeriod, fallback := x.fallback } }

/-- SET_POOL (R26 to R28). -/
def execSetPool (tag : Byte) (payload : List Byte) (s : State) : Host.Outcome State Fault Refusal :=
  s.request { tag := tag, type := 0x20, payload := payload } (payloadFits payload) false
    (checked (exactly 8) anyMode
      (fun p => withChecks (poolChecks p)
        (refuseIf (fun s => decide ((decodePool p).size < s.run.floorsHeld s.cfg)) .poolTooSmall
          (carryOutRun (Run.setPool (decodePool p))))) payload)

/-- The remaining count is reloaded with the lease period (R31). -/
def Run.renewLease (r : Run) : Run := { r with pool := { r.pool with leaseRemaining := r.pool.leasePeriod } }

/-- RENEW_LEASE by the lease state (R31). -/
def renewLeaseBody : Body := fun s =>
  match s.run.pool.leaseState with
  | .running => ({ s with run := s.run.renewLease }, .ok [])
  | .lapsed => (s, .refuse .lapsed)
  | .none => (s, .refuse .notAllowed)

/-- RENEW_LEASE (R31). -/
def execRenewLease (tag : Byte) (payload : List Byte) (s : State) : Host.Outcome State Fault Refusal :=
  s.request { tag := tag, type := 0x21, payload := payload } (payloadFits payload) false
    (checked (exactly 0) runOnly (fun _ => renewLeaseBody) payload)

/-- SET_WANT (R32, R33, R40). -/
def execSetWant (tag : Byte) (payload : List Byte) (s : State) : Host.Outcome State Fault Refusal :=
  s.request { tag := tag, type := 0x22, payload := payload } (payloadFits payload) false
    (checked (exactly 3) runOrSafe
      (fun p => withChecks [atMost p 0 23, atMost p 1 15, atMost p 2 3]
        (withPresence (finAt 24 p 0)
          (carryOutRun fun c r => r.setWant c (finAt 24 p 0) (finAt 16 p 1) (finAt 4 p 2)))) payload)

/-- Whether BOOST finds the sled's boost in the way (R53). -/
def boostBusy (i : Sled) (s : State) : Bool := (s.run.books i).boost != .none

/-- Whether BOOST is not allowed by the zone, the sled's state, its heat, its grant or the headroom (R53). -/
def boostBarred (i : Sled) (s : State) : Bool :=
  s.run.zone.state == .emergency || (s.run.life i).state != .tracking || (s.run.therm i).state != .cool
    || decide (costAt s.cfg i 0 ≤ (s.run.books i).grant)
    || decide (s.run.headroom < (costAt s.cfg i 0 : Int) - (s.run.books i).grant)

/-- BOOST (R53, R54). -/
def execBoost (tag : Byte) (payload : List Byte) (s : State) : Host.Outcome State Fault Refusal :=
  s.request { tag := tag, type := 0x23, payload := payload } (payloadFits payload) false
    (checked (exactly 2) runOnly
      (fun p => withChecks [atMost p 0 23, byteIn p 1 1 255]
        (withPresence (finAt 24 p 0)
          (refuseIf (boostBusy (finAt 24 p 0)) .busy
            (refuseIf (boostBarred (finAt 24 p 0)) .notAllowed
              (carryOutRun fun c r => r.startBoost c (finAt 24 p 0) (byteAt p 1)))))) payload)

end Sys2Proof.Machine
end

