-- ==== Sys2Proof/Machine/AlertEvents.lean ====
section
/-! DEFINITION. Meanings of the events of the alert lines and of heat: ALERT_SAMPLE_CHANGE, ALERT_LEVEL_ACCEPTED,
SUSTAIN_REACHED, STUCK_REACHED and HOT_PERSIST_EXPIRY. -/

namespace Sys2Proof.Machine

open Sys2Proof

/-- The world's level on ALRi. -/
def Run.setAlr (i : Sled) (level : Pin) (r : Run) : Run := r.modAlert i fun a => { a with pin := level }

/-- ALERT_SAMPLE_CHANGE (R96). The level is the pin's from here on; while a pin reset is in force the filter takes no
sample (assumption 21). A command of it is a sample of its own, taken at once, and the next T-tick takes the second
(assumption 1). -/
def execAlertSampleChange (i : Sled) (level : Pin) (s : State) : Host.Outcome State Fault Refusal :=
  if s.inReset || (s.run.alert i).lastSample == level then .next { s with run := s.run.setAlr i level }
  else s.runEvent true fun c r => r.sampleAlert c i level

/-- Whether sled i's filter has a level to accept. -/
def Run.alertMoves (r : Run) (i : Sled) : Bool := (r.alert i).lastSample != (r.alert i).accepted

/-- The run count has come to `alert_filter`, and the level is accepted (R96; assumption 1). -/
def Run.acceptSample (i : Sled) (c : Cfg) (r : Run) : Run :=
  (r.modAlert i fun a => { a with run := max a.run c.globals.alertFilter }).acceptAlert c i

/-- ALERT_LEVEL_ACCEPTED (R96 to R99). -/
def execAlertLevelAccepted (i : Sled) (s : State) : Host.Outcome State Fault Refusal :=
  s.runEvent (s.run.alertMoves i) (Run.acceptSample i)

/-- Whether sled i's assertion in progress can still be marked sustained. -/
def Run.canSustain (r : Run) (i : Sled) : Bool := (r.alert i).filtered && !(r.alert i).sustained

/-- SUSTAIN_REACHED (R100). -/
def execSustainReached (i : Sled) (s : State) : Host.Outcome State Fault Refusal :=
  s.runEvent (s.run.canSustain i) fun c r => r.sustain c i

/-- Whether sled i's assertion in progress can still be marked stuck. -/
def Run.canStick (r : Run) (i : Sled) : Bool := (r.alert i).filtered && !(r.alert i).stuck

/-- STUCK_REACHED (R101). -/
def execStuckReached (i : Sled) (s : State) : Host.Outcome State Fault Refusal :=
  s.runEvent (s.run.canStick i) fun c r => r.stick c i

/-- Whether sled i's hot-persist count runs (R85). -/
def Run.hotCounts (r : Run) (i : Sled) : Bool :=
  (r.therm i).state == .hot && (r.therm i).hotPersist.isSome && r.mode.works

/-- The hot-persist count expires (R85). -/
def Run.hotExpired (i : Sled) (c : Cfg) (r : Run) : Run :=
  (r.modTherm i fun t => { t with hotRaised := true, hotPersist := none }).raise c .hotPersist (.sled i) c.globals.hotLimitS

/-- HOT_PERSIST_EXPIRY (R85). -/
def execHotPersistExpiry (i : Sled) (s : State) : Host.Outcome State Fault Refusal :=
  s.runEvent (s.run.hotCounts i) (Run.hotExpired i)

end Sys2Proof.Machine
end

