-- ==== Sys2Proof/Machine/Commands.lean ====
section
/-! DEFINITION. Requests and their frames (Table 74): the frame a request command travels in, and the request a frame
spells. -/

namespace Sys2Proof.Machine

open Sys2Proof

/-- A frame with a TAG, a TYPE and a payload. -/
def frame (tag type : Byte) (payload : List Byte) : Frame := { tag := tag, type := type, payload := payload }

/-- The frame of a request command; an event has none. -/
def frameOf : Instr → Option Frame
  | .unknownRequest t k p => some (frame t k p)
  | .identify t p => some (frame t 0x01 p)
  | .queryPart t p => some (frame t 0x02 p)
  | .setModeRun t => some (frame t 0x03 [1])
  | .setModeConfig t => some (frame t 0x03 [0])
  | .setModeSafe t p => some (frame t 0x03 p)
  | .reset t p => some (frame t 0x04 p)
  | .writeGlobals t p => some (frame t 0x10 p)
  | .readGlobals t p => some (frame t 0x11 p)
  | .writeLevels t p => some (frame t 0x12 p)
  | .readLevels t p => some (frame t 0x13 p)
  | .writeSled t p => some (frame t 0x14 p)
  | .readSled t p => some (frame t 0x15 p)
  | .writeProbe t p => some (frame t 0x16 p)
  | .readProbe t p => some (frame t 0x17 p)
  | .writeScript t p => some (frame t 0x18 p)
  | .readScript t p => some (frame t 0x19 p)
  | .writeRouting t p => some (frame t 0x1A p)
  | .readRouting t p => some (frame t 0x1B p)
  | .setNotices t p => some (frame t 0x1C p)
  | .setPool t p => some (frame t 0x20 p)
  | .renewLease t p => some (frame t 0x21 p)
  | .setWant t p => some (frame t 0x22 p)
  | .boost t p => some (frame t 0x23 p)
  | .releaseSled t p => some (frame t 0x28 p)
  | .clearZone t p => some (frame t 0x29 p)
  | .resetLane t p => some (frame t 0x2A p)
  | .querySled t p => some (frame t 0x30 p)
  | .queryPool t p => some (frame t 0x31 p)
  | .queryProbe t p => some (frame t 0x32 p)
  | .queryLane t p => some (frame t 0x33 p)
  | .readAlert t p => some (frame t 0x34 p)
  | .readAlertAndClear t i => some (frame t 0x34 [i, 1])
  | .readFaults t p => some (frame t 0x35 p)
  | .clearFaults t p => some (frame t 0x36 p)
  | .powerOn | .rstNLow | .resetRelease _ | .frameReceived _ | .frameLengthDiscard _ | .linkGapExpiry | .frameSent => none
  | .boundaryEvent _ | .carrierSectionEnd _ | .leaseExpiry | .presenceLineChange _ _ | .presenceSettleExpiry _ => none
  | .admitCountExpiry _ | .zoneInputChange _ _ | .zoneSettleExpiry _ | .zoneReleaseExpiry => none
  | .alertLevelAccepted _ | .sustainReached _ | .stuckReached _ | .hotPersistExpiry _ | .dueEvent _ => none
  | .initTransactionEnd _ | .notAcknowledge _ | .settleExpiry _ | .waitExpiry _ | .readTransactionEnd _ _ _ => none
  | .transactionTimeout _ | .abortStopEnd _ | .recoveryAttemptEnd _ _ | .recoveryAttemptTimeout _ => none
  | .linkByteReceived _ | .alertSampleChange _ _ => none

/-- The SET_MODE command a payload spells (R152; assumption 15). -/
def setModeOf (t : Byte) (p : List Byte) : Instr :=
  if p = [1] then .setModeRun t else if p = [0] then .setModeConfig t else .setModeSafe t p

/-- The READ_ALERT command a payload spells (R103; assumption 15). -/
def readAlertOf (t : Byte) (p : List Byte) : Instr :=
  match p with
  | [i, c] => if c = 1 then .readAlertAndClear t i else .readAlert t p
  | _ => .readAlert t p

/-- The request a TYPE, a TAG and a payload spell, for a TYPE of Table 74. -/
def requestOfType (k : Nat) (t : Byte) (p : List Byte) : Instr :=
  match k with
  | 0x01 => .identify t p
  | 0x02 => .queryPart t p
  | 0x03 => setModeOf t p
  | 0x04 => .reset t p
  | 0x10 => .writeGlobals t p
  | 0x11 => .readGlobals t p
  | 0x12 => .writeLevels t p
  | 0x13 => .readLevels t p
  | 0x14 => .writeSled t p
  | 0x15 => .readSled t p
  | 0x16 => .writeProbe t p
  | 0x17 => .readProbe t p
  | 0x18 => .writeScript t p
  | 0x19 => .readScript t p
  | 0x1A => .writeRouting t p
  | 0x1B => .readRouting t p
  | 0x1C => .setNotices t p
  | 0x20 => .setPool t p
  | 0x21 => .renewLease t p
  | 0x22 => .setWant t p
  | 0x23 => .boost t p
  | 0x28 => .releaseSled t p
  | 0x29 => .clearZone t p
  | 0x2A => .resetLane t p
  | 0x30 => .querySled t p
  | 0x31 => .queryPool t p
  | 0x32 => .queryProbe t p
  | 0x33 => .queryLane t p
  | 0x34 => readAlertOf t p
  | 0x35 => .readFaults t p
  | 0x36 => .clearFaults t p
  | n => .unknownRequest t (BitVec.ofNat 8 n) p

/-- The request a frame spells (R166, Table 74). -/
def requestOf (f : Frame) : Instr :=
  if requestTypes.contains f.type then requestOfType f.type.toNat f.tag f.payload
  else .unknownRequest f.tag f.type f.payload

end Sys2Proof.Machine
end

