-- ==== Sys2Proof/Machine/FrameEvents.lean ====
section
/-! DEFINITION. Meanings of the events of the throttle frame and of the lease: BOUNDARY_EVENT, CARRIER_SECTION_END and
LEASE_EXPIRY. -/

namespace Sys2Proof.Machine

open Sys2Proof

/-! ## The boundary (R13) -/

/-- The level settled at a boundary, from the dwell as step 1 left it (R13 step 2). -/
def settledLevel (active target : Level) (dwell : Nat) (boostStep : Bool) : Level :=
  if active ≤ target then target
  else if boostStep then target
  else if dwell = 0 then active - 1
  else active

/-- Steps 1 to 3 of a boundary (R13), with the latch and the restart of the carrier (R9); the carrier of an ABSENT sled
stays IDLE (R10; assumption 13). -/
def Channel.boundary (ramp : Nat) (levels : Vector LevelEntry 16) (target : Level) (absent : Bool) (x : Channel) : Channel :=
  let dwell := x.dwell - 1
  let level := settledLevel x.active target dwell x.boostStep
  let entry := levels.get level
  { active := level
    dwell := if level < x.active then ramp else dwell
    boostStep := false
    carrier := if absent then .idle else .admitting
    ticks := if absent then 0 else entry.admitTicks
    latchedAdmit := entry.admitTicks
    latchedHold := entry.holdTicks }

/-- A boundary event of sled i (R13): the channel, then the books (R55). -/
def Run.boundary (i : Sled) (c : Cfg) (r : Run) : Run :=
  (r.modChan i fun x =>
    x.boundary c.globals.rampFrames c.levels (r.target c i) ((r.life i).state == .absent)).boundaryBooks c i

/-- Whether sled i has boundary events (R4). -/
def Run.hasBoundary (r : Run) (i : Sled) : Bool := (r.life i).state != .disabled

/-- BOUNDARY_EVENT (R4, R13). A command of it away from the sled's offset is a whole boundary of that sled, and the frame
counter stays where it is (assumption 1). -/
def execBoundaryEvent (i : Sled) (s : State) : Host.Outcome State Fault Refusal :=
  s.runEvent (s.run.hasBoundary i) (Run.boundary i)

/-! ## The carrier (R9) -/

/-- The section ticks remaining have come to 0: the next section begins (R9). -/
def Channel.sectionEnd (x : Channel) : Channel :=
  match x.carrier with
  | .idle => x
  | .admitting =>
    if 0 < x.latchedHold then { x with carrier := .holding, ticks := x.latchedHold } else { x with ticks := x.latchedAdmit }
  | .holding => { x with carrier := .admitting, ticks := x.latchedAdmit }

/-- Whether sled i's carrier runs. -/
def Run.carrierRuns (r : Run) (i : Sled) : Bool := (r.chan i).carrier != .idle

/-- CARRIER_SECTION_END (R9). -/
def execCarrierSectionEnd (i : Sled) (s : State) : Host.Outcome State Fault Refusal :=
  s.runEvent (s.run.carrierRuns i) fun _ r => r.modChan i Channel.sectionEnd

/-! ## The lease (R29, R30) -/

/-- Whether the lease counts (R29). -/
def Run.leaseCounts (r : Run) : Bool := r.pool.leaseState == .running && r.mode.works

/-- The pool size the part falls back to (R30 step 1). -/
def Run.fallbackSize (c : Cfg) (r : Run) : Nat := max r.pool.fallback (r.floorsHeld c)

/-- The deficit that a pool size leaves (R30 step 2): 0 when the size covers the grants and loans. -/
def Run.deficitAt (size : Nat) (r : Run) : Nat := r.sumGrants + r.sumLoans - size

/-- The lease expires (R30). -/
def Run.expireLease (c : Cfg) (r : Run) : Run :=
  let size := r.fallbackSize c
  let t := r.resizePool c size
  ({ t with pool := { t.pool with leaseState := .lapsed, leaseRemaining := 0 } }.raise c .leaseLapsed .pool
    (r.deficitAt size)).post c .pool

/-- LEASE_EXPIRY (R30). -/
def execLeaseExpiry (s : State) : Host.Outcome State Fault Refusal := s.runEvent s.run.leaseCounts Run.expireLease

end Sys2Proof.Machine
end

