-- ==== Sys2Proof/Machine/LaneEvents.lean ====
section
/-! DEFINITION. Meanings of the events of the sensor lanes: DUE_EVENT, the ends of transactions, waits and aborts, the
timeouts, and the recovery attempts; and the event that readings of a lane's pins bring. -/

namespace Sys2Proof.Machine

open Sys2Proof

/-- DUE_EVENT: the probe's due timer expires (R112, R113). -/
def execDueEvent (p : Probe) (s : State) : Host.Outcome State Fault Refusal :=
  s.runEvent ((s.run.probe p).due.isSome && s.run.mode.works) fun c r => r.dueEvent c p

/-! ## Polls -/

/-- The poll in progress on lane n, if it is in a phase. -/
def Run.pollIn (r : Run) (n : LaneNo) (k : Phase) : Option Poll :=
  match (r.lane n).poll with
  | .poll p => if p.phase = k then some p else none
  | .absent | .aborting => none

/-- An effect on a lane's poll in a phase; nothing where there is none. -/
def Run.withPoll (n : LaneNo) (k : Phase) (effect : Poll → Run → Run) (r : Run) : Run :=
  match r.pollIn n k with
  | some p => effect p r
  | none => r

/-- The INIT transaction in hand ends: the next one opens, or INIT ends (R125). -/
def Run.initEnds (c : Cfg) (n : LaneNo) (p : Poll) (r : Run) : Run :=
  if p.transaction + 1 < initTransactionCount (c.probe p.probe) then
    ((r.closeOnLane n).setPoll n { p with transaction := p.transaction + 1, retries := 0 }).openOnLane c n
  else r.endInit c n p.probe

/-- INIT_TRANSACTION_END (R125). -/
def execInitTransactionEnd (n : LaneNo) (s : State) : Host.Outcome State Fault Refusal :=
  s.runEvent (s.run.pollIn n .init).isSome fun c r => r.withPoll n .init (fun p r => r.initEnds c n p)

/-- A not-acknowledge: the transaction is stopped and opened again, or the poll fails (R129). -/
def Run.notAcknowledged (c : Cfg) (n : LaneNo) (reason : Reason) (p : Poll) (r : Run) : Run :=
  let r := r.closeOnLane n
  if p.retries < (c.probe p.probe).nakRetries then (r.setPoll n { p with retries := p.retries + 1 }).openOnLane c n
  else (r.modProbe p.probe fun x => { x with needsInit := true }).endPoll c n p.probe (.failure reason none)

/-- NOT_ACKNOWLEDGE (R129). -/
def execNotAcknowledge (n : LaneNo) (s : State) : Host.Outcome State Fault Refusal :=
  s.runEvent ((s.run.pollIn n .init).isSome || (s.run.pollIn n .read).isSome) fun c r =>
    if (r.pollIn n .init).isSome then r.withPoll n .init (fun p r => r.notAcknowledged c n .nakInit p)
    else r.withPoll n .read (fun p r => r.notAcknowledged c n .nakRead p)

/-- SETTLE_EXPIRY (R126). -/
def execSettleExpiry (n : LaneNo) (s : State) : Host.Outcome State Fault Refusal :=
  s.runEvent (s.run.pollIn n .settle).isSome fun c r => r.withPoll n .settle (fun p r => r.beginWaitOrRead c n p.probe)

/-- The outcome of a WAIT that expires (R131, Table 56). A DIRECT poll is never in WAIT. -/
def waitOutcome (m : ProbeMode) : PollResult :=
  match m with
  | .self => .success .cool none
  | .ready | .direct => .failure .noReady none

/-- WAIT_EXPIRY (R127, R131). -/
def execWaitExpiry (n : LaneNo) (s : State) : Host.Outcome State Fault Refusal :=
  s.runEvent (s.run.pollIn n .wait).isSome fun c r =>
    r.withPoll n .wait (fun p r => r.endPoll c n p.probe (waitOutcome (c.probe p.probe).mode))

/-- READ_TRANSACTION_END: the reading is assembled, decoded and classified (R128, R130). -/
def execReadTransactionEnd (n : LaneNo) (b0 b1 : Byte) (s : State) : Host.Outcome State Fault Refusal :=
  s.runEvent (s.run.pollIn n .read).isSome fun c r =>
    r.withPoll n .read fun p r =>
      (r.closeOnLane n).endPoll c n p.probe (classify (c.probe p.probe) (rawReading (c.probe p.probe) b0 b1))

/-! ## Timeouts, aborts and recovery -/

/-- The lane goes to RECOVER with attempt count 1, no poll in progress (R108, R116). -/
def Run.enterRecover (c : Cfg) (n : LaneNo) (r : Run) : Run :=
  (r.modLane n fun x => { x with poll := .absent }).beginAttempt c n 1

/-- The transaction count expires (R108), in a poll or in an abort (R116). -/
def Run.transactionExpired (n : LaneNo) (c : Cfg) (r : Run) : Run :=
  let r := (r.abandonLane n).modLane n fun x => { x with timeouts := satSucc 65535 x.timeouts }
  let r :=
    match (r.lane n).poll with
    | .poll p => (r.modProbe p.probe fun x => { x with run := .idle }).handOutcome c p.probe (.failure .laneAbort none)
    | .absent | .aborting => r
  r.enterRecover c n

/-- TRANSACTION_TIMEOUT (R108, R116). -/
def execTransactionTimeout (n : LaneNo) (s : State) : Host.Outcome State Fault Refusal :=
  s.runEvent ((s.run.lane n).transaction.isSome && (s.run.lane n).poll != .absent) (Run.transactionExpired n)

/-- ABORT_STOP_END: the lane is IDLE and serves its queue (R116). -/
def execAbortStopEnd (n : LaneNo) (s : State) : Host.Outcome State Fault Refusal :=
  s.runEvent ((s.run.lane n).poll == .aborting) fun c r => (r.closeOnLane n).freeLane c n

/-- Whether a recovery attempt runs on lane n. -/
def Run.recovering (r : Run) (n : LaneNo) : Bool := (r.lane n).state == .recover && (r.lane n).attempt.isSome

/-- The check of a recovery attempt: SCL has been waited high, and SDA is sampled (R109, R110). -/
def Run.attemptChecked (n : LaneNo) (sda : Pin) (c : Cfg) (r : Run) : Run :=
  let r := r.modLane n fun x => { x with scl := .high, sda := sda }
  match sda with
  | .high => r.attemptSucceeded c n
  | .low => r.attemptFailed c n

/-- RECOVERY_ATTEMPT_END (R110). -/
def execRecoveryAttemptEnd (n : LaneNo) (sda : Pin) (s : State) : Host.Outcome State Fault Refusal :=
  s.runEvent (s.run.recovering n) (Run.attemptChecked n sda)

/-- RECOVERY_ATTEMPT_TIMEOUT: the attempt ends as failed (R109, R110). -/
def execRecoveryAttemptTimeout (n : LaneNo) (s : State) : Host.Outcome State Fault Refusal :=
  s.runEvent (s.run.recovering n) fun c r => (r.abandonLane n).attemptFailed c n

/-! ## The events that the pins bring (R107, R109, R116, R129) -/

/-- The end of a transaction in a phase as an event: a U8 reading has one byte, and the second is not used (R125, R128). -/
def Heard.event (n : LaneNo) (k : Phase) : Heard → Option Instr
  | .unfinished => none
  | .refused => some (.notAcknowledge n)
  | .ended bytes => some (if k = .read then .readTransactionEnd n (bytes.getD 0 0) (bytes.getD 1 0) else .initTransactionEnd n)

/-- The event that readings of lane `n`'s pins, from the beginning of the work in hand on, bring: none while that work goes on.
`begun` is the bus steps begun before an abort, which the lane record no longer names; in no other work is it read. -/
def State.laneHears (s : State) (n : LaneNo) (begun : List BusStep) (readings : List Reading) : Option Instr :=
  if s.inReset then none
  else
    match (s.run.lane n).state, (s.run.lane n).poll with
    | .recover, _ => (hearRecovery readings).map fun sda => .recoveryAttemptEnd n sda
    | .busy, .aborting => if hear (cutShort begun) readings = .unfinished then none else some (.abortStopEnd n)
    | .busy, .poll p => (p.openTransaction s.cfg).bind fun t => (hear t readings).event n p.phase
    | .busy, .absent | .idle, _ | .failed, _ => none

end Sys2Proof.Machine
end

