-- ==== Sys2Proof/Machine/SledEvents.lean ====
section
/-! DEFINITION. Meanings of the events of presence, admission and the zone: PRESENCE_LINE_CHANGE,
PRESENCE_SETTLE_EXPIRY, ADMIT_COUNT_EXPIRY, ZONE_INPUT_CHANGE, ZONE_SETTLE_EXPIRY and ZONE_RELEASE_EXPIRY. -/

namespace Sys2Proof.Machine

open Sys2Proof

/-! ## Presence and admission -/

/-- The world's level on PRSi, as sampled. -/
def Run.setPrs (i : Sled) (level : Pin) (r : Run) : Run := r.modLife i fun l => { l with prs := level }

/-- A change of the sampled level starts the settle count (R62). -/
def Run.presenceLine (i : Sled) (level : Pin) (c : Cfg) (r : Run) : Run :=
  r.modLife i fun l => { l with prs := level, settle := some c.globals.presenceSettleMs }

/-- PRESENCE_LINE_CHANGE (R62). While a pin reset is in force the level is the pin's and no more (assumption 21). -/
def execPresenceLineChange (i : Sled) (level : Pin) (s : State) : Host.Outcome State Fault Refusal :=
  if s.inReset then .next { s with run := s.run.setPrs i level }
  else s.runEvent ((s.run.life i).prs != level) (Run.presenceLine i level)

/-- PRESENCE_SETTLE_EXPIRY (R62, R63). -/
def execPresenceSettleExpiry (i : Sled) (s : State) : Host.Outcome State Fault Refusal :=
  s.runEvent (s.run.life i).settle.isSome fun c r => r.settlePresence c i

/-- Whether sled i's admission count runs (R66). -/
def Run.admissionCounts (r : Run) (i : Sled) : Bool :=
  (r.life i).state == .admitting && (r.life i).admission.isSome && r.mode.works

/-- ADMIT_COUNT_EXPIRY (R66). -/
def execAdmitCountExpiry (i : Sled) (s : State) : Host.Outcome State Fault Refusal :=
  s.runEvent (s.run.admissionCounts i) fun c r => r.admissionExpired c i

/-! ## The zone -/

def Run.modZone (z : ZoneNo) (f : ZoneFilter → ZoneFilter) (r : Run) : Run :=
  { r with zone := { r.zone with filters := modAt z f r.zone.filters } }

/-- The world's level on a zone pin, as sampled. -/
def Run.setZonePin (z : ZoneNo) (level : Pin) (r : Run) : Run := r.modZone z fun f => { f with pin := level }

/-- A change of the sampled level starts the settle count (R87). -/
def Run.zoneLine (z : ZoneNo) (level : Pin) (c : Cfg) (r : Run) : Run :=
  r.modZone z fun f => { f with pin := level, settle := some c.globals.zoneSettleMs }

/-- ZONE_INPUT_CHANGE (R87). While a pin reset is in force the level is the pin's and no more (assumption 21). -/
def execZoneInputChange (z : ZoneNo) (level : Pin) (s : State) : Host.Outcome State Fault Refusal :=
  if s.inReset then .next { s with run := s.run.setZonePin z level }
  else s.runEvent ((s.run.zone.filters.get z).pin != level) (Run.zoneLine z level)

/-- ZONE_SETTLE_EXPIRY (R87 to R89). -/
def execZoneSettleExpiry (z : ZoneNo) (s : State) : Host.Outcome State Fault Refusal :=
  s.runEvent (s.run.zone.filters.get z).settle.isSome fun c r => r.settleZone c z

/-- Whether the release count runs (R89). -/
def Run.releaseCounts (r : Run) : Bool := r.zone.state == .releasing && r.zone.release.isSome

/-- ZONE_RELEASE_EXPIRY (R89). -/
def execZoneReleaseExpiry (s : State) : Host.Outcome State Fault Refusal := s.runEvent s.run.releaseCounts Run.releaseExpired

end Sys2Proof.Machine
end

