-- ==== Sys2Proof/Machine/Clock.lean ====
section
/-! DEFINITION. What the part does of itself when no command waits (assumption 2): it takes a request from its receive
queue, takes an event that its timebases made due, or lets one REFCLK period pass (R1 to R4). -/

namespace Sys2Proof.Machine

open Sys2Proof

/-! ## When an event is due -/

/-- Whether the lease's next ms tick is its last: the one at which the count reaches 0 (R29). -/
def Run.leaseEnds (r : Run) : Bool := r.leaseCounts && decide (r.pool.leaseRemaining ≤ 1)

/-- Whether an event of the part's own timebases is due as the state stands. Events from outside and requests are never
due of themselves. -/
def isDue (s : State) : Instr → Bool
  | .boundaryEvent i => s.run.hasBoundary i && s.run.clock.frame == (s.cfg.sled i).offset
  | .carrierSectionEnd i => s.run.carrierRuns i && (s.run.chan i).ticks == 0
  | .alertSampleChange i level => (s.run.alert i).pin == level && (s.run.alert i).lastSample != level
  | .alertLevelAccepted i =>
    (s.run.alert i).pin == (s.run.alert i).lastSample && s.run.alertMoves i && decide (s.cfg.globals.alertFilter ≤ (s.run.alert i).run)
  | .leaseExpiry => s.run.leaseEnds
  | .presenceSettleExpiry i => (s.run.life i).settle.expired
  | .admitCountExpiry i => s.run.admissionCounts i && (s.run.life i).admission.expired
  | .zoneSettleExpiry z => (s.run.zone.filters.get z).settle.expired
  | .zoneReleaseExpiry => s.run.releaseCounts && s.run.zone.release.expired
  | .sustainReached i => s.run.canSustain i && (s.run.alert i).tickOwed && decide (s.cfg.globals.sustainMs ≤ (s.run.alert i).width + 1)
  | .stuckReached i => s.run.canStick i && (s.run.alert i).tickOwed && decide (s.cfg.globals.stuckMs ≤ (s.run.alert i).width + 1)
  | .hotPersistExpiry i => s.run.hotCounts i && (s.run.therm i).hotPersist.expired
  | .dueEvent p => (s.run.probe p).due.expired && s.run.mode.works
  | .settleExpiry n => ((s.run.pollIn n .settle).map fun p => p.timer.expired).getD false
  | .waitExpiry n => ((s.run.pollIn n .wait).map fun p => p.timer.expired).getD false
  | .transactionTimeout n => (s.run.lane n).transaction.expired && (s.run.lane n).poll != .absent
  | .recoveryAttemptTimeout n => s.run.recovering n && (s.run.lane n).attempt.expired
  | .linkGapExpiry => s.link.gap.expired
  | _ => false

/-! ## The ticks -/

/-- One T-tick of a channel: the section ticks remaining fall by 1 while the carrier runs (R9). -/
def Channel.tick (x : Channel) : Channel := if x.carrier == .idle then x else { x with ticks := x.ticks - 1 }

/-- One T-tick of an alert filter whose sample equals the last one; a differing sample is an event (R96). -/
def Alert.tick (a : Alert) : Alert := if a.pin == a.lastSample then { a with run := satSucc 15 a.run } else a

/-- The frame counter advances (R3). -/
def nextFrame (frameTicks frame : Nat) : Nat := if frame + 1 < frameTicks then frame + 1 else 0

/-- One T-tick (R1, R3, R9, R96). -/
def Run.tTick (c : Cfg) (r : Run) : Run :=
  { r with
    clock := { r.clock with frame := nextFrame c.globals.frameTicks r.clock.frame }
    sleds := mapAt (fun _ x => { x with chan := x.chan.tick, alert := x.alert.tick }) r.sleds }

/-- Whether the next ms tick brings an assertion's width to a mark that it does not have (R100, R101). -/
def Alert.nearsMark (g : Globals) (a : Alert) : Bool :=
  (!a.sustained && decide (g.sustainMs ≤ a.width + 1)) || (!a.stuck && decide (g.stuckMs ≤ a.width + 1))

/-- One ms tick of an assertion in progress (R99). A tick that sets a mark is an event of its own, SUSTAIN_REACHED or
STUCK_REACHED, so that a deasserting edge comes before it or after it whole (R100, R101; assumption 24). -/
def Alert.msTick (g : Globals) (a : Alert) : Alert :=
  if a.filtered then
    if a.nearsMark g then { a with tickOwed := true }
    else { a with width := satSucc widthMax a.width, total := satSucc widthMax a.total }
  else a

/-- One ms tick of a sled's counts (R2): settle, admission, hot persistence, the widths of an assertion (R99). -/
def SledRun.msTick (g : Globals) (works : Bool) (x : SledRun) : SledRun :=
  { x with
    life := { x.life with
      settle := x.life.settle.down
      admission := if x.life.state == .admitting && works then x.life.admission.down else x.life.admission }
    therm := { x.therm with
      hotPersist := if x.therm.state == .hot && works then x.therm.hotPersist.down else x.therm.hotPersist }
    alert := x.alert.msTick g }

/-- One ms tick of a lane's counts (R2). -/
def Lane.msTick (x : Lane) : Lane :=
  { x with
    transaction := x.transaction.down
    attempt := x.attempt.down
    poll :=
      match x.poll with
      | .poll p => .poll { p with timer := p.timer.down }
      | .absent => .absent
      | .aborting => .aborting }

/-- One ms tick of the lease (R29). The tick at which the count would reach 0 is the expiry itself, LEASE_EXPIRY: it leaves
the count, so that a request comes before it or after it whole (R30, R31; assumption 24). -/
def Run.leaseTick (r : Run) : Pool :=
  if r.leaseCounts && !r.leaseEnds then { r.pool with leaseRemaining := r.pool.leaseRemaining - 1 } else r.pool

/-- One ms tick of the zone (R87, R89). -/
def Zone.msTick (z : Zone) : Zone :=
  { z with
    release := if z.state == .releasing then z.release.down else z.release
    filters := mapAt (fun _ f => { f with settle := f.settle.down }) z.filters }

/-- One ms tick of the running part (R2, R95). -/
def Run.msTick (c : Cfg) (r : Run) : Run :=
  { r with
    clock := { r.clock with stamp := r.clock.stamp + 1 }
    pool := r.leaseTick
    sleds := mapAt (fun _ x => SledRun.msTick c.globals r.mode.works x) r.sleds
    zone := r.zone.msTick
    lanes := mapAt (fun _ x => Lane.msTick x) r.lanes
    probes := mapAt (fun _ x => { x with due := if r.mode.works then x.due.down else x.due }) r.probes }

/-- One ms tick of the part: also the link's gap count (R163). -/
def State.msTick (s : State) : State := { s with link := { s.link with gap := s.link.gap.down }, run := s.run.msTick s.cfg }

/-! ## One REFCLK period -/

/-- The events a T-tick can make due. -/
def tEvents (r : Run) : List Instr :=
  allSleds.flatMap fun i =>
    [.carrierSectionEnd i, .boundaryEvent i, .alertSampleChange i (r.alert i).pin, .alertLevelAccepted i]

/-- The events an ms tick can make due, from the state before it: the lease's expiry where the tick is the lease's last. -/
def msEvents (before : Run) : List Instr :=
  (if before.leaseEnds then [.leaseExpiry] else [])
    ++ [.zoneReleaseExpiry, .linkGapExpiry, .zoneSettleExpiry 0, .zoneSettleExpiry 1]
    ++ (allSleds.flatMap fun i =>
        [.presenceSettleExpiry i, .admitCountExpiry i, .sustainReached i, .stuckReached i, .hotPersistExpiry i])
    ++ (allProbes.map fun p => .dueEvent p)
    ++ (allLanes.flatMap fun n => [.settleExpiry n, .waitExpiry n, .transactionTimeout n, .recoveryAttemptTimeout n])

/-- Puts an event among those already ordered, by rank. -/
def insertByRank (x : Nat × Instr) : List (Nat × Instr) → List (Nat × Instr)
  | [] => [x]
  | y :: ys => if x.1 ≤ y.1 then x :: y :: ys else y :: insertByRank x ys

/-- The events of one moment in the order in which they are taken: a free order (R4, R114; assumption 4). -/
def orderEvents (free : Nat) (cs : List Instr) : List Instr :=
  match cs with
  | [] => []
  | [c] => [c]
  | c :: d :: rest =>
    (((c :: d :: rest).zipIdx.map fun x => (Config.tieRank free x.2, x.1)).foldr insertByRank []).map (·.2)

/-- A divider of REFCLK at its next period: its count, and whether it ticks. -/
def divide (by_ count : Nat) : Nat × Bool := if count + 1 < by_ then (count + 1, false) else (0, true)

/-- One REFCLK period: the prescaler and the ms divider advance, the ticks they make are counted, and the events then
due wait in a free order (R1 to R4; assumptions 2 and 4). -/
def State.refclk (s : State) : State :=
  let t := divide s.cfg.globals.prescale s.run.clock.prescaleCount
  let m := divide Config.refclkPerMs s.run.clock.msCount
  let u := { s with run := { s.run with clock := { s.run.clock with prescaleCount := t.1, msCount := m.1 } } }
  let u := if t.2 then { u with run := u.run.tTick u.cfg } else u
  let u := if m.2 then u.msTick else u
  let cs := (if t.2 then tEvents u.run else []) ++ (if m.2 then msEvents s.run else [])
  { u with due := orderEvents u.run.free (cs.filter (isDue u)), run := u.run.spendFree }

/-! ## The part's own turn -/

/-- What the part does when no command waits: it takes a request or an event, or it takes none and its state goes on. -/
inductive Turn
  | take (c : Instr) (s : State)
  | pass (s : State)
deriving DecidableEq, Repr

/-- The front of the receive queue as a request (R165). -/
def State.takeFront (s : State) : Turn :=
  match s.link.rx with
  | f :: _ => .take (requestOf f) s
  | [] => .pass s

/-- An event that is not due any more is dropped. Of an expiry of the lease the ms tick is left: a lease that a request has
started or renewed before the tick now counts it (R29 to R31; assumption 24). -/
def State.dropDue (c : Instr) (s : State) : State :=
  match c with
  | .leaseExpiry => { s with run := { s.run with pool := s.run.leaseTick } }
  | _ => s

/-- The event at the front of those that are waiting, if it is still due. -/
def State.takeDue (s : State) : Turn :=
  match s.due with
  | c :: rest => if isDue s c then .take c { s with due := rest } else .pass ({ s with due := rest }.dropDue c)
  | [] => .pass s.refclk

/-- The part's own turn: none while a pin reset is in force; a request and an event of the same moment come in a free
order (R165; assumptions 2 and 4). -/
def State.ownTurn (s : State) : Turn :=
  if s.inReset then .pass s
  else if s.link.canTake then
    if s.due.isEmpty then s.takeFront
    else
      let t := { s with run := s.run.spendFree }
      if Config.requestFirst s.run.free then t.takeFront else t.takeDue
  else s.takeDue

end Sys2Proof.Machine
end

