-- ==== Sys2Proof/Machine/ConfigRequests.lean ====
section
/-! DEFINITION. Meanings of the configuration requests (Table 70): the writes with their side effects (R170), and the
reads. -/

namespace Sys2Proof.Machine

open Sys2Proof

/-! ## Side effects of the writes (R170) -/

/-- A carrier set to IDLE (R9). -/
def Channel.idle (x : Channel) : Channel := { x with carrier := .idle, ticks := 0 }

/-- A frame restart: prescaler and frame counter start again, every carrier is IDLE (R1, R3). -/
def Run.restartFrame (r : Run) : Run :=
  { r with
    clock := { r.clock with prescaleCount := 0, frame := 0 }
    sleds := mapAt (fun _ x => { x with chan := Channel.idle x.chan }) r.sleds }

/-- Every dwell is loaded, a DISABLED sled's too: R5 has every channel take the value (assumption 26). -/
def Run.loadDwells (ramp : Nat) (r : Run) : Run :=
  { r with sleds := mapAt (fun _ x => { x with chan := { x.chan with dwell := ramp } }) r.sleds }

/-- An accepted WRITE_GLOBALS (R170): the record, then what the changed fields do. -/
def State.writeGlobals (g : Globals) (s : State) : State :=
  let old := s.cfg.globals
  let c := { s.cfg with globals := g }
  let r := if old.prescale = g.prescale ∧ old.frameTicks = g.frameTicks then s.run else s.run.restartFrame
  let r := if old.rampFrames = g.rampFrames then r else r.loadDwells g.rampFrames
  { s with cfg := c, run := r.zoneWrite s.cfg c }

/-- An accepted WRITE_SLED: the record, and the sled's state when `enable` changes (R60, R72). -/
def State.writeSled (i : Sled) (x : SledCfg) (s : State) : State :=
  { s with
    cfg := { s.cfg with sleds := modAt i (fun _ => x) s.cfg.sleds }
    run := if x.enable = (s.cfg.sled i).enable then s.run else s.run.changeEnable i x.enable }

/-- The kinds turned off leave the pending set (R174). -/
def NoticeSet.keep (m : NoticeMask) (n : NoticeSet) : NoticeSet where
  sled := if m.sled then n.sled else tabulate fun _ => false
  pool := m.pool && n.pool
  severe := m.fault && n.severe
  advisory := m.fault && n.advisory
  zone := m.zone && n.zone
  mode := m.mode && n.mode

/-- An accepted SET_NOTICES (R174). -/
def State.setNotices (m : NoticeMask) (s : State) : State :=
  { s with cfg := { s.cfg with mask := m }, run := { s.run with notices := s.run.notices.keep m } }

/-! ## Payload lengths of the variable requests (Table 74) -/

def levelsLength (k : Nat) : Bool := decide (3 ≤ k) && decide (k ≤ 33) && k % 2 == 1
def scriptLength (k : Nat) : Bool := decide (3 ≤ k) && decide (k ≤ 50)

/-! ## The meanings -/

/-- WRITE_GLOBALS (R170). -/
def execWriteGlobals (tag : Byte) (payload : List Byte) (s : State) : Host.Outcome State Fault Refusal :=
  s.request { tag := tag, type := 0x10, payload := payload } (payloadFits payload) false
    (checked (exactly 41) configOnly
      (fun p s => withChecks (globalsChecks s.cfg p) (carryOut (State.writeGlobals (decodeGlobals p))) s) payload)

/-- READ_GLOBALS (R170). -/
def execReadGlobals (tag : Byte) (payload : List Byte) (s : State) : Host.Outcome State Fault Refusal :=
  s.request { tag := tag, type := 0x11, payload := payload } (payloadFits payload) false
    (checked (exactly 0) anyMode (fun _ => report fun s => encodeGlobals s.cfg.globals) payload)

/-- WRITE_LEVELS (R6, R170). -/
def execWriteLevels (tag : Byte) (payload : List Byte) (s : State) : Host.Outcome State Fault Refusal :=
  s.request { tag := tag, type := 0x12, payload := payload } (payloadFits payload) false
    (checked levelsLength configOnly
      (fun p => withChecks (levelsChecks p)
        (carryOut fun s => { s with cfg := { s.cfg with levels := decodeLevels p s.cfg.levels } })) payload)

/-- READ_LEVELS (R170). -/
def execReadLevels (tag : Byte) (payload : List Byte) (s : State) : Host.Outcome State Fault Refusal :=
  s.request { tag := tag, type := 0x13, payload := payload } (payloadFits payload) false
    (checked (exactly 0) anyMode (fun _ => report fun s => encodeLevels s.cfg.levels) payload)

/-- WRITE_SLED (R60, R72, R170). -/
def execWriteSled (tag : Byte) (payload : List Byte) (s : State) : Host.Outcome State Fault Refusal :=
  s.request { tag := tag, type := 0x14, payload := payload } (payloadFits payload) false
    (checked (exactly 41) configOnly
      (fun p s => withChecks (sledChecks s.cfg p) (carryOut (State.writeSled (finAt 24 p 0) (decodeSled p))) s) payload)

/-- READ_SLED (R60). -/
def execReadSled (tag : Byte) (payload : List Byte) (s : State) : Host.Outcome State Fault Refusal :=
  s.request { tag := tag, type := 0x15, payload := payload } (payloadFits payload) false
    (checked (exactly 1) anyMode
      (fun p => withChecks [atMost p 0 23] (report fun s => encodeSled (finAt 24 p 0) (s.cfg.sled (finAt 24 p 0)))) payload)

/-- WRITE_PROBE (R119, R170). -/
def execWriteProbe (tag : Byte) (payload : List Byte) (s : State) : Host.Outcome State Fault Refusal :=
  s.request { tag := tag, type := 0x16, payload := payload } (payloadFits payload) false
    (checked (exactly 33) configOnly
      (fun p => withChecks (probeChecks p)
        (carryOut fun s =>
          { s with cfg := { s.cfg with probes := modAt (finAt 48 p 0) (fun _ => decodeProbe p) s.cfg.probes } })) payload)

/-- READ_PROBE (R119). -/
def execReadProbe (tag : Byte) (payload : List Byte) (s : State) : Host.Outcome State Fault Refusal :=
  s.request { tag := tag, type := 0x17, payload := payload } (payloadFits payload) false
    (checked (exactly 1) anyMode
      (fun p => withChecks [atMost p 0 47]
        (report fun s => encodeProbe (finAt 48 p 0) (s.cfg.probe (finAt 48 p 0)))) payload)

/-- WRITE_SCRIPT (R121). -/
def execWriteScript (tag : Byte) (payload : List Byte) (s : State) : Host.Outcome State Fault Refusal :=
  s.request { tag := tag, type := 0x18, payload := payload } (payloadFits payload) false
    (checked scriptLength configOnly
      (fun p => withChecks (scriptWriteChecks p)
        (carryOut fun s => { s with cfg := { s.cfg with script := writeScriptBytes p s.cfg.script } })) payload)

/-- READ_SCRIPT (R121; assumption 19). -/
def execReadScript (tag : Byte) (payload : List Byte) (s : State) : Host.Outcome State Fault Refusal :=
  s.request { tag := tag, type := 0x19, payload := payload } (payloadFits payload) false
    (checked (exactly 3) anyMode
      (fun p => withChecks (scriptReadChecks p) (report fun s => readScriptBytes p s.cfg.script)) payload)

/-- WRITE_ROUTING (R139). -/
def execWriteRouting (tag : Byte) (payload : List Byte) (s : State) : Host.Outcome State Fault Refusal :=
  s.request { tag := tag, type := 0x1A, payload := payload } (payloadFits payload) false
    (checked (exactly 10) configOrRun
      (fun p => withChecks (routingChecks p)
        (carryOut fun s => { s with cfg := { s.cfg with routing := decodeRouting p } })) payload)

/-- READ_ROUTING (R139). -/
def execReadRouting (tag : Byte) (payload : List Byte) (s : State) : Host.Outcome State Fault Refusal :=
  s.request { tag := tag, type := 0x1B, payload := payload } (payloadFits payload) false
    (checked (exactly 0) anyMode (fun _ => report fun s => encodeRouting s.cfg.routing) payload)

/-- SET_NOTICES (R174). -/
def execSetNotices (tag : Byte) (payload : List Byte) (s : State) : Host.Outcome State Fault Refusal :=
  s.request { tag := tag, type := 0x1C, payload := payload } (payloadFits payload) false
    (checked (exactly 5) configOrRun
      (fun p => withChecks (noticesChecks p) (carryOut (State.setNotices (decodeMask p)))) payload)

end Sys2Proof.Machine
end

