-- ==== Sys2Proof/Machine/IdentityRequests.lean ====
section
/-! DEFINITION. Meanings of the identity and part requests (Table 70): UNKNOWN_REQUEST, IDENTIFY, QUERY_PART, SET_MODE
and RESET. -/

namespace Sys2Proof.Machine

open Sys2Proof

/-- UNKNOWN_REQUEST: BAD_TYPE before any other check (R166). -/
def execUnknownRequest (tag type : Byte) (payload : List Byte) (s : State) : Host.Outcome State Fault Refusal :=
  s.request { tag := tag, type := type, payload := payload } (payloadFits payload && !requestTypes.contains type) false
    (refuse .badType)

/-- The capacities of R169: sleds, probes, lanes, script bytes, levels, raise queue, receive queue. -/
def capacities : List Byte := put8 24 ++ put8 48 ++ put8 4 ++ put16 512 ++ put8 16 ++ put8 24 ++ put8 4

/-- IDENTIFY (R169). -/
def execIdentify (tag : Byte) (payload : List Byte) (s : State) : Host.Outcome State Fault Refusal :=
  s.request { tag := tag, type := 0x01, payload := payload } (payloadFits payload) false
    (checked (exactly 0) anyMode
      (fun _ => report fun _ => put8 Config.vendorCode ++ put16 Config.partCode ++ put8 Config.revision ++ capacities) payload)

/-- A zone input in QUERY_PART: its enable, its sampled level, whether it is accepted as asserted (R93). -/
def zoneInputBlock (c : Cfg) (r : Run) (z : ZoneNo) : List Byte :=
  putFlag (c.globals.zoneEnable.get z) ++ put8 (pinCode (r.zone.filters.get z).pin) ++ putFlag (r.zoneAsserted c z)

/-- The reply of QUERY_PART (R93, R160, Table 78). -/
def partReport (s : State) : List Byte :=
  let v := s.run.validation.codes
  put8 s.run.mode.code ++ put8 s.run.cause.code ++ put8 v.1 ++ put8 v.2.1 ++ put8 v.2.2 ++ put8 (pinCode s.link.rate)
    ++ put32 s.run.clock.stamp.toNat ++ put8 s.run.zone.state.code ++ putCount s.run.zone.release put16
    ++ zoneInputBlock s.cfg s.run 0 ++ zoneInputBlock s.cfg s.run 1

/-- QUERY_PART (R160). -/
def execQueryPart (tag : Byte) (payload : List Byte) (s : State) : Host.Outcome State Fault Refusal :=
  s.request { tag := tag, type := 0x02, payload := payload } (payloadFits payload) false
    (checked (exactly 0) anyMode (fun _ => report partReport) payload)

/-- SET_MODE RUN by the mode it is taken in (R152 to R154, R156). -/
def setModeRunBody : Body := fun s =>
  match s.run.mode with
  | .run => (s, .refuse .notAllowed)
  | .safe =>
    if s.run.severe.first.isSome then (s, .refuse .notAllowed)
    else ({ s with run := s.run.runFromSafe s.cfg }, .ok [])
  | .config =>
    match validationFault s.cfg with
    | some (k, n) =>
      ({ s with run := { s.run with validation := .failed k n } },
        { status := .invalidConfig, content := put8 k.code ++ put8 n })
    | none => ({ s with run := s.run.enterRun s.cfg }, .ok [])

/-- SET_MODE_RUN (R152, R154). -/
def execSetModeRun (tag : Byte) (s : State) : Host.Outcome State Fault Refusal :=
  s.request { tag := tag, type := 0x03, payload := [1] } true false
    (checked (exactly 1) anyMode (fun _ => setModeRunBody) [1])

/-- SET_MODE_CONFIG (R152, R157). -/
def execSetModeConfig (tag : Byte) (s : State) : Host.Outcome State Fault Refusal :=
  s.request { tag := tag, type := 0x03, payload := [0] } true false
    (checked (exactly 1) anyMode
      (fun _ => refuseIf (fun s => s.run.mode == .config) .notAllowed (carryOutRun Run.toConfig)) [0])

/-- SET_MODE_SAFE, and every SET_MODE frame that is neither RUN's nor CONFIG's: refused (R152; assumption 15). -/
def execSetModeSafe (tag : Byte) (payload : List Byte) (s : State) : Host.Outcome State Fault Refusal :=
  s.request { tag := tag, type := 0x03, payload := payload } (payloadFits payload && setModeOther payload) false
    (checked (exactly 1) anyMode (fun p => withChecks [atMost p 0 2] (refuse .notAllowed)) payload)

/-- RESET is accepted: from here on no request is taken and no notice is sent, until its reply has left (R158). -/
def acceptReset : Body := carryOut fun s => { s with link := { s.link with resetAccepted := true } }

/-- RESET (R158). -/
def execReset (tag : Byte) (payload : List Byte) (s : State) : Host.Outcome State Fault Refusal :=
  s.request { tag := tag, type := 0x04, payload := payload } (payloadFits payload) true
    (checked (exactly 0) anyMode (fun _ => acceptReset) payload)

end Sys2Proof.Machine
end

