-- ==== Sys2Proof/Machine/SledRequests.lean ====
section
/-! DEFINITION. Meanings of the sled and lane requests (Table 70): RELEASE_SLED, CLEAR_ZONE and RESET_LANE. -/

namespace Sys2Proof.Machine

open Sys2Proof

/-- Whether RELEASE_SLED is not allowed by the zone or the sled's state (R71). -/
def releaseBarred (i : Sled) (s : State) : Bool :=
  s.run.zone.state == .emergency
    || !((s.run.life i).state == .isolated || ((s.run.life i).state == .admitting && (s.run.life i).containPending))

/-- RELEASE_SLED (R71). -/
def execReleaseSled (tag : Byte) (payload : List Byte) (s : State) : Host.Outcome State Fault Refusal :=
  s.request { tag := tag, type := 0x28, payload := payload } (payloadFits payload) false
    (checked (exactly 1) runOnly
      (fun p => withChecks [atMost p 0 23]
        (withPresence (finAt 24 p 0)
          (refuseIf (releaseBarred (finAt 24 p 0)) .notAllowed
            (carryOutRun fun c r => r.release c (finAt 24 p 0))))) payload)

/-- Whether CLEAR_ZONE is not allowed (R90). -/
def clearZoneBarred (s : State) : Bool := s.run.zone.state != .emergency || s.run.anyZoneActive s.cfg

/-- CLEAR_ZONE (R90). -/
def execClearZone (tag : Byte) (payload : List Byte) (s : State) : Host.Outcome State Fault Refusal :=
  s.request { tag := tag, type := 0x29, payload := payload } (payloadFits payload) false
    (checked (exactly 0) anyMode
      (fun _ => refuseIf clearZoneBarred .notAllowed (carryOutRun Run.endEmergency)) payload)

/-- RESET_LANE (R111). -/
def execResetLane (tag : Byte) (payload : List Byte) (s : State) : Host.Outcome State Fault Refusal :=
  s.request { tag := tag, type := 0x2A, payload := payload } (payloadFits payload) false
    (checked (exactly 1) anyMode
      (fun p => withChecks [atMost p 0 3]
        (refuseIf (fun s => (s.run.lane (finAt 4 p 0)).state != .failed) .notAllowed
          (carryOutRun fun c r => r.beginAttempt c (finAt 4 p 0) 1))) payload)

end Sys2Proof.Machine
end

