-- ==== Sys2Proof/Machine/StatusRequests.lean ====
section
/-! DEFINITION. Meanings of the status requests (Tables 70 and 78). -/

namespace Sys2Proof.Machine

open Sys2Proof

/-! ## QUERY_SLED -/

/-- The awaiting set: empty 0, probe A 1, probe B 2, both 3 (Table 75). -/
def Life.awaitingCode (l : Life) : Nat := (if l.awaitA then 1 else 0) + (if l.awaitB then 2 else 0)

/-- The sled's place in the raise order, from 1; 0 for none (R59). -/
def Run.raisePlace (r : Run) (i : Sled) : Nat :=
  match r.raiseOrder.findIdx? (· == i) with
  | some k => k + 1
  | none => 0

/-- The combined vote, then the votes of probe A, probe B and the alert source (R93). -/
def Run.voteFields (c : Cfg) (r : Run) (i : Sled) : List (Option Heat) := (r.therm i).combined :: votesOf c r i

/-- A map byte: each present field adds its own power of two, the first 1 (R176). -/
def presenceMap : List Bool → Nat
  | [] => 0
  | b :: bs => (if b then 1 else 0) + 2 * presenceMap bs

/-- The vote map and the votes present (R176). -/
def Run.voteBlock (c : Cfg) (r : Run) (i : Sled) : List Byte :=
  let vs := r.voteFields c i
  put8 (presenceMap (vs.map Option.isSome)) ++ (vs.filterMap id).flatMap fun v => put8 v.code

/-- The lifecycle fields, offsets 1 to 8 (R76). -/
def lifeBlock (l : Life) : List Byte :=
  put8 l.state.code ++ putFlag l.present ++ put8 (pinCode l.prs) ++ putCount l.admission put16 ++ putFlag l.admitTimeout
    ++ putFlag l.containPending ++ put8 l.awaitingCode

/-- The throttle fields, offsets 9 to 12 (R18). -/
def channelBlock (c : Cfg) (r : Run) (i : Sled) : List Byte :=
  put8 (r.chan i).active.val ++ put8 (r.target c i).val ++ put8 (r.chan i).dwell ++ put8 (r.grantLevel c i).val

/-- The books, offsets 13 to 25 (R37, R59). -/
def booksBlock (r : Run) (i : Sled) : List Byte :=
  let b := r.books i
  put16 b.grant ++ put16 b.loan ++ put16 b.draining ++ put8 b.wanted.val ++ put8 b.cls.val ++ putFlag b.floorReserved
    ++ put8 b.boost.code ++ put8 b.boostFrames ++ put8 b.reclaim ++ put8 (r.raisePlace i)

/-- The thermal fields, offsets 26 to 34 (R93). -/
def thermalBlock (c : Cfg) (r : Run) (i : Sled) : List Byte :=
  let t := r.therm i
  put8 t.state.code ++ put8 (r.ceiling c i).val ++ put8 t.escalate ++ put8 t.relax ++ putCount t.hotPersist put32
    ++ putFlag t.hotRaised

/-- The reply of QUERY_SLED (R18, R37, R59, R76, R93, Table 78). -/
def sledReport (i : Sled) (s : State) : List Byte :=
  lifeBlock (s.run.life i) ++ channelBlock s.cfg s.run i ++ booksBlock s.run i ++ thermalBlock s.cfg s.run i
    ++ s.run.voteBlock s.cfg i

/-- QUERY_SLED (R76). -/
def execQuerySled (tag : Byte) (payload : List Byte) (s : State) : Host.Outcome State Fault Refusal :=
  s.request { tag := tag, type := 0x30, payload := payload } (payloadFits payload) false
    (checked (exactly 1) anyMode (fun p => withChecks [atMost p 0 23] (report (sledReport (finAt 24 p 0)))) payload)

/-! ## QUERY_POOL -/

/-- A queue entry: sled, class, wanted level plus 128 when held (Table 78). -/
def entryBlock (e : Entry) : List Byte :=
  put8 e.sled.val ++ put8 e.cls.code ++ put8 (e.wanted.val + (if e.held then 128 else 0))

/-- The reply of QUERY_POOL (R37, R59, Table 78). -/
def poolReport (s : State) : List Byte :=
  let r := s.run
  put16 r.pool.size ++ put16 r.pool.fallback ++ put32 r.pool.leasePeriod ++ put8 r.pool.leaseState.code
    ++ put32 r.pool.leaseRemaining ++ put16 r.sumGrants ++ put16 r.sumLoans ++ put16 r.sumDraining
    ++ put16 (r.floorsHeld s.cfg) ++ putSigned16 r.headroom ++ r.queue.flatMap entryBlock

/-- QUERY_POOL (R37). -/
def execQueryPool (tag : Byte) (payload : List Byte) (s : State) : Host.Outcome State Fault Refusal :=
  s.request { tag := tag, type := 0x31, payload := payload } (payloadFits payload) false
    (checked (exactly 0) anyMode (fun _ => report poolReport) payload)

/-! ## QUERY_PROBE -/

/-- The retry count of the transaction in hand; between two transactions the manual gives none, and the byte is free
(R129, R136; assumption 7). -/
def Poll.retryByte (free : Nat) (p : Poll) : Byte :=
  match p.phase with
  | .init | .read => BitVec.ofNat 8 p.retries
  | .settle | .wait => Config.idleRetryByte free

/-- The probe's poll, when it is the poll in progress on its lane. -/
def Run.pollOfProbe (r : Run) (p : Probe) : Option Poll :=
  match (r.lane (laneOfProbe p)).poll with
  | .poll x => if x.probe = p then some x else none
  | .absent | .aborting => none

/-- The groups of QUERY_PROBE that may be absent, in the order of the presence map (R136, R176). -/
def probeGroups (c : Cfg) (r : Run) (p : Probe) : List (Option (List Byte)) :=
  let x := r.probe p
  [x.lastReason.map fun k => put8 k.code,
   x.lastValue.map putSigned32,
   x.lastClass.map fun k => put8 k.code,
   x.lastTime.map fun t => put32 t.toNat,
   if (c.probe p).enable then some (put16 (segmentStart c p) ++ put8 (2 * (c.probe p).initCount)) else none,
   (r.pollOfProbe p).map fun k => put8 k.phase.code ++ [k.retryByte r.free]]

/-- The reply of QUERY_PROBE (R136, Table 78). -/
def probeReport (p : Probe) (s : State) : List Byte :=
  let x := s.run.probe p
  let gs := probeGroups s.cfg s.run p
  put8 x.health.code ++ put8 x.failures ++ putFlag x.needsInit ++ put8 x.run.code ++ putCount x.due put16
    ++ put16 x.overruns ++ put8 (presenceMap (gs.map Option.isSome)) ++ (gs.filterMap id).flatten

/-- The report, and the number of the free value it may have read (assumption 7). -/
def queryProbeBody (p : Probe) : Body := fun s => ({ s with run := s.run.spendFree }, .ok (probeReport p s))

/-- QUERY_PROBE (R136). -/
def execQueryProbe (tag : Byte) (payload : List Byte) (s : State) : Host.Outcome State Fault Refusal :=
  s.request { tag := tag, type := 0x32, payload := payload } (payloadFits payload) false
    (checked (exactly 1) anyMode (fun p => withChecks [atMost p 0 47] (queryProbeBody (finAt 48 p 0))) payload)

/-! ## QUERY_LANE -/

/-- The poll in progress: absent 0, its phase 1 to 4, ABORTING 5; and its probe, 255 without one (Tables 75 and 78). -/
def InProgress.codes : InProgress → Nat × Nat
  | .absent => (0, 255)
  | .poll p => (p.phase.code, p.probe.val)
  | .aborting => (5, 255)

/-- The reply of QUERY_LANE (R118, Table 78). -/
def laneReport (n : LaneNo) (s : State) : List Byte :=
  let x := s.run.lane n
  put8 x.state.code ++ put8 x.attempts ++ put8 (s.cfg.globals.laneSpeed.get n).code
    ++ put8 (s.cfg.globals.laneTimeoutMs.get n) ++ put8 x.poll.codes.1 ++ put8 x.poll.codes.2 ++ put16 x.timeouts
    ++ put16 x.recoveries ++ put8 (pinCode x.scl) ++ put8 (pinCode x.sda) ++ x.queue.flatMap fun p => put8 p.val

/-- QUERY_LANE (R118). -/
def execQueryLane (tag : Byte) (payload : List Byte) (s : State) : Host.Outcome State Fault Refusal :=
  s.request { tag := tag, type := 0x33, payload := payload } (payloadFits payload) false
    (checked (exactly 1) anyMode (fun p => withChecks [atMost p 0 3] (report (laneReport (finAt 4 p 0)))) payload)

/-! ## READ_ALERT -/

/-- The reply of READ_ALERT (R103, Table 78). -/
def alertReport (i : Sled) (s : State) : List Byte :=
  let x := s.cfg.sled i
  let a := s.run.alert i
  put8 x.alertRole.code ++ put8 x.alertPolarity.code ++ put8 (pinCode a.lastSample)
    ++ putFlag (x.alertPolarity.asserts a.accepted) ++ putFlag a.filtered ++ putFlag a.sustained ++ putFlag a.stuck
    ++ put32 a.width ++ putFlag a.seen
    ++ (if a.seen then put32 (a.lastTime.getD 0).toNat else [])
    ++ put32 a.lastWidth ++ put32 a.longest ++ put16 a.count ++ put32 a.total

/-- The checks of READ_ALERT: the sled, then the clear request (R103). -/
def alertChecks (p : List Byte) : List Check := [atMost p 0 23, atMost p 1 1]

/-- READ_ALERT, and every READ_ALERT frame that does not ask for a clear (R103; assumption 15). -/
def execReadAlert (tag : Byte) (payload : List Byte) (s : State) : Host.Outcome State Fault Refusal :=
  s.request { tag := tag, type := 0x34, payload := payload } (payloadFits payload && readAlertPlain payload) false
    (checked (exactly 2) anyMode (fun p => withChecks (alertChecks p) (report (alertReport (finAt 24 p 0)))) payload)

/-- The values are placed in the reply first, then cleared (R103). -/
def readAndClear (i : Sled) : Body := fun s =>
  ({ s with run := s.run.modAlert i Alert.clearMeasurements }, .ok (alertReport i s))

/-- READ_ALERT_AND_CLEAR (R103). -/
def execReadAlertAndClear (tag sled : Byte) (s : State) : Host.Outcome State Fault Refusal :=
  s.request { tag := tag, type := 0x34, payload := [sled, 1] } true false
    (checked (exactly 2) anyMode (fun p => withChecks (alertChecks p) (readAndClear (finAt 24 p 0))) [sled, 1])

/-! ## The fault records -/

/-- The reply of READ_FAULTS (R146, R176, Table 78). -/
def faultsReport (s : State) : List Byte := faultBlock s.run.severe ++ faultBlock s.run.advisory ++ putFlag s.alarm

/-- READ_FAULTS (R146). -/
def execReadFaults (tag : Byte) (payload : List Byte) (s : State) : Host.Outcome State Fault Refusal :=
  s.request { tag := tag, type := 0x35, payload := payload } (payloadFits payload) false
    (checked (exactly 0) anyMode (fun _ => report faultsReport) payload)

/-- CLEAR_FAULTS (R145). -/
def execClearFaults (tag : Byte) (payload : List Byte) (s : State) : Host.Outcome State Fault Refusal :=
  s.request { tag := tag, type := 0x36, payload := payload } (payloadFits payload) false
    (checked (exactly 0) anyMode (fun _ => carryOutRun fun _ r => r.clearFaults) payload)

end Sys2Proof.Machine
end

