-- ==== Sys2Proof/Machine/Dispatch.lean ====
section
/-! DEFINITION. The dispatch: one arm per command, each one call of its meaning. -/

namespace Sys2Proof.Machine

open Sys2Proof

def exec (i : Instr) (s : State) : Host.Outcome State Fault Refusal :=
  match i with
  | .powerOn => Sys2Proof.Machine.execPowerOn s
  | .rstNLow => Sys2Proof.Machine.execRstNLow s
  | .resetRelease rate => Sys2Proof.Machine.execResetRelease rate s
  | .frameReceived b => Sys2Proof.Machine.execFrameReceived b s
  | .frameLengthDiscard b => Sys2Proof.Machine.execFrameLengthDiscard b s
  | .linkGapExpiry => Sys2Proof.Machine.execLinkGapExpiry s
  | .frameSent => Sys2Proof.Machine.execFrameSent s
  | .unknownRequest tag type payload => Sys2Proof.Machine.execUnknownRequest tag type payload s
  | .identify tag payload => Sys2Proof.Machine.execIdentify tag payload s
  | .queryPart tag payload => Sys2Proof.Machine.execQueryPart tag payload s
  | .setModeRun tag => Sys2Proof.Machine.execSetModeRun tag s
  | .setModeConfig tag => Sys2Proof.Machine.execSetModeConfig tag s
  | .setModeSafe tag payload => Sys2Proof.Machine.execSetModeSafe tag payload s
  | .reset tag payload => Sys2Proof.Machine.execReset tag payload s
  | .writeGlobals tag payload => Sys2Proof.Machine.execWriteGlobals tag payload s
  | .readGlobals tag payload => Sys2Proof.Machine.execReadGlobals tag payload s
  | .writeLevels tag payload => Sys2Proof.Machine.execWriteLevels tag payload s
  | .readLevels tag payload => Sys2Proof.Machine.execReadLevels tag payload s
  | .writeSled tag payload => Sys2Proof.Machine.execWriteSled tag payload s
  | .readSled tag payload => Sys2Proof.Machine.execReadSled tag payload s
  | .writeProbe tag payload => Sys2Proof.Machine.execWriteProbe tag payload s
  | .readProbe tag payload => Sys2Proof.Machine.execReadProbe tag payload s
  | .writeScript tag payload => Sys2Proof.Machine.execWriteScript tag payload s
  | .readScript tag payload => Sys2Proof.Machine.execReadScript tag payload s
  | .writeRouting tag payload => Sys2Proof.Machine.execWriteRouting tag payload s
  | .readRouting tag payload => Sys2Proof.Machine.execReadRouting tag payload s
  | .setNotices tag payload => Sys2Proof.Machine.execSetNotices tag payload s
  | .setPool tag payload => Sys2Proof.Machine.execSetPool tag payload s
  | .renewLease tag payload => Sys2Proof.Machine.execRenewLease tag payload s
  | .setWant tag payload => Sys2Proof.Machine.execSetWant tag payload s
  | .boost tag payload => Sys2Proof.Machine.execBoost tag payload s
  | .releaseSled tag payload => Sys2Proof.Machine.execReleaseSled tag payload s
  | .clearZone tag payload => Sys2Proof.Machine.execClearZone tag payload s
  | .resetLane tag payload => Sys2Proof.Machine.execResetLane tag payload s
  | .querySled tag payload => Sys2Proof.Machine.execQuerySled tag payload s
  | .queryPool tag payload => Sys2Proof.Machine.execQueryPool tag payload s
  | .queryProbe tag payload => Sys2Proof.Machine.execQueryProbe tag payload s
  | .queryLane tag payload => Sys2Proof.Machine.execQueryLane tag payload s
  | .readAlert tag payload => Sys2Proof.Machine.execReadAlert tag payload s
  | .readAlertAndClear tag sled => Sys2Proof.Machine.execReadAlertAndClear tag sled s
  | .readFaults tag payload => Sys2Proof.Machine.execReadFaults tag payload s
  | .clearFaults tag payload => Sys2Proof.Machine.execClearFaults tag payload s
  | .boundaryEvent sled => Sys2Proof.Machine.execBoundaryEvent sled s
  | .carrierSectionEnd sled => Sys2Proof.Machine.execCarrierSectionEnd sled s
  | .leaseExpiry => Sys2Proof.Machine.execLeaseExpiry s
  | .presenceLineChange sled level => Sys2Proof.Machine.execPresenceLineChange sled level s
  | .presenceSettleExpiry sled => Sys2Proof.Machine.execPresenceSettleExpiry sled s
  | .admitCountExpiry sled => Sys2Proof.Machine.execAdmitCountExpiry sled s
  | .zoneInputChange z level => Sys2Proof.Machine.execZoneInputChange z level s
  | .zoneSettleExpiry z => Sys2Proof.Machine.execZoneSettleExpiry z s
  | .zoneReleaseExpiry => Sys2Proof.Machine.execZoneReleaseExpiry s
  | .alertLevelAccepted sled => Sys2Proof.Machine.execAlertLevelAccepted sled s
  | .sustainReached sled => Sys2Proof.Machine.execSustainReached sled s
  | .stuckReached sled => Sys2Proof.Machine.execStuckReached sled s
  | .hotPersistExpiry sled => Sys2Proof.Machine.execHotPersistExpiry sled s
  | .dueEvent p => Sys2Proof.Machine.execDueEvent p s
  | .initTransactionEnd n => Sys2Proof.Machine.execInitTransactionEnd n s
  | .notAcknowledge n => Sys2Proof.Machine.execNotAcknowledge n s
  | .settleExpiry n => Sys2Proof.Machine.execSettleExpiry n s
  | .waitExpiry n => Sys2Proof.Machine.execWaitExpiry n s
  | .readTransactionEnd n b0 b1 => Sys2Proof.Machine.execReadTransactionEnd n b0 b1 s
  | .transactionTimeout n => Sys2Proof.Machine.execTransactionTimeout n s
  | .abortStopEnd n => Sys2Proof.Machine.execAbortStopEnd n s
  | .recoveryAttemptEnd n sda => Sys2Proof.Machine.execRecoveryAttemptEnd n sda s
  | .recoveryAttemptTimeout n => Sys2Proof.Machine.execRecoveryAttemptTimeout n s
  | .linkByteReceived b => Sys2Proof.Machine.execLinkByteReceived b s
  | .alertSampleChange sled level => Sys2Proof.Machine.execAlertSampleChange sled level s

end Sys2Proof.Machine
end

