-- ==== Sys2Proof/Machine/Step.lean ====
section
/-! DEFINITION. One step of the part: the command at the front of the queue is taken; with none waiting, the part takes
its own turn (assumption 2). -/

namespace Sys2Proof.Machine

open Sys2Proof

/-- The part's own turn, run. -/
def runTurn : Turn → Host.Outcome State Fault Refusal
  | .take c s => exec c s
  | .pass s => .next s

/-- One step. -/
def step (s : State) : Host.Outcome State Fault Refusal :=
  match s.pending with
  | c :: rest => exec c { s with pending := rest }
  | [] => runTurn s.ownTurn

/-- The state with the command a table word spells at the front of its queue; unchanged where the word spells none. -/
def State.withFetchWord (s : State) (nbits w : Nat) : State :=
  match Sys2Proof.decodeTableWord nbits w with
  | some c => { s with pending := c :: s.pending }
  | none => s

end Sys2Proof.Machine
end

