-- ==== Sys2Proof/Safety.lean ====
section
/-! DEFINITION. What counts as a sound state of the part, and the words the statements are written in: a link whose
queues and parser are sound, a legal configuration, timebases in range, a part at rest between events, a request that
can be taken, and a state after a reply. -/

namespace Sys2Proof.Machine

open Sys2Proof

/-! ## A sound link (R162 to R165, R171) -/

/-- The parser keeps at most LEN bytes, with a LEN in range (R162). -/
abbrev Parser.ok : Parser → Prop
  | .hunt => True
  | .length => True
  | .body len kept => lenOk len = true ∧ kept.length < len.toNat
  | .crcHigh len kept => lenOk len = true ∧ kept.length = len.toNat
  | .crcLow len kept _ => lenOk len = true ∧ kept.length = len.toNat

/-- The queues hold at most four frames each, every frame received fits, and the gap count runs exactly inside a frame
(R162 to R164, R171). -/
abbrev Link.ok (l : Link) : Prop :=
  l.rx.length ≤ 4 ∧ l.replies.length ≤ 4 ∧ (∀ f ∈ l.rx, f.payload.length ≤ 124) ∧ l.parser.ok
    ∧ (l.gap.isSome = true ↔ l.parser ≠ .hunt)

/-! ## A legal configuration -/

/-- The ranges of the global record (R1, R3, R5, R50, R60, R78, R87, R94, R105). -/
abbrev Globals.legal (g : Globals) : Prop :=
  g.prescale ∈ prescales ∧ (256 ≤ g.frameTicks ∧ g.frameTicks ≤ 65535) ∧ (1 ≤ g.rampFrames ∧ g.rampFrames ≤ 255)
    ∧ (1 ≤ g.reclaimFrames ∧ g.reclaimFrames ≤ 255) ∧ (1 ≤ g.presenceSettleMs ∧ g.presenceSettleMs ≤ 65535)
    ∧ (100 ≤ g.admitLimitMs ∧ g.admitLimitMs ≤ 65535) ∧ (1 ≤ g.escalateCount ∧ g.escalateCount ≤ 15)
    ∧ (1 ≤ g.relaxCount ∧ g.relaxCount ≤ 255) ∧ (1 ≤ g.hotLimitS ∧ g.hotLimitS ≤ 3600)
    ∧ (1 ≤ g.zoneSettleMs ∧ g.zoneSettleMs ≤ 1000) ∧ g.zoneReleaseMs ≤ 60000
    ∧ (1 ≤ g.alertFilter ∧ g.alertFilter ≤ 15) ∧ (1 ≤ g.sustainMs ∧ g.sustainMs ≤ 65535)
    ∧ (100 ≤ g.stuckMs ∧ g.stuckMs ≤ 600000) ∧ ∀ n, 1 ≤ g.laneTimeoutMs.get n ∧ g.laneTimeoutMs.get n ≤ 255

/-- The ranges of a level table entry (R6). -/
abbrev LevelEntry.legal (e : LevelEntry) : Prop := (1 ≤ e.admitTicks ∧ e.admitTicks ≤ 255) ∧ e.holdTicks ≤ 255

/-- The ranges of a sled record, with the frame length held (R4, R21). -/
abbrev SledCfg.legal (frameTicks : Nat) (x : SledCfg) : Prop := x.offset < frameTicks ∧ ∀ k, x.cost.get k ≤ 1023

/-- The range of a threshold (R119). -/
abbrev thresholdLegal (v : Int) : Prop := -32768 ≤ v ∧ v ≤ 65535

/-- The ranges of a probe record (R119, Table 54). -/
abbrev ProbeCfg.legal (x : ProbeCfg) : Prop :=
  x.address ≤ 127 ∧ x.initCount ≤ 64 ∧ x.readRegister ≤ 255 ∧ thresholdLegal x.underLimit ∧ thresholdLegal x.warmOver
    ∧ thresholdLegal x.hotOver ∧ thresholdLegal x.upperLimit ∧ (10 ≤ x.pollMs ∧ x.pollMs ≤ 65535) ∧ x.settleMs ≤ 255
    ∧ (1 ≤ x.waitMs ∧ x.waitMs ≤ 255) ∧ x.nakRetries ≤ 7 ∧ (1 ≤ x.lostLimit ∧ x.lostLimit ≤ 15) ∧ x.selfClass ≠ .cool

/-- Every record in range, and no CONTAIN for ZONE_ALARM, LEASE_LAPSED and LINK_FRAME (R139). -/
abbrev Cfg.legal (c : Cfg) : Prop :=
  c.globals.legal ∧ (∀ k, (c.levels.get k).legal) ∧ (∀ i, (c.sleds.get i).legal c.globals.frameTicks)
    ∧ (∀ p, (c.probes.get p).legal) ∧ c.routing.get 6 ≠ .contain ∧ c.routing.get 7 ≠ .contain ∧ c.routing.get 9 ≠ .contain

/-- The timebases within their ranges (R1 to R3). -/
abbrev Clock.inRange (g : Globals) (k : Clock) : Prop :=
  k.prescaleCount < g.prescale ∧ k.msCount < 16000 ∧ k.frame < g.frameTicks

/-! ## Between events -/

/-- At rest: no trigger of the arbiter is left over, and an IDLE transmitter has nothing to take (R43, R171). -/
abbrev State.atRest (s : State) : Prop :=
  s.run.arbiterDue = false
    ∧ (s.link.tx.isSome = true
        ∨ s.link.replies = [] ∧ (s.link.resetAccepted = true ∨ s.run.notices.first = none))

/-- Every IDLE lane has served its queue: none waits (R115). -/
abbrev Run.lanesServed (r : Run) : Prop := ∀ n, (r.lane n).state = .idle → (r.lane n).queue = []

/-- The bytes of a run of LINK_BYTE_RECEIVED, one after the other. -/
def feed : List Byte → State → Host.Outcome State Fault Refusal
  | [], s => .next s
  | b :: bs, s =>
    match exec (.linkByteReceived b) s with
    | .next t => feed bs t
    | .fault r => .fault r
    | .refused r => .refused r

/-- The state after an event whose effect is on the running part only: a service of the arbiter that the event triggered
has been made, and an IDLE transmitter has taken the next frame (R43, R171). Nothing else has changed. -/
def State.after (s : State) (r : Run) : State := { s with run := r }.finish

/-! ## An admission (R64, R97) -/

/-- Steps 1 to 4 of R64: the sled is ADMITTING with its marks, its count and its awaiting set fresh and no units, its FLOOR
entry joins behind the FLOOR entries that wait (R38), and the arbiter serves (R44). -/
def Run.takeSeat (c : Cfg) (i : Sled) (r : Run) : Run :=
  Run.serve c
    { ((r.modLife i fun l =>
        { l with
          state := .admitting
          admission := some c.globals.admitLimitMs
          admitTimeout := false
          awaitA := (c.probe (probeA i)).enable
          awaitB := (c.probe (probeB i)).enable
          containPending := false }).modBooks i fun b => { b with grant := 0, floorReserved := false }) with
      queue :=
        (r.queue.filter fun e => e.cls == .floor)
          ++ { sled := i, cls := .floor, wanted := (r.books i).wanted, held := false } :: r.queue.filter fun e => e.cls != .floor
      arbiterDue := true }

/-- The first due event of a probe that is IDLE, step 5 of R64: on a FAILED lane a failure with reason LANE_FAILED that is
handed on at once (R113, R135), and on any other a place at the back of the lane's queue, which an IDLE lane serves (R115). -/
def Run.takeFirstDue (c : Cfg) (p : Probe) (r : Run) : Run :=
  let n := laneOfProbe p
  let r := r.modProbe p fun x => { x with needsInit := true, overruns := 0, due := some (c.probe p).pollMs }
  if (r.lane n).state = .failed then r.handOutcome c p (.failure .laneFailed none)
  else ((r.modProbe p fun x => { x with run := .queued }).modLane n fun y => { y with queue := y.queue ++ [p] }).serveLane c n

/-- The edge of a sled's line at its admission (R97): a line held asserted gives an asserting edge, counted and stamped (R99),
on which a HEAT line has its sled evaluated and a READY line ends the WAIT of its sled's poll (R98, R102). A line that is not
asserted gives none; that the record of a sled out of service shows an assertion arises in no run, and is ended here. -/
def Run.takeEdge (c : Cfg) (i : Sled) (r : Run) : Run :=
  let n := laneOfSled i
  let a := r.alert i
  let asserted := a.accepted ≠ (c.sled i).alertPolarity.deasserted
  let begun : Alert :=
    { a with
      filtered := true
      count := if a.count < 65535 then a.count + 1 else a.count
      lastTime := some r.clock.stamp
      seen := true
      width := 0 }
  let ended : Alert :=
    { a with
      filtered := false
      lastWidth := a.width
      longest := max a.longest a.width
      width := 0
      sustained := false
      stuck := false
      tickOwed := false }
  if asserted ∧ a.filtered = false then
    let r := r.modAlert i fun _ => begun
    match (c.sled i).alertRole with
    | .heat => r.evaluate c i
    | .ready =>
      match (r.lane n).poll with
      | .poll q =>
        if sledOfProbe q.probe = i ∧ q.phase = .wait then
          if (c.probe q.probe).mode = .self then r.endPoll c n q.probe (.success (c.probe q.probe).selfClass none)
          else r.beginRead c n q.probe
        else r
      | .absent | .aborting => r
    | .none => r
  else if ¬asserted ∧ a.filtered = true then
    let r := r.modAlert i fun _ => ended
    if (c.sled i).alertRole = .heat then r.evaluate c i else r
  else r

/-- An admission whole (R64), its probes' first due events in the order given; the edge comes after them and before the SLED
notice (assumption 12). -/
def Run.admitted (c : Cfg) (i : Sled) (order : List Probe) (r : Run) : Run :=
  let due := order.filter fun p => (c.probe p).enable
  ((due.foldl (fun r p => r.takeFirstDue c p) (r.takeSeat c i).spendFree).takeEdge c i).post c (.sled i)

/-! ## Requests -/

/-- A request that can be taken at once: its frame is the only one to wait or the front one, the reply queue has a free
place, no RESET has been accepted (R165). -/
abbrev Ready (f : Frame) (s : State) : Prop :=
  s.inReset = false ∧ s.run.arbiterDue = false ∧ (s.link.rx = [] ∨ s.link.rx.head? = some f)
    ∧ s.link.replies.length < 4 ∧ s.link.resetAccepted = false

/-- The state after a request has been executed: its frame has left the receive queue, the configuration and the running
part are as it left them, a service of the arbiter that it triggered has been made, its reply stands at the back of the
reply queue, and an IDLE transmitter has taken the front reply (R43, R165, R167, R171). Nothing else has changed. -/
def State.replied (s : State) (f : Frame) (content : List Byte) (c : Cfg) (r : Run) : State :=
  State.kick
    { s with
      cfg := c
      run := r.serveIfDue c
      link := { s.link with
        rx := s.link.rx.tail
        replies := s.link.replies ++ [{ frame := frame f.tag (f.type + 0x80) content, isReset := false }] } }

/-- The state after the answer to a request that changes nothing. -/
def State.answered (s : State) (f : Frame) (content : List Byte) : State := s.replied f content s.cfg s.run

/-- The modes in which a request is accepted (Table 70). -/
def acceptedIn : Instr → Mode → Bool
  | .writeGlobals _ _, m | .writeLevels _ _, m | .writeSled _ _, m | .writeProbe _ _, m | .writeScript _ _, m => m == .config
  | .writeRouting _ _, m | .setNotices _ _, m => m == .config || m == .run
  | .renewLease _ _, m | .boost _ _, m | .releaseSled _ _, m => m == .run
  | .setWant _ _, m => m == .run || m == .safe
  | _, _ => true

/-- Whether a request's payload length is one its layout allows (Table 74). -/
def lengthAllowed : Instr → Bool
  | .identify _ p | .queryPart _ p | .reset _ p | .readGlobals _ p | .readLevels _ p | .readRouting _ p | .renewLease _ p
  | .clearZone _ p | .queryPool _ p | .readFaults _ p | .clearFaults _ p => p.length == 0
  | .setModeSafe _ p | .readSled _ p | .readProbe _ p | .releaseSled _ p | .resetLane _ p | .querySled _ p
  | .queryProbe _ p | .queryLane _ p => p.length == 1
  | .writeGlobals _ p | .writeSled _ p => p.length == 41
  | .writeLevels _ p => p.length ∈ [3, 5, 7, 9, 11, 13, 15, 17, 19, 21, 23, 25, 27, 29, 31, 33]
  | .writeProbe _ p => p.length == 33
  | .writeScript _ p => decide (3 ≤ p.length ∧ p.length ≤ 50)
  | .readScript _ p | .setWant _ p => p.length == 3
  | .writeRouting _ p => p.length == 10
  | .setNotices _ p => p.length == 5
  | .setPool _ p => p.length == 8
  | .boost _ p | .readAlert _ p => p.length == 2
  | _ => true

/-- The field checks of a request, each at the payload offset of its field, as its rule gives them. -/
def fieldChecks (c : Cfg) : Instr → List Check
  | .setModeSafe _ p => [atMost p 0 2]
  | .writeGlobals _ p => globalsChecks c p
  | .writeLevels _ p => levelsChecks p
  | .writeSled _ p => sledChecks c p
  | .writeProbe _ p => probeChecks p
  | .writeScript _ p => scriptWriteChecks p
  | .readScript _ p => scriptReadChecks p
  | .writeRouting _ p => routingChecks p
  | .setNotices _ p => noticesChecks p
  | .setPool _ p => poolChecks p
  | .setWant _ p => [atMost p 0 23, atMost p 1 15, atMost p 2 3]
  | .boost _ p => [atMost p 0 23, byteIn p 1 1 255]
  | .readSled _ p | .releaseSled _ p | .querySled _ p => [atMost p 0 23]
  | .readProbe _ p | .queryProbe _ p => [atMost p 0 47]
  | .resetLane _ p | .queryLane _ p => [atMost p 0 3]
  | .readAlert _ p => alertChecks p
  | .readAlertAndClear _ i => alertChecks [i, 1]
  | _ => []

/-! ## The raise queue (R38, R42) -/

/-- The raise queue is in order: FLOOR entries first, then by class; no sled twice; a FLOOR entry is an ADMITTING sled's
whose floor is not reserved, and is not held, a class entry a TRACKING sled's; and in CONFIG it is empty and no sled is in service. -/
abbrev Run.queueSound (r : Run) : Prop :=
  r.queue.Pairwise (fun a b => a.cls.rank ≤ b.cls.rank ∧ a.sled ≠ b.sled)
    ∧ (∀ e ∈ r.queue, e.cls = .floor →
        (r.life e.sled).state = .admitting ∧ (r.books e.sled).floorReserved = false ∧ e.held = false)
    ∧ (∀ e ∈ r.queue, e.cls ≠ .floor → (r.life e.sled).state = .tracking)
    ∧ (r.mode = .config → r.queue = [] ∧ ∀ i, (r.life i).state.inService = false)

/-- From one state to the next an entry stops being held: its sled was queued with held entries only, and has one that is not
held (R42). -/
abbrev Run.unholds (before after : Run) : Prop :=
  ∃ e ∈ after.queue, e.held = false ∧ before.queued e.sled = true ∧ ∀ x ∈ before.queue, x.sled = e.sled → x.held = true

/-! ## The books (R23 to R25, R35, R46, R52) -/

/-- The books are sound. Outside CONFIG the costs of every enabled sled fall from L0 to L15, and a sled that is not
enabled is DISABLED. A sled out of service holds nothing; an ADMITTING sled holds its floor when it is reserved and nothing
before; a TRACKING or ISOLATED sled holds at least its floor; what is above a floor stands in the raise order; a loan
belongs to a RUNNING boost of a TRACKING sled in the boost list; and the grants and loans fit the pool. -/
abbrev Run.booksSound (c : Cfg) (r : Run) : Prop :=
  (r.mode ≠ .config → costsFault c = none)
    ∧ (∀ i, (c.sled i).enable = false → (r.life i).state = .disabled)
    ∧ (∀ i, (r.life i).state.inService = false →
        (r.books i).grant = 0 ∧ (r.books i).loan = 0 ∧ (r.books i).draining = 0)
    ∧ (∀ i, (r.life i).state = .admitting → (r.books i).grant = if (r.books i).floorReserved then floorCost c i else 0)
    ∧ (∀ i, (r.life i).state = .tracking ∨ (r.life i).state = .isolated → floorCost c i ≤ (r.books i).grant)
    ∧ (∀ i, floorCost c i < (r.books i).grant → i ∈ r.raiseOrder)
    ∧ (∀ i, 0 < (r.books i).loan → (r.books i).boost = .running)
    ∧ (∀ i, (r.books i).boost = .running → i ∈ r.boostList ∧ (r.life i).state = .tracking)
    ∧ r.sumGrants + r.sumLoans ≤ r.pool.size

end Sys2Proof.Machine
end

