-- ==== Sys2Proof/Certificates/Slice0/Obligations.lean ====
section
/-! DEFINITION. The statements about the model. A request statement is about a request that can be taken at once (`Ready`)
and says the state after its reply (`State.replied`); an event statement is about an event whose condition holds. -/

open Sys2Proof Sys2Proof.Machine

/-! ## Steps and time -/

/-- A step with a command waiting runs the command at the front on the rest of the queue. -/
def Obligations.StepTakesTheFrontCommand : Prop :=
  ∀ (c : Instr) (rest : List Instr) (s : State), s.pending = c :: rest → step s = exec c { s with pending := rest }

/-- The part's own turn, with no command waiting (assumptions 2 and 4: the model's choice). Held in reset it idles; else it
takes a request that can be taken, or an event that is due, in an order that is free where both are there; with neither, one
REFCLK period passes. An event that is not due any more is dropped; of an expiry of the lease the ms tick is left, which a lease
that a request has started or renewed then counts (assumption 24). -/
def Obligations.PartTakesItsOwnTurn : Prop :=
  ∀ s : State, s.pending = [] →
    let p := s.run.pool
    let dropped (c : Instr) (t : State) : State :=
      if c = .leaseExpiry ∧ p.leaseState = .running ∧ s.run.mode ≠ .config ∧ 1 < p.leaseRemaining then
        { t with run := { t.run with pool := { p with leaseRemaining := p.leaseRemaining - 1 } } }
      else t
    (s.inReset = true → step s = .next s)
    ∧ (s.inReset = false → s.link.canTake = false → s.due = [] → step s = .next s.refclk)
    ∧ (∀ c rest, s.inReset = false → s.link.canTake = false → s.due = c :: rest → isDue s c = true →
        step s = exec c { s with due := rest })
    ∧ (∀ c rest, s.inReset = false → s.link.canTake = false → s.due = c :: rest → isDue s c = false →
        step s = .next (dropped c { s with due := rest }))
    ∧ (∀ f rest, s.inReset = false → s.link.canTake = true → s.link.rx = f :: rest → s.due = [] →
        step s = exec (requestOf f) s)
    ∧ (∀ f c rest, s.inReset = false → s.link.canTake = true → s.link.rx.head? = some f → s.due = c :: rest →
        let t := { s with run := s.run.spendFree }
        step s = exec (requestOf f) t
          ∨ isDue s c = true ∧ step s = exec c { t with due := rest }
          ∨ isDue s c = false ∧ step s = .next (dropped c { t with due := rest }))

/-- One REFCLK period: the prescaler, the ms divider and the frame counter advance and wrap (R1 to R3). A T-tick lowers the
section ticks of a running carrier (R9) and raises the run count of an alert filter whose sample is its last (R96). An ms tick
raises the stamp and lowers every count of R2 that runs: the lease in RUN and SAFE (R29), the presence and zone settle counts,
the zone release count, the admission and hot-persist counts (R66, R85), the probes' due timers (R112), the timers of SETTLE and
WAIT, the transaction and attempt counts, and the link's gap count. An event is made due exactly at its tick, where its count has
run out: a boundary where the frame counter takes the sled's offset (R4), a sample where the pin differs from the last one, an
acceptance where the run count has come to `alert_filter` (R96), the lease's expiry in place of the count's last tick (R29), and
every other expiry where its count is 0. Nothing that an event must do is done. That due events wait to be taken, and that a tick
that brings a mark or ends the lease is its event's, are the model's choices, assumptions 2 and 24. -/
def Obligations.RefclkAdvancesTheTimebases : Prop :=
  ∀ s : State,
    let t := s.refclk
    let r₀ := s.run
    let r := t.run
    let k := r₀.clock
    let g := s.cfg.globals
    let tTicks := g.prescale ≤ k.prescaleCount + 1
    let msTicks := 16000 ≤ k.msCount + 1
    let works := r₀.mode ≠ .config
    let leaseRuns := r₀.pool.leaseState = .running ∧ works
    let fell (n : Count) : Count := if msTicks then n.map (· - 1) else n
    t = { s with link := { s.link with gap := fell s.link.gap }, run := r, due := t.due }
    ∧ r =
        { r₀ with
          clock :=
            { prescaleCount := if tTicks then 0 else k.prescaleCount + 1
              msCount := if msTicks then 0 else k.msCount + 1
              frame := if tTicks then (if k.frame + 1 < g.frameTicks then k.frame + 1 else 0) else k.frame
              stamp := if msTicks then k.stamp + 1 else k.stamp }
          pool :=
            { r₀.pool with
              leaseRemaining :=
                if msTicks ∧ leaseRuns ∧ 1 < r₀.pool.leaseRemaining then r₀.pool.leaseRemaining - 1
                else r₀.pool.leaseRemaining }
          zone :=
            { r₀.zone with
              release := if r₀.zone.state = .releasing then fell r₀.zone.release else r₀.zone.release
              filters := r.zone.filters }
          sleds := r.sleds, lanes := r.lanes, probes := r.probes, free := r.free }
    ∧ (∀ z, r.zone.filters.get z = { r₀.zone.filters.get z with settle := fell (r₀.zone.filters.get z).settle })
    ∧ (∀ i,
        let x := r₀.sleds.get i
        let a := r.alert i
        r.sleds.get i =
            { x with
              chan := { x.chan with ticks := if tTicks ∧ x.chan.carrier ≠ .idle then x.chan.ticks - 1 else x.chan.ticks }
              life :=
                { x.life with
                  settle := fell x.life.settle
                  admission := if x.life.state = .admitting ∧ works then fell x.life.admission else x.life.admission }
              therm :=
                { x.therm with
                  hotPersist := if x.therm.state = .hot ∧ works then fell x.therm.hotPersist else x.therm.hotPersist }
              alert :=
                { x.alert with
                  run := if tTicks ∧ x.alert.pin = x.alert.lastSample ∧ x.alert.run < 15 then x.alert.run + 1 else x.alert.run
                  width := a.width, total := a.total, tickOwed := a.tickOwed } }
          ∧ (¬msTicks → a.width = x.alert.width ∧ a.total = x.alert.total ∧ a.tickOwed = x.alert.tickOwed))
    ∧ (∀ n,
        let y := r₀.lane n
        r.lane n =
          { y with
            transaction := fell y.transaction
            attempt := fell y.attempt
            poll := match y.poll with
              | .poll q => .poll { q with timer := fell q.timer }
              | .absent => .absent
              | .aborting => .aborting })
    ∧ (∀ p, r.probe p = { r₀.probe p with due := if works then fell (r₀.probe p).due else (r₀.probe p).due })
    ∧ ∀ e, e ∈ t.due ↔
        match e with
        | .boundaryEvent i => tTicks ∧ (r.life i).state ≠ .disabled ∧ r.clock.frame = (s.cfg.sled i).offset
        | .carrierSectionEnd i => tTicks ∧ (r.chan i).carrier ≠ .idle ∧ (r.chan i).ticks = 0
        | .alertSampleChange i level => tTicks ∧ (r.alert i).pin = level ∧ (r.alert i).lastSample ≠ level
        | .alertLevelAccepted i =>
          tTicks ∧ (r.alert i).pin = (r.alert i).lastSample ∧ (r.alert i).lastSample ≠ (r.alert i).accepted
            ∧ g.alertFilter ≤ (r.alert i).run
        | .leaseExpiry => msTicks ∧ leaseRuns ∧ r₀.pool.leaseRemaining ≤ 1
        | .presenceSettleExpiry i => msTicks ∧ (r.life i).settle = some 0
        | .admitCountExpiry i => msTicks ∧ (r.life i).state = .admitting ∧ works ∧ (r.life i).admission = some 0
        | .zoneSettleExpiry z => msTicks ∧ (r.zone.filters.get z).settle = some 0
        | .zoneReleaseExpiry => msTicks ∧ r.zone.state = .releasing ∧ r.zone.release = some 0
        | .sustainReached i =>
          msTicks ∧ (r.alert i).filtered = true ∧ (r.alert i).sustained = false ∧ (r.alert i).tickOwed = true
            ∧ g.sustainMs ≤ (r.alert i).width + 1
        | .stuckReached i =>
          msTicks ∧ (r.alert i).filtered = true ∧ (r.alert i).stuck = false ∧ (r.alert i).tickOwed = true
            ∧ g.stuckMs ≤ (r.alert i).width + 1
        | .hotPersistExpiry i => msTicks ∧ (r.therm i).state = .hot ∧ works ∧ (r.therm i).hotPersist = some 0
        | .dueEvent p => msTicks ∧ works ∧ (r.probe p).due = some 0
        | .settleExpiry n => msTicks ∧ ∃ q, (r.lane n).poll = .poll q ∧ q.phase = .settle ∧ q.timer = some 0
        | .waitExpiry n => msTicks ∧ ∃ q, (r.lane n).poll = .poll q ∧ q.phase = .wait ∧ q.timer = some 0
        | .transactionTimeout n => msTicks ∧ (r.lane n).transaction = some 0 ∧ (r.lane n).poll ≠ .absent
        | .recoveryAttemptTimeout n => msTicks ∧ (r.lane n).state = .recover ∧ (r.lane n).attempt = some 0
        | .linkGapExpiry => msTicks ∧ t.link.gap = some 0
        | _ => False

/-! ## Invariants -/

/-- No well-formed command stops the part, in any state; a command that no frame carries stops (assumption 16). -/
def Obligations.CommandsStopOnlyWhenIllFormed : Prop :=
  ∀ (c : Instr) (s : State),
    (c.wf = true → ∃ t, exec c s = .next t) ∧ (c.wf = false → exec c s = .fault .illFormed)

/-- Every step goes on, and the link stays sound: at most four frames in each queue, every frame short enough, the parser within
LEN, the gap count running exactly inside a frame. -/
def Obligations.LinkStaysSound : Prop :=
  ∀ s : State, s.link.ok → (∀ c ∈ s.pending, c.wf = true) →
    ∃ t, step s = .next t ∧ t.link.ok ∧ ∀ c ∈ t.pending, c.wf = true

/-- Every step keeps every configuration record in its range and the timebases within theirs. -/
def Obligations.ConfigurationStaysLegal : Prop :=
  ∀ s t : State, s.cfg.legal → s.run.clock.inRange s.cfg.globals → step s = .next t →
    t.cfg.legal ∧ t.run.clock.inRange t.cfg.globals

/-- Every step keeps the raise queue in order: FLOOR entries first, then by class, no sled twice, FLOOR entries, never held, for
ADMITTING sleds without their floor and class entries for TRACKING ones; empty in CONFIG. -/
def Obligations.RaiseQueueStaysInOrder : Prop :=
  ∀ s t : State, s.run.queueSound → step s = .next t → t.run.queueSound

/-- Every step keeps the books sound (`Run.booksSound`): no grant, loan or draining units out of service, every TRACKING or
ISOLATED sled at its floor or above, loans only under RUNNING boosts, and the grants and loans within the pool size. -/
def Obligations.BooksStaySound : Prop :=
  ∀ s t : State, s.run.queueSound → s.run.booksSound s.cfg → step s = .next t → t.run.booksSound t.cfg

/-- Every step ends with no service of the arbiter left over and no frame that an IDLE transmitter should take, and with no
probe that waits for an IDLE lane (R43, R115, R171). -/
def Obligations.EveryStepEndsAtRest : Prop :=
  ∀ s t : State, step s = .next t → (s.atRest → t.atRest) ∧ (s.run.lanesServed → t.run.lanesServed)

/-- The state after reset meets the invariants. -/
def Obligations.ResetMeetsEveryInvariant : Prop :=
  State.reset.link.ok ∧ State.reset.cfg.legal ∧ State.reset.run.clock.inRange State.reset.cfg.globals
    ∧ State.reset.run.queueSound ∧ State.reset.run.booksSound State.reset.cfg ∧ State.reset.atRest
    ∧ State.reset.run.lanesServed ∧ State.reset.pending = [] ∧ State.reset.run.mode = .config

/-- Only the configuration writes and the pin resets change a configuration record: a soft reset and every other command keep
it. -/
def Obligations.ConfigurationChangesOnlyByItsWrites : Prop :=
  ∀ (c : Instr) (s t : State), exec c s = .next t →
    match c with
    | .powerOn | .rstNLow | .resetRelease _ | .writeGlobals _ _ | .writeLevels _ _ | .writeSled _ _ | .writeProbe _ _
    | .writeScript _ _ | .writeRouting _ _ | .setNotices _ _ => True
    | _ => t.cfg = s.cfg

/-- A sled's active level changes only at its own boundary event, or becomes L15 by a removal, SET_MODE CONFIG or a reset (R13,
R16); no passing of time changes it. -/
def Obligations.LevelChangesOnlyAtItsBoundary : Prop :=
  (∀ (s : State) (i : Sled), (s.refclk.run.chan i).active = (s.run.chan i).active)
  ∧ ∀ (c : Instr) (s t : State) (i : Sled), exec c s = .next t →
    (t.run.chan i).active = (s.run.chan i).active
    ∨ c = .boundaryEvent i
    ∨ (t.run.chan i).active = 15
      ∧ match c with
        | .powerOn | .rstNLow | .resetRelease _ | .frameSent | .setModeConfig _ => True
        | .presenceSettleExpiry j => j = i
        | _ => False

/-! ## Frames and records -/

/-- The bytes of a frame, received one after the other, put exactly that frame at the back of the receive queue; with the queue
full, or with a CRC that does not match, LINK_FRAME is raised instead. Each byte is a LINK_BYTE_RECEIVED, which also takes the
byte that ends a frame (assumption 19). The ten levels of each byte, sampled one a bit time, are received as those bytes; a byte
whose stop bit is low is taken as sampled, and the receiver waits for the line to read high (R161, R162, R164). -/
def Obligations.WireBytesAreTakenAsTheirFrame : Prop :=
  (∀ bs : List Byte, Receiver.idle.bytes (bs.flatMap lineLevels) = bs)
  ∧ (∀ (b : Byte) (k : Nat) (rest : List Pin),
      Receiver.idle.bytes ((lineLevels b).dropLast ++ .low :: (List.replicate k .low ++ .high :: rest))
        = b :: Receiver.idle.bytes rest)
  ∧ ∀ (f : Frame) (s : State), s.inReset = false → s.atRest → s.link.parser = .hunt → f.payload.length ≤ 124 →
    let idle := { s with link := { s.link with gap := none } }
    (s.link.rx.length < 4 →
      feed f.wire s = .next { idle with link := { idle.link with rx := s.link.rx ++ [f] } })
    ∧ (4 ≤ s.link.rx.length → feed f.wire s = .next (idle.raiseLink .overrun).finish)
    ∧ ∀ hi lo : Byte, [hi, lo] ≠ crcBytes (f.len :: f.inner) →
        feed (([0xC3, f.len] ++ f.inner) ++ [hi, lo]) s = .next (idle.raiseLink .crc).finish

/-- Every request has a frame that spells it and every frame short enough spells one request, which travels in it. -/
def Obligations.FramesSpellTheirRequests : Prop :=
  (∀ (c : Instr) (f : Frame), c.wf = true → frameOf c = some f → requestOf f = c)
  ∧ ∀ f : Frame, f.payload.length ≤ 124 → (requestOf f).wf = true ∧ frameOf (requestOf f) = some f

/-- The records of Tables 76 and 77, 41, 41 and 33 bytes: a legal record passes the checks of its write and is read back as it
is; a payload that passes decodes to a legal record and is its encoding. The frame of a global record is longer than every
offset held, and an offset lies within the frame held. -/
def Obligations.RecordsRoundTrip : Prop :=
  (∀ (c : Cfg) (g : Globals), g.legal → (∀ i, (c.sled i).offset < g.frameTicks) →
    (encodeGlobals g).length = 41 ∧ firstFailing (globalsChecks c (encodeGlobals g)) = none
      ∧ decodeGlobals (encodeGlobals g) = g)
  ∧ (∀ (c : Cfg) (p : List Byte), p.length = 41 → firstFailing (globalsChecks c p) = none →
      (decodeGlobals p).legal ∧ (∀ i, (c.sled i).offset < (decodeGlobals p).frameTicks)
        ∧ encodeGlobals (decodeGlobals p) = p)
  ∧ (∀ (c : Cfg) (i : Sled) (x : SledCfg), x.legal c.globals.frameTicks → c.globals.frameTicks ≤ 65535 →
      (encodeSled i x).length = 41 ∧ firstFailing (sledChecks c (encodeSled i x)) = none
        ∧ finAt 24 (encodeSled i x) 0 = i ∧ decodeSled (encodeSled i x) = x)
  ∧ (∀ (c : Cfg) (p : List Byte), p.length = 41 → firstFailing (sledChecks c p) = none →
      (decodeSled p).legal c.globals.frameTicks ∧ encodeSled (finAt 24 p 0) (decodeSled p) = p)
  ∧ (∀ (n : Probe) (x : ProbeCfg), x.legal →
      (encodeProbe n x).length = 33 ∧ firstFailing (probeChecks (encodeProbe n x)) = none
        ∧ finAt 48 (encodeProbe n x) 0 = n ∧ decodeProbe (encodeProbe n x) = x)
  ∧ ∀ p : List Byte, p.length = 33 → firstFailing (probeChecks p) = none →
      (decodeProbe p).legal ∧ encodeProbe (finAt 48 p 0) (decodeProbe p) = p

/-! ## Requests: taking and refusing -/

/-- A request whose frame cannot be taken now waits (R164, R165): it joins the receive queue behind the frames that wait, or is
discarded with OVERRUN when four wait; and it stays there while the reply queue is full or a RESET is accepted. -/
def Obligations.RequestsWaitTheirTurn : Prop :=
  ∀ (c : Instr) (f : Frame) (s : State), c.wf = true → frameOf c = some f → s.inReset = false →
    (s.link.rx ≠ [] → s.link.rx.head? ≠ some f → s.link.rx.length < 4 →
      exec c s = .next { s with link := { s.link with rx := s.link.rx ++ [f] } }.finish)
    ∧ (s.link.rx.head? ≠ some f → 4 ≤ s.link.rx.length → exec c s = .next (s.raiseLink .overrun).finish)
    ∧ (4 ≤ s.link.replies.length ∨ s.link.resetAccepted = true →
        (s.link.rx.head? = some f → exec c s = .next s.finish)
        ∧ (s.link.rx = [] → exec c s = .next { s with link := { s.link with rx := [f] } }.finish))

/-- The checks common to all requests: a frame of no request type is answered BAD_TYPE, a reply type with its 0x80 taken away; a
payload length that the layout does not allow BAD_LENGTH; a request of an allowed length in a mode that Table 70 does not accept
it in WRONG_MODE. Nothing changes (R166 to R168). -/
def Obligations.RequestsAreRefusedUnchanged : Prop :=
  (∀ (tag type : Byte) (payload : List Byte) (s : State), payload.length ≤ 124 → type ∉ requestTypes →
    Ready (frame tag type payload) s →
    exec (.unknownRequest tag type payload) s = .next (s.answered (frame tag type payload) [2]))
  ∧ (∀ (c : Instr) (f : Frame) (s : State), c.wf = true → frameOf c = some f → lengthAllowed c = false → Ready f s →
      exec c s = .next (s.answered f [1]))
  ∧ ∀ (c : Instr) (f : Frame) (s : State), c.wf = true → frameOf c = some f → lengthAllowed c = true →
      acceptedIn c s.run.mode = false → Ready f s → exec c s = .next (s.answered f [4])

/-- The field checks of a request are made from offset 0 upward, and the first one that fails is answered BAD_FIELD with the
offset of its field; nothing changes. The fields that fail in WRITE_LEVELS, WRITE_ROUTING, SET_NOTICES and SET_POOL are those
outside the ranges of their rules (R6, R26, R139, R166, R174, R175). -/
def Obligations.FirstFailingFieldIsReported : Prop :=
  (∀ (c : Cfg) (i : Instr), (fieldChecks c i).Pairwise (fun a b => a.1 ≤ b.1))
  ∧ (∀ (c : Instr) (f : Frame) (s : State) (k : Nat), c.wf = true → frameOf c = some f → lengthAllowed c = true →
      acceptedIn c s.run.mode = true → firstFailing (fieldChecks s.cfg c) = some k → Ready f s →
      exec c s = .next (s.answered f [3, BitVec.ofNat 8 k]))
  ∧ ∀ (c : Cfg) (tag : Byte) (p : List Byte) (k : Nat),
      let first (bad : Nat → Prop) : Prop := bad k ∧ ∀ j, j < k → ¬bad j
      (∀ count, p.length = 1 + 2 * count →
        (firstFailing (fieldChecks c (.writeLevels tag p)) = some k ↔
          first fun j => j = 0 ∧ (15 < byteAt p 0 ∨ 16 < byteAt p 0 + count)
            ∨ ∃ n, n < count ∧ j = 1 + 2 * n ∧ byteAt p j = 0))
      ∧ (firstFailing (fieldChecks c (.writeRouting tag p)) = some k ↔
          first fun j => j < 10 ∧ (3 < byteAt p j ∨ byteAt p j = 2 ∧ (j = 6 ∨ j = 7 ∨ j = 9)))
      ∧ (firstFailing (fieldChecks c (.setNotices tag p)) = some k ↔ first fun j => j < 5 ∧ 1 < byteAt p j)
      ∧ (firstFailing (fieldChecks c (.setPool tag p)) = some k ↔
          first fun j => j = 0 ∧ 8000 < wordAt p 0 ∨ j = 2 ∧ 600000 < longAt p 2 ∨ j = 6 ∧ 8000 < wordAt p 6)

/-! ## Requests: reports -/

/-- IDENTIFY is answered OK in every mode with the part's fixed values (R169). -/
def Obligations.IdentifyReportsTheFixedValues : Prop :=
  ∀ (tag : Byte) (s : State), Ready (frame tag 0x01 []) s →
    exec (.identify tag []) s
      = .next (s.answered (frame tag 0x01 []) [0, 0x52, 0x0C, 0x24, 3, 24, 48, 4, 2, 0, 16, 24, 4])

/-- QUERY_PART reports the mode record, the link rate, the timestamp and the zone; QUERY_POOL the pool, the sums, the floors
held, headroom and the raise queue; QUERY_LANE the lane; QUERY_SLED and QUERY_PROBE the sled's and the probe's records, with the
fields that are absent left out (Table 78). Nothing changes but, at QUERY_PROBE, the number of the free value that stands for a
retry count in SETTLE and WAIT, which the manual does not give (assumption 7). -/
def Obligations.StatusIsReported : Prop :=
  (∀ (tag : Byte) (s : State), Ready (frame tag 0x02 []) s →
    let z (k : ZoneNo) : List Byte :=
      putFlag (s.cfg.globals.zoneEnable.get k) ++ put8 (pinCode (s.run.zone.filters.get k).pin)
        ++ putFlag ((s.cfg.globals.zonePolarity.get k).asserts (s.run.zone.filters.get k).accepted)
    exec (.queryPart tag []) s
      = .next (s.answered (frame tag 0x02 [])
          (put8 0 ++ put8 s.run.mode.code ++ put8 s.run.cause.code
            ++ (match s.run.validation with
                | .none => [0, 0, 0]
                | .passed => [1, 0, 0]
                | .failed k i => put8 2 ++ put8 k.code ++ put8 i)
            ++ put8 (pinCode s.link.rate) ++ put32 s.run.clock.stamp.toNat ++ put8 s.run.zone.state.code
            ++ put16 (s.run.zone.release.getD 0) ++ z 0 ++ z 1)))
  ∧ (∀ (tag : Byte) (s : State), Ready (frame tag 0x31 []) s →
    let r := s.run
    exec (.queryPool tag []) s
      = .next (s.answered (frame tag 0x31 [])
          (put8 0 ++ put16 r.pool.size ++ put16 r.pool.fallback ++ put32 r.pool.leasePeriod ++ put8 r.pool.leaseState.code
            ++ put32 r.pool.leaseRemaining ++ put16 (sumSleds fun i => (r.books i).grant)
            ++ put16 (sumSleds fun i => (r.books i).loan) ++ put16 (sumSleds fun i => (r.books i).draining)
            ++ put16 (r.floorsHeld s.cfg)
            ++ putSigned16 (r.pool.size - (sumSleds fun i => (r.books i).grant) - (sumSleds fun i => (r.books i).loan)
                - (sumSleds fun i => (r.books i).draining))
            ++ r.queue.flatMap fun e =>
                put8 e.sled.val ++ put8 e.cls.code ++ put8 (e.wanted.val + (if e.held then 128 else 0)))))
  ∧ (∀ (tag : Byte) (p : List Byte) (s : State), p.length = 1 → byteAt p 0 ≤ 3 → Ready (frame tag 0x33 p) s →
    let n := finAt 4 p 0
    let x := s.run.lane n
    exec (.queryLane tag p) s
      = .next (s.answered (frame tag 0x33 p)
          (put8 0 ++ put8 x.state.code ++ put8 x.attempts ++ put8 (s.cfg.globals.laneSpeed.get n).code
            ++ put8 (s.cfg.globals.laneTimeoutMs.get n)
            ++ (match x.poll with
                | .absent => [0, 255]
                | .poll q => put8 q.phase.code ++ put8 q.probe.val
                | .aborting => [5, 255])
            ++ put16 x.timeouts ++ put16 x.recoveries ++ put8 (pinCode x.scl) ++ put8 (pinCode x.sda)
            ++ x.queue.flatMap fun q => put8 q.val)))
  ∧ (∀ (tag : Byte) (p : List Byte) (s : State), p.length = 1 → byteAt p 0 ≤ 23 → Ready (frame tag 0x30 p) s →
    let i := finAt 24 p 0
    let r := s.run
    let l := r.life i
    let x := r.chan i
    let b := r.books i
    let t := r.therm i
    let vs := [t.combined, probeVote s.cfg r (probeA i), probeVote s.cfg r (probeB i), alertVote s.cfg r i]
    exec (.querySled tag p) s
      = .next (s.answered (frame tag 0x30 p)
          (put8 0 ++ put8 l.state.code ++ putFlag l.present ++ put8 (pinCode l.prs) ++ put16 (l.admission.getD 0)
            ++ putFlag l.admitTimeout ++ putFlag l.containPending
            ++ put8 ((if l.awaitA then 1 else 0) + (if l.awaitB then 2 else 0))
            ++ put8 x.active.val ++ put8 (r.target s.cfg i).val ++ put8 x.dwell ++ put8 (r.grantLevel s.cfg i).val
            ++ put16 b.grant ++ put16 b.loan ++ put16 b.draining ++ put8 b.wanted.val ++ put8 b.cls.val
            ++ putFlag b.floorReserved ++ put8 b.boost.code ++ put8 b.boostFrames ++ put8 b.reclaim
            ++ put8 (((r.raiseOrder.findIdx? (· == i)).map (· + 1)).getD 0)
            ++ put8 t.state.code ++ put8 (ceilingOf s.cfg t.state).val ++ put8 t.escalate ++ put8 t.relax
            ++ put32 (t.hotPersist.getD 0) ++ putFlag t.hotRaised
            ++ put8 (presenceMap (vs.map Option.isSome)) ++ (vs.filterMap id).flatMap fun v => put8 v.code)))
  ∧ ∀ (tag : Byte) (p : List Byte) (s : State), p.length = 1 → byteAt p 0 ≤ 47 → Ready (frame tag 0x32 p) s →
    let n := finAt 48 p 0
    let x := s.run.probe n
    let inHand : Option Poll :=
      match (s.run.lane (laneOfProbe n)).poll with
      | .poll q => if q.probe = n then some q else none
      | .absent | .aborting => none
    let gs : List (Option (List Byte)) :=
      [x.lastReason.map fun k => put8 k.code, x.lastValue.map putSigned32, x.lastClass.map fun k => put8 k.code,
       x.lastTime.map fun t => put32 t.toNat,
       if (s.cfg.probe n).enable then some (put16 (segmentStart s.cfg n) ++ put8 (2 * (s.cfg.probe n).initCount)) else none,
       inHand.map fun q =>
         put8 q.phase.code ++ (if q.phase = .init ∨ q.phase = .read then put8 q.retries else [Config.idleRetryByte s.run.free])]
    exec (.queryProbe tag p) s
      = .next (s.replied (frame tag 0x32 p)
          (put8 0 ++ put8 x.health.code ++ put8 x.failures ++ putFlag x.needsInit ++ put8 x.run.code
            ++ put16 (x.due.getD 0) ++ put16 x.overruns
            ++ put8 (presenceMap (gs.map Option.isSome)) ++ (gs.filterMap id).flatten)
          s.cfg { s.run with free := s.run.free + 1 })

/-- READ_ALERT reports the alert channel; with the clear request 1 the reply shows the values and then the last width, the
longest width, the assertion count and the total become 0, and nothing else changes (R103). -/
def Obligations.AlertIsReadAndCleared : Prop :=
  (∀ (tag : Byte) (p : List Byte) (s : State), p.length = 2 → byteAt p 0 ≤ 23 → byteAt p 1 = 0 → Ready (frame tag 0x34 p) s →
    exec (.readAlert tag p) s = .next (s.answered (frame tag 0x34 p) (put8 0 ++ alertReport (finAt 24 p 0) s)))
  ∧ (∀ (tag k : Byte) (s : State), k.toNat ≤ 23 → Ready (frame tag 0x34 [k, 1]) s →
    let i : Sled := Fin.ofNat 24 k.toNat
    exec (.readAlertAndClear tag k) s
      = .next (s.replied (frame tag 0x34 [k, 1]) (put8 0 ++ alertReport i s) s.cfg
          (s.run.modAlert i fun a => { a with lastWidth := 0, longest := 0, count := 0, total := 0 })))
  ∧ ∀ (i : Sled) (s : State),
    let x := s.cfg.sled i
    let a := s.run.alert i
    alertReport i s
      = put8 x.alertRole.code ++ put8 x.alertPolarity.code ++ put8 (pinCode a.lastSample)
        ++ putFlag (x.alertPolarity.asserts a.accepted) ++ putFlag a.filtered ++ putFlag a.sustained ++ putFlag a.stuck
        ++ put32 a.width
        ++ (if a.seen then put8 1 ++ put32 (a.lastTime.getD 0).toNat else put8 0)
        ++ put32 a.lastWidth ++ put32 a.longest ++ put16 a.count ++ put32 a.total

/-- READ_FAULTS reports both severities and the level of ALARM_N; CLEAR_FAULTS empties both records, sets and counts and changes
nothing else, so ALARM_N stays asserted only in SAFE (R145, R146). -/
def Obligations.FaultsAreReadAndCleared : Prop :=
  (∀ (tag : Byte) (s : State), Ready (frame tag 0x35 []) s →
    let block (v : SeverityRecord) : List Byte :=
      (match v.first with
        | none => put8 0
        | some f => put8 1 ++ put8 f.cls.index.val ++ put8 f.subject.codes.1 ++ put8 f.subject.codes.2
            ++ put32 f.time.toNat ++ put16 f.detail)
        ++ put16 v.laterSet.toNat ++ put8 v.laterCount
    exec (.readFaults tag []) s
      = .next (s.answered (frame tag 0x35 [])
          (put8 0 ++ block s.run.severe ++ block s.run.advisory
            ++ put8 (if s.run.severe.first.isSome || s.run.mode == .safe then 1 else 0))))
  ∧ ∀ (tag : Byte) (s : State), Ready (frame tag 0x36 []) s →
    let r := { s.run with severe := .empty, advisory := .empty }
    exec (.clearFaults tag []) s = .next (s.replied (frame tag 0x36 []) [0] s.cfg r)
      ∧ (r.alarm = true ↔ s.run.mode = .safe)

/-- The configuration reads return the record as it stands, with its number where it has one, and change nothing (R60, R119,
R121, R139, R170). -/
def Obligations.ConfigurationIsRead : Prop :=
  (∀ (tag : Byte) (s : State), Ready (frame tag 0x11 []) s →
    exec (.readGlobals tag []) s = .next (s.answered (frame tag 0x11 []) (0 :: encodeGlobals s.cfg.globals)))
  ∧ (∀ (tag : Byte) (s : State), Ready (frame tag 0x13 []) s →
    exec (.readLevels tag []) s
      = .next (s.answered (frame tag 0x13 [])
          ([0, 0] ++ allLevels.flatMap fun k =>
            put8 (s.cfg.levels.get k).admitTicks ++ put8 (s.cfg.levels.get k).holdTicks)))
  ∧ (∀ (tag : Byte) (p : List Byte) (s : State), p.length = 1 → byteAt p 0 ≤ 23 → Ready (frame tag 0x15 p) s →
    exec (.readSled tag p) s
      = .next (s.answered (frame tag 0x15 p) (0 :: encodeSled (finAt 24 p 0) (s.cfg.sled (finAt 24 p 0)))))
  ∧ (∀ (tag : Byte) (p : List Byte) (s : State), p.length = 1 → byteAt p 0 ≤ 47 → Ready (frame tag 0x17 p) s →
    exec (.readProbe tag p) s
      = .next (s.answered (frame tag 0x17 p) (0 :: encodeProbe (finAt 48 p 0) (s.cfg.probe (finAt 48 p 0)))))
  ∧ (∀ (tag : Byte) (p : List Byte) (s : State), p.length = 3 → 1 ≤ byteAt p 2 → byteAt p 2 ≤ 48 → wordAt p 0 ≤ 511 →
    wordAt p 0 + byteAt p 2 ≤ 512 → Ready (frame tag 0x19 p) s →
    exec (.readScript tag p) s
      = .next (s.answered (frame tag 0x19 p)
          (0 :: (List.range (byteAt p 2)).map fun j => s.cfg.script.toList.getD (wordAt p 0 + j) 0)))
  ∧ ∀ (tag : Byte) (s : State), Ready (frame tag 0x1B []) s →
    exec (.readRouting tag []) s
      = .next (s.answered (frame tag 0x1B []) (0 :: (List.finRange 10).flatMap fun k => put8 (s.cfg.routing.get k).code))

/-! ## Requests: configuration writes -/

/-- WRITE_LEVELS, WRITE_PROBE, WRITE_SCRIPT and WRITE_ROUTING, with their fields in range, change the entries they carry and
nothing else; SET_NOTICES replaces the mask, and the pending notices of the kinds turned off leave (R6, R119, R121, R139, R170,
R174). -/
def Obligations.PlainConfigurationIsWritten : Prop :=
  (∀ (tag : Byte) (p : List Byte) (s : State), 3 ≤ p.length → p.length % 2 = 1 → s.run.mode = .config →
    byteAt p 0 + (p.length - 1) / 2 ≤ 16 → (∀ j, j < (p.length - 1) / 2 → 1 ≤ byteAt p (1 + 2 * j)) →
    Ready (frame tag 0x12 p) s →
    ∃ v, exec (.writeLevels tag p) s = .next (s.replied (frame tag 0x12 p) [0] { s.cfg with levels := v } s.run)
      ∧ ∀ k : Level, v.get k =
        if byteAt p 0 ≤ k.val ∧ k.val < byteAt p 0 + (p.length - 1) / 2 then
          ⟨byteAt p (1 + 2 * (k.val - byteAt p 0)), byteAt p (2 + 2 * (k.val - byteAt p 0))⟩
        else s.cfg.levels.get k)
  ∧ (∀ (tag : Byte) (p : List Byte) (s : State), p.length = 33 → s.run.mode = .config →
    firstFailing (probeChecks p) = none → Ready (frame tag 0x16 p) s →
    ∃ v, exec (.writeProbe tag p) s = .next (s.replied (frame tag 0x16 p) [0] { s.cfg with probes := v } s.run)
      ∧ ∀ n : Probe, v.get n = if n.val = byteAt p 0 then decodeProbe p else s.cfg.probes.get n)
  ∧ (∀ (tag : Byte) (p : List Byte) (s : State), 3 ≤ p.length → p.length ≤ 50 → s.run.mode = .config →
    wordAt p 0 + (p.length - 2) ≤ 512 → Ready (frame tag 0x18 p) s →
    ∃ v, exec (.writeScript tag p) s = .next (s.replied (frame tag 0x18 p) [0] { s.cfg with script := v } s.run)
      ∧ ∀ k : Fin 512, v.get k =
        if wordAt p 0 ≤ k.val ∧ k.val < wordAt p 0 + (p.length - 2) then p.getD (2 + (k.val - wordAt p 0)) 0
        else s.cfg.script.get k)
  ∧ (∀ (tag : Byte) (p : List Byte) (s : State), p.length = 10 → s.run.mode ≠ .safe →
    (∀ k, k < 10 → byteAt p k ≤ 3) → byteAt p 6 ≠ 2 → byteAt p 7 ≠ 2 → byteAt p 9 ≠ 2 → Ready (frame tag 0x1A p) s →
    ∃ v, exec (.writeRouting tag p) s = .next (s.replied (frame tag 0x1A p) [0] { s.cfg with routing := v } s.run)
      ∧ ∀ k : Fin 10, (v.get k).code = byteAt p k.val)
  ∧ ∀ (tag : Byte) (p : List Byte) (s : State), p.length = 5 → s.run.mode ≠ .safe →
    (∀ k, k < 5 → byteAt p k ≤ 1) → Ready (frame tag 0x1C p) s →
    let on (k : Nat) : Bool := byteAt p k == 1
    let n := s.run.notices
    exec (.setNotices tag p) s
      = .next (s.replied (frame tag 0x1C p) [0]
          { s.cfg with mask := { sled := on 0, pool := on 1, fault := on 2, zone := on 3, mode := on 4 } }
          { s.run with notices :=
              { sled := if on 0 then n.sled else tabulate fun _ => false
                pool := on 1 && n.pool
                severe := on 2 && n.severe
                advisory := on 2 && n.advisory
                zone := on 3 && n.zone
                mode := on 4 && n.mode } })

/-- WRITE_GLOBALS, accepted: the whole record takes the values carried. A change of `prescale` or `frame_ticks` restarts
prescaler and frame and sets every carrier to IDLE, with 0 ticks (assumption 13); a change of `ramp_frames` loads every dwell
(assumption 26). Then, Z0 before Z1, an enabled input that the write makes asserted starts an emergency, with ZONE_ALARM and a
ZONE notice, and one that it makes deasserted ends the emergency it was in when no other holds it and the latch is off; last, a
latch taken away ends an emergency that no input holds. Nothing else changes, and a write that repeats the values held changes
nothing (R3, R5, R9, R88, R89, R91, R170). -/
def Obligations.GlobalsAreWritten : Prop :=
  ∀ (tag : Byte) (p : List Byte) (s : State), p.length = 41 → s.run.mode = .config →
    firstFailing (globalsChecks s.cfg p) = none → Ready (frame tag 0x10 p) s →
    let g := decodeGlobals p
    let old := s.cfg.globals
    let c := { s.cfg with globals := g }
    let restarts := old.prescale ≠ g.prescale ∨ old.frameTicks ≠ g.frameTicks
    let asserted (e : Globals) (z : ZoneNo) : Prop :=
      e.zoneEnable.get z = true ∧ (s.run.zone.filters.get z).accepted ≠ (e.zonePolarity.get z).deasserted
    let clear := ¬asserted g 0 ∧ ¬asserted g 1
    let zoned (r : Run) (k : ZoneState) (n : Count) : Run := { r with zone := { r.zone with state := k, release := n } }
    let ended (r : Run) : Run :=
      ((if g.zoneReleaseMs = 0 then zoned r .normal none else zoned r .releasing (some g.zoneReleaseMs)).post c .zone).refreshHeld c
    let taken (r : Run) (z : ZoneNo) : Run :=
      if asserted g z ∧ ¬asserted old z then
        ((zoned r .emergency none).raise c .zoneAlarm (.zoneInput z) r.zone.state.code).post c .zone
      else if asserted old z ∧ ¬asserted g z ∧ r.zone.state = .emergency then
        if clear ∧ g.zoneLatch = false then ended r else r.post c .zone
      else r
    ∃ u : Run,
      u = { s.run with clock := u.clock, sleds := u.sleds }
      ∧ u.clock = (if restarts then { s.run.clock with prescaleCount := 0, frame := 0 } else s.run.clock)
      ∧ (∀ i, u.sleds.get i =
          { s.run.sleds.get i with
            chan :=
              { s.run.chan i with
                carrier := if restarts then .idle else (s.run.chan i).carrier
                ticks := if restarts then 0 else (s.run.chan i).ticks
                dwell := if old.rampFrames = g.rampFrames then (s.run.chan i).dwell else g.rampFrames } })
      ∧ (let v := taken (taken u 0) 1
         exec (.writeGlobals tag p) s
          = .next (s.replied (frame tag 0x10 p) [0] c
              (if old.zoneLatch = true ∧ g.zoneLatch = false ∧ v.zone.state = .emergency ∧ clear then ended v else v)))
      ∧ (g = old → exec (.writeGlobals tag p) s = .next (s.answered (frame tag 0x10 p) [0]))

/-- WRITE_SLED, accepted: the sled's record takes the values carried. `enable` turned off makes the sled DISABLED with its
carrier IDLE, with 0 ticks and its latched lengths kept (the model's choice, assumption 13); turned on it makes it STANDBY or
ABSENT by its accepted presence; unchanged, nothing else changes (R72). -/
def Obligations.SledRecordIsWritten : Prop :=
  ∀ (tag : Byte) (p : List Byte) (s : State), p.length = 41 → s.run.mode = .config →
    firstFailing (sledChecks s.cfg p) = none → Ready (frame tag 0x14 p) s →
    let i := finAt 24 p 0
    let x := decodeSled p
    ∃ v r,
      exec (.writeSled tag p) s = .next (s.replied (frame tag 0x14 p) [0] { s.cfg with sleds := v } r)
      ∧ (∀ j, v.get j = if j = i then x else s.cfg.sleds.get j)
      ∧ ((s.cfg.sled i).enable = x.enable → r = s.run)
      ∧ ((s.cfg.sled i).enable = true → x.enable = false →
          r = (s.run.modLife i fun l => { l with state := .disabled }).modChan i
                fun c => { c with carrier := .idle, ticks := 0 })
      ∧ ((s.cfg.sled i).enable = false → x.enable = true →
          r = s.run.modLife i fun l => { l with state := if l.present then .standby else .absent })

/-! ## Requests: the budget -/

/-- SET_POOL in range: a size below the floors held is refused; in CONFIG the three values are stored; in RUN and SAFE they take
effect at once: the size by revocation where it leaves a deficit, cut into draining until grants and loans fit it, and the lease
restarts from the new period. No sled's units and no other record change, and a rise of the size triggers the arbiter (R26 to
R28). -/
def Obligations.PoolIsSet : Prop :=
  ∀ (tag : Byte) (p : List Byte) (s : State), p.length = 8 → wordAt p 0 ≤ 8000 → longAt p 2 ≤ 600000 → wordAt p 6 ≤ 8000 →
    Ready (frame tag 0x20 p) s →
    let size := wordAt p 0
    let period := longAt p 2
    let fallback := wordAt p 6
    let r₀ := s.run
    let held := r₀.floorsHeld s.cfg
    (size < held → exec (.setPool tag p) s = .next (s.answered (frame tag 0x20 p) [9]))
    ∧ (held ≤ size → r₀.mode = .config →
        exec (.setPool tag p) s
          = .next (s.replied (frame tag 0x20 p) [0] s.cfg
              { r₀ with pool := { r₀.pool with size := size, fallback := fallback, leasePeriod := period } }))
    ∧ (held ≤ size → r₀.mode ≠ .config →
        let pool : Pool :=
          { size := size, fallback := fallback, leasePeriod := period, leaseRemaining := period
            leaseState := if period = 0 then .none else .running }
        let u := { r₀ with pool := { r₀.pool with fallback := fallback, leasePeriod := period } }.resizePool s.cfg size
        let r := { u with pool := pool }
        exec (.setPool tag p) s = .next (s.replied (frame tag 0x20 p) [0] s.cfg r)
        ∧ (r₀.booksSound s.cfg → r.sumGrants + r.sumLoans ≤ size)
        ∧ (r₀.sumGrants + r₀.sumLoans ≤ size → r = { r₀ with pool := pool, arbiterDue := decide (r₀.pool.size < size) })
        ∧ r = { r₀ with
                pool := pool, sleds := r.sleds, queue := r.queue, boostList := r.boostList
                arbiterDue := r.arbiterDue, notices := r.notices }
        ∧ (r₀.pool.size < size → r.arbiterDue = true)
        ∧ ∀ i, (r.books i).grant ≤ (r₀.books i).grant
            ∧ (r.books i).grant + (r.books i).loan + (r.books i).draining
                = (r₀.books i).grant + (r₀.books i).loan + (r₀.books i).draining
            ∧ (r.books i).wanted = (r₀.books i).wanted ∧ (r.books i).cls = (r₀.books i).cls
            ∧ r.life i = r₀.life i ∧ r.therm i = r₀.therm i ∧ r.alert i = r₀.alert i
            ∧ r.chan i = { r₀.chan i with boostStep := (r.chan i).boostStep })

/-- In RUN and SAFE, with sound books and a queue in order, a pool size that covers the floors held covers the grants and loans
once revocation is done. A boost ends exactly while the loans of the younger boosts do not cover the deficit. Once the loans are
gone, grants are cut from class 3 to class 0, newest raise first, each to its cost at the loosest level within the grant less
the deficit that is left, or else to its floor. Every unit cut goes to its sled's draining figure, so headroom moves by the
change of size alone; a POOL notice is posted. A TRACKING sled that is cut short of its want joins behind its class if it was
not queued; those that join follow each other in the order of the cuts (assumption 17); entries that waited keep their places
(R23, R47 to R49). An entry that joins unheld, and one that is not held any more, triggers the arbiter (R42, R43). -/
def Obligations.RevocationCoversTheDeficit : Prop :=
  ∀ (c : Cfg) (r : Run) (size : Nat), r.mode ≠ .config → r.booksSound c → r.queueSound → r.floorsHeld c ≤ size →
    let t := r.resizePool c size
    let deficit : Int := (r.sumGrants : Int) + r.sumLoans - size
    let cut (i : Sled) : Nat := (r.books i).grant - (t.books i).grant
    let joins (i : Sled) : Prop :=
      r.queued i = false ∧ 0 < cut i ∧ (r.life i).state = .tracking ∧ (t.books i).grant < r.wantCost c i
    let place (e : Entry) : Sled × QClass × Level := (e.sled, e.cls, e.wanted)
    t.pool = { r.pool with size := size }
    ∧ t.sumGrants + t.sumLoans ≤ size
    ∧ t.headroom = r.headroom - r.pool.size + size
    ∧ (∀ i, (t.books i).grant + (t.books i).loan + (t.books i).draining
          = (r.books i).grant + (r.books i).loan + (r.books i).draining
        ∧ min (r.books i).grant (floorCost c i) ≤ (t.books i).grant ∧ (t.books i).grant ≤ (r.books i).grant
        ∧ ((t.books i).loan = (r.books i).loan ∨ (t.books i).loan = 0 ∧ (t.books i).boost = .rearm))
    ∧ ((∃ i, (t.books i).grant < (r.books i).grant) → ∀ i, (t.books i).loan = 0)
    ∧ (size < r.sumGrants + r.sumLoans → t.notices = (r.post c .pool).notices)
    ∧ (r.sumGrants + r.sumLoans ≤ size → t.sleds = r.sleds ∧ t.queue = r.queue ∧ t.notices = r.notices)
    ∧ (∀ i older younger, r.boostList = older ++ i :: younger → i ∉ younger → (r.books i).boost = .running →
        ((t.books i).boost = .rearm ↔ (sumSleds fun j => if j ∈ younger then (r.books j).loan else 0 : Nat) < deficit))
    ∧ (∀ i older newer, r.raiseOrder = older ++ i :: newer → i ∉ newer →
        let left : Int :=
          deficit - r.sumLoans
            - (sumSleds fun j =>
                if (r.books i).cls < (r.books j).cls ∨ (r.books j).cls = (r.books i).cls ∧ j ∈ newer then cut j else 0 : Nat)
        let bound : Int := (r.books i).grant - left
        (left ≤ 0 ∨ (r.books i).grant ≤ floorCost c i → (t.books i).grant = (r.books i).grant)
        ∧ (0 < left → floorCost c i < (r.books i).grant →
            (∀ k, (costAt c i k : Int) ≤ bound → (∀ j, j < k → bound < costAt c i j) → (t.books i).grant = costAt c i k)
            ∧ ((∀ k, bound < costAt c i k) → (t.books i).grant = floorCost c i)))
    ∧ (t.queue.filter fun e => r.queued e.sled).map place = r.queue.map place
    ∧ (∀ i, t.queued i = true ↔ r.queued i = true ∨ joins i)
    ∧ (∀ front e back, t.queue = front ++ e :: back → r.queued e.sled = false →
        e.cls = .cls (r.books e.sled).cls ∧ e.wanted = (r.books e.sled).wanted
          ∧ (∀ x ∈ front, x.cls.rank ≤ e.cls.rank) ∧ (∀ x ∈ back, x.cls = e.cls → r.queued x.sled = false))
    ∧ (∀ i j a b, joins i → joins j → (r.books i).cls = (r.books j).cls → r.raiseOrder = a ++ j :: b → j ∉ b → i ∈ b →
        ∃ x y z, t.queue.map (fun e => e.sled) = x ++ i :: y ++ j :: z)
    ∧ (size < r.sumGrants + r.sumLoans → ∀ e ∈ t.queue, e.held = t.entryHeld c e.sled e.cls)
    ∧ ((∃ e ∈ t.queue, e.held = false ∧ r.queued e.sled = false) ∨ r.unholds t → t.arbiterDue = true)

/-- One service of the arbiter, on sound books and a queue in order: it raises grants only, of sleds that are queued, out of
headroom that covers them, and above the floor no further than the costs at the want and at the thermal ceiling; held entries
are passed over. The first entry that is not held is served, a FLOOR entry with its floor, a class entry with its cost at the
loosest level that is not looser than its want and its ceiling and that headroom covers; at the want it leaves the queue, and
short of both want and ceiling it stops the service. An entry met first that cannot be loosened by even one cost step stops the
service as it is. A sled whose floor the service reserves, first or later in the walk, is ISOLATED with its contain pending mark
cleared where that mark was set, TRACKING where its awaiting set is empty, queued then while it is short of its want, and else
stays ADMITTING; a change posts a SLED notice, and no other sled's state or marks change (R23, R43 to R46, R65, R70). -/
def Obligations.ArbiterServesFromHeadroom : Prop :=
  ∀ (c : Cfg) (r : Run), r.queueSound → r.booksSound c →
    let t := r.serve c
    t.arbiterDue = false
    ∧ (∀ i, (r.books i).grant ≤ (t.books i).grant ∧ (t.books i).loan = (r.books i).loan
        ∧ (t.books i).draining = (r.books i).draining
        ∧ ((r.books i).grant < (t.books i).grant →
            r.queued i = true ∧ i ∈ t.raiseOrder
              ∧ (t.books i).grant ≤ max (floorCost c i) (min (r.wantCost c i) (costAt c i (r.ceiling c i)))))
    ∧ ((∃ i, (r.books i).grant < (t.books i).grant) → 0 ≤ t.headroom)
    ∧ ((∀ e ∈ r.queue, e.held = true) → t = { r with arbiterDue := false })
    ∧ (∀ e rest, (r.queue.filter fun x => !x.held) = e :: rest → e.cls = .floor → r.headroom < floorCost c e.sled →
        t = { r with arbiterDue := false })
    ∧ (∀ e rest q, (r.queue.filter fun x => !x.held) = e :: rest → e.cls = .cls q →
        let i := e.sled
        let b := r.books i
        let fits (k : Level) : Prop := b.wanted ≤ k ∧ r.ceiling c i ≤ k ∧ (costAt c i k : Int) - b.grant ≤ r.headroom
        ((∀ k, fits k → costAt c i k ≤ b.grant) → t = { r with arbiterDue := false })
        ∧ ∀ k, fits k → (∀ j, j < k → ¬fits j) → b.grant < costAt c i k →
            (t.books i).grant = costAt c i k ∧ i ∈ t.raiseOrder
              ∧ (r.wantCost c i ≤ costAt c i k → t.queued i = false)
              ∧ (costAt c i k < r.wantCost c i → t.queued i = true)
              ∧ (costAt c i k < r.wantCost c i → costAt c i k < costAt c i (r.ceiling c i) → b.boost ≠ .running →
                  r.raisesForbidden = false →
                  (∀ j, j ≠ i → t.books j = r.books j)
                    ∧ t.queue.map (fun x => (x.sled, x.cls, x.wanted)) = r.queue.map fun x => (x.sled, x.cls, x.wanted)))
    ∧ (∀ e rest, (r.queue.filter fun x => !x.held) = e :: rest → e.cls = .floor → floorCost c e.sled ≤ r.headroom →
        (t.books e.sled).floorReserved = true ∧ floorCost c e.sled ≤ (t.books e.sled).grant ∧ e.sled ∈ t.raiseOrder)
    ∧ (∀ i, (r.books i).floorReserved = (t.books i).floorReserved → t.life i = r.life i)
    ∧ ∀ i, (r.books i).floorReserved ≠ (t.books i).floorReserved →
        let l := r.life i
        let awaits := l.awaitA = true ∨ l.awaitB = true
        r.queued i = true ∧ l.state = .admitting ∧ (t.books i).floorReserved = true ∧ i ∈ t.raiseOrder
        ∧ (l.containPending = true →
            t.life i = { l with state := .isolated, admission := none, containPending := false }
              ∧ (t.books i).grant = floorCost c i ∧ t.queued i = false)
        ∧ (l.containPending = false → awaits → t.life i = l ∧ (t.books i).grant = floorCost c i ∧ t.queued i = false)
        ∧ (l.containPending = false → ¬awaits →
            t.life i = { l with state := .tracking, admission := none }
              ∧ floorCost c i ≤ (t.books i).grant ∧ (t.queued i = true ∨ r.wantCost c i ≤ (t.books i).grant))
        ∧ (l.containPending = true ∨ ¬awaits → c.mask.sled = true → t.notices.sled.get i = true)

/-- RENEW_LEASE by the lease state in RUN; in CONFIG and SAFE it is refused with WRONG_MODE and changes nothing. A running lease
goes on counting in SAFE, where its last tick makes the expiry due; a lease with more than one tick left, as one renewed before
that tick, does not expire (R31). -/
def Obligations.LeaseIsRenewed : Prop :=
  (∀ s : State, s.run.mode = .safe → s.run.pool.leaseState = .running → 16000 ≤ s.run.clock.msCount + 1 →
    (1 < s.run.pool.leaseRemaining →
      s.refclk.run.pool = { s.run.pool with leaseRemaining := s.run.pool.leaseRemaining - 1 })
    ∧ (s.run.pool.leaseRemaining ≤ 1 → .leaseExpiry ∈ s.refclk.due))
  ∧ (∀ s : State, 1 < s.run.pool.leaseRemaining → isDue s .leaseExpiry = false)
  ∧ ∀ (tag : Byte) (s : State), Ready (frame tag 0x21 []) s →
    exec (.renewLease tag []) s
      = .next
        (if s.run.mode ≠ .run then s.answered (frame tag 0x21 []) [4]
        else
          match s.run.pool.leaseState with
          | .running =>
            s.replied (frame tag 0x21 []) [0] s.cfg
              { s.run with pool := { s.run.pool with leaseRemaining := s.run.pool.leasePeriod } }
          | .lapsed => s.answered (frame tag 0x21 []) [8]
          | .none => s.answered (frame tag 0x21 []) [7])

/-- SET_WANT in range in RUN or SAFE: refused with NOT_PRESENT for an empty slot; else the want and class are stored, a grant
above the cost at the want is cut to it into draining, or into the loan of a RUNNING boost, and no other sled's books and no
other record change. A TRACKING sled whose grant covers the want leaves the queue; one queued in its class keeps its place, and
so does an ADMITTING one, and a new wanted level on its unheld entry triggers the arbiter; any other goes to the back of its
class; every held flag follows R42 (R32, R33, R39 to R43). -/
def Obligations.WantIsSet : Prop :=
  ∀ (tag : Byte) (p : List Byte) (s : State), p.length = 3 → byteAt p 0 ≤ 23 → byteAt p 1 ≤ 15 → byteAt p 2 ≤ 3 →
    s.run.mode ≠ .config → Ready (frame tag 0x22 p) s →
    let i := finAt 24 p 0
    let w := finAt 16 p 1
    let k := finAt 4 p 2
    let r₀ := s.run
    let b := r₀.books i
    let st := (r₀.life i).state
    let cut := b.grant - costAt s.cfg i w
    let place (e : Entry) : Sled × QClass := (e.sled, e.cls)
    let covered := costAt s.cfg i w ≤ b.grant
    let inClass := r₀.queue.any fun e => e.sled == i && e.cls == .cls k
    let newWant := ∀ e ∈ r₀.queue, e.sled = i → e.wanted ≠ w
    (st = .absent ∨ st = .disabled → exec (.setWant tag p) s = .next (s.answered (frame tag 0x22 p) [6]))
    ∧ (st ≠ .absent → st ≠ .disabled →
        ∃ r, exec (.setWant tag p) s = .next (s.replied (frame tag 0x22 p) [0] s.cfg r)
          ∧ r = { r₀ with sleds := r.sleds, queue := r.queue, arbiterDue := r.arbiterDue }
          ∧ (∀ j, r.sleds.get j = { r₀.sleds.get j with books := r.books j } ∧ (j ≠ i → r.books j = r₀.books j))
          ∧ r.books i =
              { b with
                wanted := w
                cls := k
                grant := b.grant - cut
                loan := b.loan + (if b.boost = .running then cut else 0)
                draining := b.draining + (if b.boost = .running then 0 else cut) }
          ∧ (∀ e ∈ r.queue, e.held = r.entryHeld s.cfg e.sled e.cls)
          ∧ (st = .tracking → covered → r.queue.map place = (r₀.queue.filter fun e => e.sled != i).map place)
          ∧ (st = .tracking → ¬covered → inClass = true →
              r.queue.map place = r₀.queue.map place
                ∧ ∀ e ∈ r.queue, e.sled = i → e.wanted = w ∧ (e.held = false → newWant → r.arbiterDue = true))
          ∧ (st = .tracking → ¬covered → inClass = false →
              ∃ front back,
                r.queue.map place = front ++ (i, .cls k) :: back
                  ∧ front ++ back = (r₀.queue.filter fun e => e.sled != i).map place
                  ∧ (∀ x ∈ front, x.2.rank ≤ k.val + 1) ∧ (∀ x ∈ back.head?, k.val + 1 < x.2.rank)
                  ∧ (∀ e ∈ r.queue, e.sled = i → e.wanted = w ∧ (e.held = false → r.arbiterDue = true)))
          ∧ (st = .admitting →
              r.queue.map place = r₀.queue.map place
                ∧ ∀ e ∈ r.queue, e.sled = i → e.wanted = w ∧ (e.held = false → newWant → r.arbiterDue = true)))

/-- BOOST in range in RUN: its checks in order, each with its status, and an accepted one lends the sled what its grant lacks of
its cost at L0 (R53, R54). -/
def Obligations.BoostIsCheckedAndStarted : Prop :=
  ∀ (tag : Byte) (p : List Byte) (s : State), p.length = 2 → byteAt p 0 ≤ 23 → 1 ≤ byteAt p 1 → s.run.mode = .run →
    Ready (frame tag 0x23 p) s →
    let i := finAt 24 p 0
    let r₀ := s.run
    let b := r₀.books i
    let top := costAt s.cfg i 0
    let st := (r₀.life i).state
    let f := frame tag 0x23 p
    (st = .absent ∨ st = .disabled → exec (.boost tag p) s = .next (s.answered f [6]))
    ∧ (st ≠ .absent → st ≠ .disabled → b.boost ≠ .none → exec (.boost tag p) s = .next (s.answered f [5]))
    ∧ (st ≠ .absent → st ≠ .disabled → b.boost = .none →
        (r₀.zone.state = .emergency ∨ st ≠ .tracking ∨ (r₀.therm i).state ≠ .cool ∨ top ≤ b.grant
          ∨ r₀.headroom < top - b.grant) →
        exec (.boost tag p) s = .next (s.answered f [7]))
    ∧ (b.boost = .none → r₀.zone.state ≠ .emergency → st = .tracking → (r₀.therm i).state = .cool → b.grant < top →
        (top : Int) - b.grant ≤ r₀.headroom →
        ∃ r, exec (.boost tag p) s = .next (s.replied f [0] s.cfg r)
          ∧ r = { r₀ with sleds := r.sleds, queue := r.queue, boostList := r₀.boostList ++ [i], arbiterDue := r.arbiterDue }
          ∧ (∀ j, j ≠ i → r.sleds.get j = r₀.sleds.get j)
          ∧ r.sleds.get i =
              { r₀.sleds.get i with
                books := { b with loan := top - b.grant, boost := .running, boostFrames := byteAt p 1 }
                chan := { r₀.chan i with boostStep := true } }
          ∧ r.grantLevel s.cfg i = 0 ∧ r.target s.cfg i = 0
          ∧ (b.loan = 0 → r.headroom = r₀.headroom - (top - b.grant))
          ∧ r.queue.map (fun e => (e.sled, e.cls, e.wanted)) = r₀.queue.map (fun e => (e.sled, e.cls, e.wanted))
          ∧ ∀ e ∈ r.queue, e.sled = i → e.cls ≠ .floor → e.held = true)

/-! ## Requests: sleds, zone, lanes -/

/-- RELEASE_SLED in range in RUN: its checks in order; an ISOLATED sled becomes TRACKING, posts a SLED notice and joins the back
of its class if its grant is short, and its next boundary counts its reclaim from 0 (`recount`, assumption 25); an ADMITTING one
loses its contain pending mark (R71). -/
def Obligations.SledIsReleased : Prop :=
  ∀ (tag : Byte) (p : List Byte) (s : State), p.length = 1 → byteAt p 0 ≤ 23 → s.run.mode = .run →
    Ready (frame tag 0x28 p) s →
    let i := finAt 24 p 0
    let r₀ := s.run
    let l := r₀.life i
    let f := frame tag 0x28 p
    let place (e : Entry) : Sled × QClass := (e.sled, e.cls)
    let short := (r₀.books i).grant < costAt s.cfg i (r₀.books i).wanted
    (l.state = .absent ∨ l.state = .disabled → exec (.releaseSled tag p) s = .next (s.answered f [6]))
    ∧ (l.state ≠ .absent → l.state ≠ .disabled →
        (r₀.zone.state = .emergency ∨ l.state = .tracking ∨ l.state = .admitting ∧ l.containPending = false) →
        exec (.releaseSled tag p) s = .next (s.answered f [7]))
    ∧ (l.state = .admitting → l.containPending = true → r₀.zone.state ≠ .emergency →
        exec (.releaseSled tag p) s
          = .next (s.replied f [0] s.cfg (r₀.modLife i fun l => { l with containPending := false })))
    ∧ (l.state = .isolated → r₀.zone.state ≠ .emergency → r₀.queued i = false →
        ∃ r, exec (.releaseSled tag p) s = .next (s.replied f [0] s.cfg r)
          ∧ r = { r₀ with sleds := r.sleds, queue := r.queue, notices := r.notices, arbiterDue := r.arbiterDue }
          ∧ (∀ j, j ≠ i → r.sleds.get j = r₀.sleds.get j)
          ∧ r.sleds.get i =
              { r₀.sleds.get i with
                life := { l with state := .tracking, admission := none }
                books := { r₀.books i with recount := true } }
          ∧ r.notices = (if s.cfg.mask.sled then r₀.notices.insert (.sled i) else r₀.notices)
          ∧ (¬short → r.queue = r₀.queue)
          ∧ (short →
              ∃ front e back,
                r.queue = front ++ e :: back ∧ front ++ back = r₀.queue ∧ place e = (i, .cls (r₀.books i).cls)
                  ∧ e.wanted = (r₀.books i).wanted ∧ e.held = r₀.holds s.cfg i
                  ∧ (∀ x ∈ front, x.cls.rank ≤ (r₀.books i).cls.val + 1)
                  ∧ (∀ x ∈ back.head?, (r₀.books i).cls.val + 1 < x.cls.rank)
                  ∧ (e.held = false → r.arbiterDue = true)))

/-- CLEAR_ZONE ends an EMERGENCY with no enabled input asserted, in RELEASING or, with no release time, in NORMAL, and is
refused otherwise (R90); the entries keep their places, and one that is not held any more triggers the arbiter (R42, R43). RESET_LANE takes a FAILED lane to a first recovery attempt and is refused otherwise (R111); what SCL
and SDA read from then on is free (assumption 6). -/
def Obligations.ZoneAndLaneAreReset : Prop :=
  (∀ (tag : Byte) (s : State), Ready (frame tag 0x29 []) s →
    let r₀ := s.run
    let ms := s.cfg.globals.zoneReleaseMs
    let active (z : ZoneNo) : Prop :=
      s.cfg.globals.zoneEnable.get z = true
        ∧ (r₀.zone.filters.get z).accepted ≠ (s.cfg.globals.zonePolarity.get z).deasserted
    (r₀.zone.state ≠ .emergency ∨ active 0 ∨ active 1 →
      exec (.clearZone tag []) s = .next (s.answered (frame tag 0x29 []) [7]))
    ∧ (r₀.zone.state = .emergency → ¬active 0 → ¬active 1 →
        ∃ r, exec (.clearZone tag []) s = .next (s.replied (frame tag 0x29 []) [0] s.cfg r)
          ∧ r = { r₀ with zone := r.zone, notices := r.notices, queue := r.queue, arbiterDue := r.arbiterDue }
          ∧ r.zone =
              { r₀.zone with
                state := if ms = 0 then .normal else .releasing
                release := if ms = 0 then none else some ms }
          ∧ r.notices = (if s.cfg.mask.zone then r₀.notices.insert .zone else r₀.notices)
          ∧ r.queue.map (fun e => (e.sled, e.cls, e.wanted)) = r₀.queue.map (fun e => (e.sled, e.cls, e.wanted))
          ∧ (∀ e ∈ r.queue, e.held = r.entryHeld s.cfg e.sled e.cls) ∧ (r₀.unholds r → r.arbiterDue = true)))
  ∧ ∀ (tag : Byte) (p : List Byte) (s : State), p.length = 1 → byteAt p 0 ≤ 3 → Ready (frame tag 0x2A p) s →
      let n := finAt 4 p 0
      let g := s.cfg.globals
      ∃ scl sda, exec (.resetLane tag p) s
        = .next
          (if (s.run.lane n).state ≠ .failed then s.answered (frame tag 0x2A p) [7]
          else
            s.replied (frame tag 0x2A p) [0] s.cfg
              (s.run.spendFree.modLane n fun x =>
                { x with
                  state := .recover
                  attempts := 1
                  attempt := some (g.laneTimeoutMs.get n)
                  clock := g.laneSpeed.get n
                  scl := scl
                  sda := sda }))

/-! ## Requests: modes and the reset -/

/-- SET_MODE RUN: refused in RUN, and in SAFE while the severe record is valid; in CONFIG a failed validation is answered with
its item and changes the validation result only; in SAFE it moves to RUN, recomputes the held flags, has every sled count its
reclaim from 0 at its next boundary (`recount`, assumption 25) and posts a MODE notice (R152, R153, R156); an entry that is not
held any more triggers the arbiter (R42, R43). -/
def Obligations.RunIsRefusedOrRegained : Prop :=
  ∀ (tag : Byte) (s : State), Ready (frame tag 0x03 [1]) s →
    let f := frame tag 0x03 [1]
    let r₀ := s.run
    (r₀.mode = .run ∨ r₀.mode = .safe ∧ r₀.severe.first.isSome = true →
      exec (.setModeRun tag) s = .next (s.answered f [7]))
    ∧ (∀ k n, r₀.mode = .config → validationFault s.cfg = some (k, n) →
        exec (.setModeRun tag) s
          = .next (s.replied f ([10] ++ put8 k.code ++ put8 n) s.cfg { r₀ with validation := .failed k n }))
    ∧ (r₀.mode = .safe → r₀.severe.first = none →
        ∃ r, exec (.setModeRun tag) s = .next (s.replied f [0] s.cfg r)
          ∧ r = { r₀ with
                  mode := .run, cause := .request, sleds := r.sleds, queue := r.queue, notices := r.notices
                  arbiterDue := r.arbiterDue }
          ∧ (∀ i, r.sleds.get i = { r₀.sleds.get i with books := { r₀.books i with recount := true } })
          ∧ r.notices = (if s.cfg.mask.mode then r₀.notices.insert .mode else r₀.notices)
          ∧ r.queue.map (fun e => (e.sled, e.cls, e.wanted)) = r₀.queue.map (fun e => (e.sled, e.cls, e.wanted))
          ∧ (∀ e ∈ r.queue, e.held = r.entryHeld s.cfg e.sled e.cls) ∧ (r₀.unholds r → r.arbiterDue = true)
          ∧ r.alarm = false)

/-- Validation names the first item that fails, in the order level table, cost tables, ceilings, thresholds, script (R7, R22,
R78, R120, R122, R153). -/
def Obligations.ValidationFindsTheFirstFault : Prop :=
  ∀ c : Cfg,
    let dutyFalls (k : Nat) (h : k < 15) : Prop :=
      let a := c.levels.get ⟨k, by omega⟩
      let b := c.levels.get ⟨k + 1, by omega⟩
      b.admitTicks * (a.admitTicks + a.holdTicks) ≤ a.admitTicks * (b.admitTicks + b.holdTicks)
    let costsFall (i : Sled) : Prop :=
      (c.sled i).enable = true → ∀ k (h : k < 15), costAt c i ⟨k + 1, by omega⟩ ≤ costAt c i ⟨k, by omega⟩
    let inOrder (p : Probe) : Prop :=
      let x := c.probe p
      x.enable = true →
        (x.underLimit ≤ x.warmOver ∧ x.warmOver ≤ x.hotOver ∧ x.hotOver ≤ x.upperLimit)
          ∧ ∀ v ∈ [x.underLimit, x.warmOver, x.hotOver, x.upperLimit],
              match x.format with
              | .u8 => 0 ≤ v ∧ v ≤ 255
              | .u16 => 0 ≤ v ∧ v ≤ 65535
              | .s16 => -32768 ≤ v ∧ v ≤ 32767
    let fits (p : Probe) : Prop := (c.probe p).enable = true → segmentStart c p + 2 * (c.probe p).initCount ≤ 512
    let levelsPass := ∀ k h, dutyFalls k h
    let costsPass := ∀ i, costsFall i
    let ceilingsPass := c.globals.warmCeiling ≤ c.globals.hotCeiling
    let thresholdsPass := ∀ p, inOrder p
    (validationFault c = none ↔ levelsPass ∧ costsPass ∧ ceilingsPass ∧ thresholdsPass ∧ ∀ p, fits p)
    ∧ ∀ n, (validationFault c = some (.levels, n) ↔
          ∃ k h, n = k + 1 ∧ ¬dutyFalls k h ∧ ∀ j (hj : j < k), dutyFalls j (by omega))
        ∧ (validationFault c = some (.costs, n) ↔
            levelsPass ∧ ∃ i : Sled, n = i.val ∧ ¬costsFall i ∧ ∀ j, j < i → costsFall j)
        ∧ (validationFault c = some (.ceilings, n) ↔ n = 0 ∧ levelsPass ∧ costsPass ∧ ¬ceilingsPass)
        ∧ (validationFault c = some (.thresholds, n) ↔
            levelsPass ∧ costsPass ∧ ceilingsPass ∧ ∃ p : Probe, n = p.val ∧ ¬inOrder p ∧ ∀ q, q < p → inOrder q)
        ∧ (validationFault c = some (.script, n) ↔
            levelsPass ∧ costsPass ∧ ceilingsPass ∧ thresholdsPass
              ∧ ∃ p : Probe, n = p.val ∧ ¬fits p ∧ ∀ q, q < p → fits q)

/-- SET_MODE RUN from CONFIG, validation passed, from a queue in order and lanes that have served theirs, with no probe at work:
the mode is RUN, the lease starts, probe health is forgotten, and every STANDBY sled, S0 first, is admitted whole
(`Run.admitted`): ADMITTING with its marks, count and awaiting set fresh and its enabled probes' first due events made, or
TRACKING where it has no probe and its floor is reserved at once. On a FAILED lane each first due event is a LANE_FAILED failure,
handed on at once, whose PROBE_LOST may contain the sled or make the mode SAFE. A line held asserted gives its asserting edge,
counted, stamped and handed on by its role. The other sleds are as they were (R29, R64, R65, R73, R97 to R99, R113, R132, R134,
R154). Which of a sled's two probes is first, and the edge's place, are the model's choices, assumptions 5 and 12. -/
def Obligations.RunIsEnteredFromConfig : Prop :=
  ∀ (tag : Byte) (s : State), Ready (frame tag 0x03 [1]) s → s.run.mode = .config → validationFault s.cfg = none →
    s.run.queueSound → s.run.lanesServed → (∀ p, (s.run.probe p).run = .idle) →
    let r₀ := s.run
    let pool :=
      { r₀.pool with
        leaseState := if r₀.pool.leasePeriod = 0 then .none else .running
        leaseRemaining := r₀.pool.leasePeriod }
    let forgotten (x : ProbeRun) : ProbeRun :=
      { x with health := .unknown, failures := 0, lastReason := none, lastValue := none, lastClass := none, lastTime := none }
    let begun : Run :=
      { r₀ with
        mode := .run, cause := .request, validation := .passed, pool := pool
        probes := mapAt (fun _ x => forgotten x) r₀.probes }
    let failed (n : LaneNo) : Prop := (r₀.lane n).state = .failed
    let asserted (i : Sled) : Prop := (r₀.alert i).accepted ≠ (s.cfg.sled i).alertPolarity.deasserted
    let plain (i : Sled) : Prop := ¬failed (laneOfSled i) ∧ ¬((s.cfg.sled i).alertRole = .ready ∧ asserted i)
    ∃ (r : Run) (order : Sled → List Probe),
      exec (.setModeRun tag) s = .next (s.replied (frame tag 0x03 [1]) [0] s.cfg r)
      ∧ (∀ i, order i = [probeA i, probeB i] ∨ order i = [probeB i, probeA i])
      ∧ r = (allSleds.foldl (fun r i => if (r₀.life i).state = .standby then r.admitted s.cfg i (order i) else r) begun).post
          s.cfg .mode
      ∧ (r.mode = .run ∧ r.cause = .request
          ∨ r.mode = .safe ∧ r.cause = .fault ∧ (∃ n, failed n) ∧ s.cfg.routing.get FaultClass.probeLost.index = .safe)
      ∧ r.validation = .passed ∧ r.pool = pool ∧ r.zone = r₀.zone ∧ r.clock = r₀.clock
      ∧ (s.cfg.mask.mode = true → r.notices.mode = true)
      ∧ ((∀ n, ¬failed n) → r.severe = r₀.severe ∧ r.advisory = r₀.advisory)
      ∧ (∀ i, (r₀.life i).state ≠ .standby →
          r.life i = r₀.life i ∧ r.therm i = r₀.therm i ∧ r.alert i = r₀.alert i
            ∧ ((∀ n, ¬failed n) ∨ r₀.booksSound s.cfg → r.sleds.get i = r₀.sleds.get i))
      ∧ (∀ p, plain (sledOfProbe p) →
          (r.probe p).health = .unknown ∧ (r.probe p).failures = 0 ∧ (r.probe p).lastClass = none)
      ∧ ∀ i, (r₀.life i).state = .standby →
          let a := (s.cfg.probe (probeA i)).enable
          let b := (s.cfg.probe (probeB i)).enable
          let tracks := (r.books i).floorReserved && !a && !b
          let y := r₀.alert i
          (plain i →
            r.life i =
              { r₀.life i with
                state := if tracks then .tracking else .admitting
                admission := if tracks then none else some s.cfg.globals.admitLimitMs
                admitTimeout := false
                awaitA := a
                awaitB := b
                containPending := false })
          ∧ (s.cfg.mask.sled = true → r.notices.sled.get i = true)
          ∧ (y.filtered = false →
              r.alert i =
                if asserted i then
                  { y with
                    filtered := true
                    count := if y.count < 65535 then y.count + 1 else y.count
                    lastTime := some r₀.clock.stamp
                    seen := true
                    width := 0 }
                else y)
          ∧ (∀ p, p = probeA i ∨ p = probeB i → (s.cfg.probe p).enable = true →
              let x := r.probe p
              x.needsInit = true ∧ x.overruns = 0 ∧ x.due = some (s.cfg.probe p).pollMs
              ∧ (failed (laneOfSled i) → (r₀.lane (laneOfSled i)).poll = .absent →
                  x.run = .idle ∧ x.failures = 1 ∧ x.lastReason = some .laneFailed ∧ x.lastTime = some r₀.clock.stamp
                    ∧ x.health = if (s.cfg.probe p).lostLimit ≤ 1 then .lost else .suspect))

/-- SET_MODE CONFIG from RUN or SAFE: books, queue and lists are emptied (wants and classes kept), polls end or abort, due
timers stop, health is forgotten, sleds in service become STANDBY with their lines at L15 and their heat forgotten, SLED and
POOL notices leave; faults, zone, counts, settings and configuration are kept. A carrier set to IDLE has 0 ticks and keeps its
latched lengths, and the poll queues are empty before the polls are aborted (the model's choices, assumptions 13 and 18). In
CONFIG it is refused, and SET_MODE SAFE always is (R152, R157). -/
def Obligations.ConfigIsEntered : Prop :=
  (∀ (tag : Byte) (s : State), Ready (frame tag 0x03 [0]) s →
    let f := frame tag 0x03 [0]
    let r₀ := s.run
    (r₀.mode = .config → exec (.setModeConfig tag) s = .next (s.answered f [7]))
    ∧ (r₀.mode ≠ .config →
        ∃ r, exec (.setModeConfig tag) s = .next (s.replied f [0] s.cfg r)
          ∧ r = { r₀ with
                  mode := .config, cause := .request, pool := r.pool, sleds := r.sleds, queue := [], raiseOrder := []
                  boostList := [], lanes := r.lanes, probes := r.probes, notices := r.notices }
          ∧ r.pool = { r₀.pool with leaseState := .none, leaseRemaining := 0 }
          ∧ r.notices =
              { r₀.notices with
                sled := tabulate fun _ => false, pool := false, mode := s.cfg.mask.mode || r₀.notices.mode }
          ∧ (∀ i, r.books i = { Books.initial with wanted := (r₀.books i).wanted, cls := (r₀.books i).cls })
          ∧ (∀ i, (r₀.life i).state.inService = false →
              r.life i = r₀.life i ∧ r.chan i = r₀.chan i ∧ r.therm i = r₀.therm i ∧ r.alert i = r₀.alert i)
          ∧ (∀ i, (r₀.life i).state.inService = true →
              r.life i =
                { r₀.life i with
                  state := .standby, admission := none, admitTimeout := false, awaitA := false, awaitB := false
                  containPending := false }
              ∧ r.chan i =
                  { r₀.chan i with
                    active := 15, dwell := s.cfg.globals.rampFrames, boostStep := false, carrier := .idle, ticks := 0 }
              ∧ r.therm i = .initial
              ∧ r.alert i =
                  (let a := r₀.alert i
                   if a.filtered then
                     { a with
                       filtered := false, lastWidth := a.width, longest := max a.longest a.width, width := 0
                       sustained := false, stuck := false, tickOwed := false }
                   else a))
          ∧ (∀ n, r.lane n =
              (let x := r₀.lane n
               match x.poll with
               | .poll q =>
                 if q.phase = .settle ∨ q.phase = .wait then { x with queue := [], state := .idle, poll := .absent }
                 else { x with queue := [], poll := .aborting }
               | .absent | .aborting => { x with queue := [] }))
          ∧ (∀ p, r.probe p =
              { r₀.probe p with
                run := (r.probe p).run, due := none, health := .unknown, failures := 0, lastReason := none
                lastValue := none, lastClass := none, lastTime := none })
          ∧ (∀ p, (r₀.probe p).run ≠ .active → (r.probe p).run = .idle)
          ∧ (∀ n q, (r₀.lane n).poll = .poll q → (r.probe q.probe).run = .idle)))
  ∧ ∀ (tag : Byte) (s : State), Ready (frame tag 0x03 [2]) s →
      exec (.setModeSafe tag [2]) s = .next (s.answered (frame tag 0x03 [2]) [7])

/-- RESET is accepted in every mode: its reply joins the queue, marked, and no further request is taken. When that reply has
been sent the soft reset takes effect: configuration, pool settings, link rate and timestamp are kept, everything else returns
to its value after reset, and a MODE notice is posted (R158, R159). That no event stays due, and that SCL and SDA are high and
the lanes' clock rate is 100 kHz, are the model's choices (assumptions 21 and 9). -/
def Obligations.ResetTakesEffectAfterItsReply : Prop :=
  (∀ (tag : Byte) (s : State), Ready (frame tag 0x04 []) s →
    exec (.reset tag []) s
      = .next (State.kick
          { s with
            link := { s.link with
              rx := s.link.rx.tail
              replies := s.link.replies ++ [{ frame := frame tag 0x84 [0], isReset := true }]
              resetAccepted := true } }))
  ∧ ∀ (f : Frame) (s : State), s.inReset = false → s.link.tx = some { frame := f, isReset := true } →
      let r₀ := s.run
      let pins (i : Sled) := (r₀.life i).prs
      let lines (i : Sled) := (r₀.alert i).pin
      let zones (z : ZoneNo) := (r₀.zone.filters.get z).pin
      let r := Run.initial s.cfg .softReset { r₀.clock with prescaleCount := 0, frame := 0 }
        { r₀.pool with leaseState := .none, leaseRemaining := 0 } pins lines zones true r₀.free
      exec .frameSent s
        = .next (State.kick
            { s with
              due := []
              link := Link.initial s.link.rate
              run := { r with notices := { NoticeSet.empty with mode := s.cfg.mask.mode } } })

/-- At the end of a frame the transmitter takes the front reply; with none, the first pending notice, its content read at that
moment, unless a RESET has been accepted; with neither it stays IDLE (R171, R173, Tables 71 and 79). A FRAME_SENT that is
commanded while the transmitter is IDLE is no event and changes nothing, which is the model's choice, assumption 1. -/
def Obligations.FrameSentTakesTheNextFrame : Prop :=
  (∀ (o : Outgoing) (s : State), s.inReset = false → s.run.arbiterDue = false → s.link.tx = some o → o.isReset = false →
    (∀ q rest, s.link.replies = q :: rest →
      exec .frameSent s = .next { s with link := { s.link with tx := some q, replies := rest } })
    ∧ (s.link.replies = [] → s.link.resetAccepted = true ∨ s.run.notices.first = none →
        exec .frameSent s = .next { s with link := { s.link with tx := none } })
    ∧ (∀ k, s.link.replies = [] → s.link.resetAccepted = false → s.run.notices.first = some k →
        exec .frameSent s
          = .next
            { s with
              link := { s.link with tx := some { frame := noticeFrame s.cfg s.run k, isReset := false } }
              run := { s.run with notices := s.run.notices.erase k } }))
  ∧ (∀ s : State, s.inReset = false → s.link.tx = none → exec .frameSent s = .next s)
  ∧ (∀ (n : NoticeSet),
      (∀ i, n.first = some (.sled i) ↔ n.sled.get i = true ∧ ∀ j, j < i → n.sled.get j = false)
      ∧ ((∀ i, n.sled.get i = false) →
          n.first
            = if n.pool then some .pool
              else if n.severe then some (.fault .severe)
              else if n.advisory then some (.fault .advisory)
              else if n.zone then some .zone
              else if n.mode then some .mode
              else none))
  ∧ ∀ (c : Cfg) (r : Run),
      (∀ i, noticeFrame c r (.sled i)
        = frame 0 0x60
            (put8 i.val ++ put8 (r.life i).state.code ++ put8 (r.therm i).state.code ++ put8 (r.ceiling c i).val
              ++ put8 (r.chan i).active.val ++ put8 (r.target c i).val ++ put16 (r.books i).grant))
      ∧ noticeFrame c r .pool = frame 0 0x61 (put16 r.pool.size ++ putSigned16 r.headroom ++ put8 r.pool.leaseState.code)
      ∧ noticeFrame c r (.fault .severe) = frame 0 0x62 (put8 0 ++ faultBlock r.severe)
      ∧ noticeFrame c r (.fault .advisory) = frame 0 0x62 (put8 1 ++ faultBlock r.advisory)
      ∧ noticeFrame c r .zone
          = frame 0 0x63 (put8 r.zone.state.code ++ putFlag (r.zoneAsserted c 0) ++ putFlag (r.zoneAsserted c 1))
      ∧ noticeFrame c r .mode = frame 0 0x64 (put8 r.mode.code ++ put8 r.cause.code)

/-- POWER_ON and RST_N_LOW hold every block at its power-on values, with the strap as last sampled and nothing due;
RESET_RELEASE ends a reset in force, samples the strap, starts the settle counts and posts a MODE notice, and does nothing
otherwise. With the pins high and the strap low the state is then the one after reset (R151). The pins and the strap, that
nothing is due, that the strap's last sample stays, and that a release without a reset does nothing are the model's choices
(assumptions 8, 9 and 21). -/
def Obligations.PinResetsRestoreEveryValue : Prop :=
  (∀ (c : Instr) (s : State), c = .powerOn ∨ c = .rstNLow →
    exec c s
      = .next
        { s with
          due := []
          inReset := true
          link := Link.initial s.link.rate
          cfg := .default
          run := .initial .default .pinReset .start .initial (fun i => (s.run.life i).prs) (fun i => (s.run.alert i).pin)
            (fun z => (s.run.zone.filters.get z).pin) false s.run.free })
  ∧ (∀ (rate : Pin) (s : State), s.inReset = false → exec (.resetRelease rate) s = .next s)
  ∧ (∀ (rate : Pin) (s : State), s.inReset = true →
      exec (.resetRelease rate) s
        = .next
          { s with
            due := []
            inReset := false
            cfg := .default
            link := { Link.initial rate with tx := some { frame := frame 0 0x64 [0, 0], isReset := false } }
            run := .initial .default .pinReset .start .initial (fun i => (s.run.life i).prs) (fun i => (s.run.alert i).pin)
              (fun z => (s.run.zone.filters.get z).pin) true s.run.free })
  ∧ ∀ s : State, s.inReset = true → (∀ i, (s.run.life i).prs = .high ∧ (s.run.alert i).pin = .high) →
      (∀ z, (s.run.zone.filters.get z).pin = .high) →
      exec (.resetRelease .low) s
        = .next { State.reset with pending := s.pending, run := { State.reset.run with free := s.run.free } }

/-! ## Events of the link -/

/-- LINK_BYTE_RECEIVED moves the parser as Table 68 states, with the gap count (R162, R163); FRAME_RECEIVED is the last byte of
a frame and FRAME_LENGTH_DISCARD a LEN out of range; LINK_GAP_EXPIRY discards the frame in progress with detail TRUNCATED
(R164). That LINK_BYTE_RECEIVED also takes the byte that ends a frame or is a LEN out of range, with the effect of those two
commands, and that they act in those states of the parser only, are the model's choices, assumptions 19 and 1; the gap count's
expiry is taken when its command comes, whatever is left of the count, and does not occur where the count does not run
(assumption 1). -/
def Obligations.LinkEventsAreParsed : Prop :=
  ∀ (b : Byte) (s : State), s.inReset = false → s.atRest →
    let goes (p : Parser) (gap : Count) : State := { s with link := { s.link with parser := p, gap := gap } }
    let restarted := some 3
    (s.link.parser = .hunt →
      exec (.linkByteReceived b) s = .next (if b = 0xC3#8 then goes .length restarted else s))
    ∧ (s.link.parser = .length → 2 ≤ b.toNat → b.toNat ≤ 126 →
        exec (.linkByteReceived b) s = .next (goes (.body b []) restarted)
          ∧ exec (.frameLengthDiscard b) s = .next s)
    ∧ (s.link.parser = .length → (b.toNat < 2 ∨ 126 < b.toNat) →
        exec (.linkByteReceived b) s = .next ((goes .hunt none).raiseLink .length).finish
          ∧ exec (.frameLengthDiscard b) s = .next ((goes .hunt none).raiseLink .length).finish)
    ∧ (∀ len kept, s.link.parser = .body len kept →
        exec (.linkByteReceived b) s
          = .next
            (if kept.length + 1 < len.toNat then goes (.body len (kept ++ [b])) restarted
            else goes (.crcHigh len (kept ++ [b])) restarted))
    ∧ (∀ len kept, s.link.parser = .crcHigh len kept →
        exec (.linkByteReceived b) s = .next (goes (.crcLow len kept b) restarted))
    ∧ (∀ len kept high, s.link.parser = .crcLow len kept high →
        let t := goes .hunt none
        (crcBytes (len :: kept) ≠ [high, b] →
          exec (.linkByteReceived b) s = .next (t.raiseLink .crc).finish
            ∧ exec (.frameReceived b) s = .next (t.raiseLink .crc).finish)
        ∧ (crcBytes (len :: kept) = [high, b] → 4 ≤ s.link.rx.length →
            exec (.linkByteReceived b) s = .next (t.raiseLink .overrun).finish
              ∧ exec (.frameReceived b) s = .next (t.raiseLink .overrun).finish)
        ∧ (∀ tag type payload, crcBytes (len :: kept) = [high, b] → s.link.rx.length < 4 → kept = tag :: type :: payload →
            let u : State := { t with link := { t.link with rx := s.link.rx ++ [frame tag type payload] } }
            exec (.linkByteReceived b) s = .next u ∧ exec (.frameReceived b) s = .next u))
    ∧ (s.link.parser.atLastByte = false → exec (.frameReceived b) s = .next s)
    ∧ (s.link.parser ≠ .length → exec (.frameLengthDiscard b) s = .next s)
    ∧ (s.link.gap.isSome = true → exec .linkGapExpiry s = .next ((goes .hunt none).raiseLink .truncated).finish)
    ∧ (s.link.gap = none → exec .linkGapExpiry s = .next s)

/-! ## Events of the throttle frame -/

/-- At a sled's boundary the dwell falls, the level is settled against the target as it stands, a loosening loads the dwell, the
boost step mark is cleared, and the carrier restarts at the new level, IDLE for an ABSENT sled (assumption 13), also where the
boundary is commanded away from its offset (assumption 1); no other sled's level, dwell or carrier changes, and nothing of
lanes, probes, zone, mode, lease or clock (R4, R9, R10, R13). -/
def Obligations.BoundarySettlesTheLevel : Prop :=
  ∀ (i : Sled) (s : State), s.inReset = false → (s.run.life i).state ≠ .disabled →
    let x := s.run.chan i
    let target := s.run.target s.cfg i
    let dwell := x.dwell - 1
    let level : Level :=
      if x.active ≤ target ∨ x.boostStep = true then target else if dwell = 0 then x.active - 1 else x.active
    let e := s.cfg.levels.get level
    let idle : Bool := decide ((s.run.life i).state = .absent)
    ∃ t, exec (.boundaryEvent i) s = .next t
      ∧ t.run.chan i =
          { active := level
            dwell := if level < x.active then s.cfg.globals.rampFrames else dwell
            boostStep := false
            carrier := if idle then .idle else .admitting
            ticks := if idle then 0 else e.admitTicks
            latchedAdmit := e.admitTicks
            latchedHold := e.holdTicks }
      ∧ (target ≤ level ∨ x.active ≤ target) ∧ (x.active ≤ target → level = target)
      ∧ (∀ j, j ≠ i → t.run.chan j = { s.run.chan j with boostStep := (t.run.chan j).boostStep })
      ∧ t.run.lanes = s.run.lanes ∧ t.run.probes = s.run.probes ∧ t.run.zone = s.run.zone ∧ t.run.mode = s.run.mode
      ∧ t.run.pool = s.run.pool ∧ t.run.clock = s.run.clock ∧ t.cfg = s.cfg
      ∧ ∀ j, t.run.therm j = s.run.therm j ∧ t.run.alert j = s.run.alert j

/-- A DISABLED sled has no boundary (R4). At every other one, commanded at its offset or away from it (assumption 1), the
draining figure returns to headroom, a REARM boost ends, a RUNNING one counts and on its last frame drains its loan, and the
reclaim counter, by the state at the boundary alone (assumption 28), counts, from 0 at the first boundary after a release or
after RUN is regained (`recount`, assumption 25), or is 0, or on reaching its limit cuts the grant to the cost at the ceiling
into draining; a sled so cut is queued; the end of a RUNNING boost and the cut bring the held flags up to date; a return of units
triggers the arbiter, and so does an entry that is not held any more (R34, R42, R43, R50, R51, R55). -/
def Obligations.BoundaryAdvancesTheBooks : Prop :=
  ∀ (i : Sled) (s : State), s.inReset = false →
    let r₀ := s.run
    let b := r₀.books i
    let st := (r₀.life i).state
    let ended := b.boost = .running ∧ b.boostFrames ≤ 1
    let loan := if ended then 0 else b.loan
    let ceiling := r₀.ceiling s.cfg i
    let level : Level := (loosest s.cfg i 0 (b.grant + loan : Nat)).getD 15
    let counts := st = .tracking ∧ level < ceiling ∧ r₀.mode = .run ∧ r₀.zone.state ≠ .emergency
    let counted := if b.recount then 0 else b.reclaim
    let full := counts ∧ s.cfg.globals.reclaimFrames ≤ counted + 1
    let cut := if full then b.grant - costAt s.cfg i ceiling else 0
    (st = .disabled → exec (.boundaryEvent i) s = .next s)
    ∧ (st ≠ .disabled →
        ∃ r, exec (.boundaryEvent i) s = .next (s.after r)
          ∧ r.books i =
              { b with
                grant := b.grant - cut
                loan := loan
                draining := (if ended then b.loan else 0) + cut
                boost := match b.boost with
                  | .none | .rearm => .none
                  | .running => if ended then .rearm else .running
                boostFrames := if b.boost = .running then b.boostFrames - 1 else b.boostFrames
                reclaim := if counts ∧ ¬full then counted + 1 else 0
                recount := false }
          ∧ r = { r₀ with sleds := r.sleds, queue := r.queue, boostList := r.boostList, arbiterDue := r.arbiterDue }
          ∧ (∀ j, j ≠ i → r.sleds.get j = r₀.sleds.get j)
          ∧ r.life i = r₀.life i ∧ r.therm i = r₀.therm i ∧ r.alert i = r₀.alert i
          ∧ r.boostList = (if ended then r₀.boostList.filter fun j => j != i else r₀.boostList)
          ∧ (0 < b.draining ∨ r₀.unholds r → r.arbiterDue = true)
          ∧ (ended ∨ 0 < cut → ∀ e ∈ r.queue, e.held = r.entryHeld s.cfg e.sled e.cls)
          ∧ (0 < cut → b.grant - cut < r.wantCost s.cfg i → r.queued i = true)
          ∧ (cut = 0 → r.queue.map (fun e => (e.sled, e.cls, e.wanted)) = r₀.queue.map (fun e => (e.sled, e.cls, e.wanted))))

/-- The sections of a running carrier follow each other: HOLD after ADMIT with a latched hold above 0, ADMIT after ADMIT without
one, ADMIT after HOLD (R9). Nothing else changes. The end of a section is taken when its command comes, whatever is left of the
section's ticks, and on an IDLE carrier, which has no section to end, it changes nothing: the model's choices, assumption 1. -/
def Obligations.CarrierSectionsFollow : Prop :=
  ∀ (i : Sled) (s : State), s.inReset = false → s.atRest →
    let x := s.run.chan i
    let becomes (k : Section) (ticks : Nat) : State :=
      { s with run := s.run.modChan i fun x => { x with carrier := k, ticks := ticks } }
    (x.carrier = .admitting → 0 < x.latchedHold →
      exec (.carrierSectionEnd i) s = .next (becomes .holding x.latchedHold))
    ∧ (x.carrier = .admitting → x.latchedHold = 0 →
        exec (.carrierSectionEnd i) s = .next (becomes .admitting x.latchedAdmit))
    ∧ (x.carrier = .holding → exec (.carrierSectionEnd i) s = .next (becomes .admitting x.latchedAdmit))
    ∧ (x.carrier = .idle → exec (.carrierSectionEnd i) s = .next s)

/-- At the lease's expiry the pool falls back to the larger of the fallback pool and the floors held, a deficit is cut into
draining, the lease is LAPSED, LEASE_LAPSED is taken with the deficit as its detail, and a POOL notice is posted; a lease that
does not run does not expire (R30). In its own turn the part takes the expiry as the count's last tick, so a lease that was
started or renewed before that tick is not due to expire (assumption 24). A command of the expiry is taken when it comes, whatever
is left of the count (assumption 1). -/
def Obligations.LeaseExpires : Prop :=
  ∀ s : State, s.inReset = false →
    let r₀ := s.run
    let size := max r₀.pool.fallback (r₀.floorsHeld s.cfg)
    let deficit := r₀.sumGrants + r₀.sumLoans - size
    (isDue s .leaseExpiry = true ↔ r₀.pool.leaseState = .running ∧ r₀.mode ≠ .config ∧ r₀.pool.leaseRemaining ≤ 1)
    ∧ (r₀.pool.leaseState = .running → r₀.mode ≠ .config →
      ∃ r u, exec .leaseExpiry s = .next (s.after r)
        ∧ r.pool = { r₀.pool with size := size, leaseState := .lapsed, leaseRemaining := 0 }
        ∧ u = r₀.resizePool s.cfg size
        ∧ r = ({ u with pool := r.pool }.raise s.cfg .leaseLapsed .pool deficit).post s.cfg .pool
        ∧ (s.cfg.mask.pool = true → r.notices.pool = true)
        ∧ (∀ i, (r.books i).grant + (r.books i).loan + (r.books i).draining
            = (r₀.books i).grant + (r₀.books i).loan + (r₀.books i).draining)
        ∧ (r₀.pool.size < size → r.arbiterDue = true))
    ∧ (r₀.pool.leaseState ≠ .running ∨ r₀.mode = .config → exec .leaseExpiry s = .next s)

/-! ## Events of the input pins -/

/-- A change of a presence or zone pin is sampled and starts that filter's settle count; an alert sample that differs, at a
T-tick or between two (assumption 1), restarts the run count at 1; a level that is no change is no event; in reset the level is
the pin's and no more (R62, R87, R96; assumption 21). -/
def Obligations.InputChangesStartTheirFilters : Prop :=
  ∀ (s : State) (level : Pin), s.atRest →
    (∀ i,
      (s.inReset = false → (s.run.life i).prs ≠ level →
        exec (.presenceLineChange i level) s
          = .next { s with run := s.run.modLife i fun l =>
              { l with prs := level, settle := some s.cfg.globals.presenceSettleMs } })
      ∧ (s.inReset = false → (s.run.life i).prs = level → exec (.presenceLineChange i level) s = .next s)
      ∧ (s.inReset = true →
          exec (.presenceLineChange i level) s = .next { s with run := s.run.modLife i fun l => { l with prs := level } }))
    ∧ (∀ z,
      let filtersTo (f : ZoneFilter → ZoneFilter) : State :=
        { s with run := { s.run with zone := { s.run.zone with filters := modAt z f s.run.zone.filters } } }
      (s.inReset = false → (s.run.zone.filters.get z).pin ≠ level →
        exec (.zoneInputChange z level) s
          = .next (filtersTo fun f => { f with pin := level, settle := some s.cfg.globals.zoneSettleMs }))
      ∧ (s.inReset = false → (s.run.zone.filters.get z).pin = level → exec (.zoneInputChange z level) s = .next s)
      ∧ (s.inReset = true → exec (.zoneInputChange z level) s = .next (filtersTo fun f => { f with pin := level })))
    ∧ ∀ i,
      (s.inReset = true ∨ (s.run.alert i).lastSample = level →
        exec (.alertSampleChange i level) s = .next { s with run := s.run.modAlert i fun a => { a with pin := level } })
      ∧ (s.inReset = false → (s.run.alert i).lastSample ≠ level →
          let r := s.run.modAlert i fun a => { a with pin := level, lastSample := level, run := 1 }
          (1 < s.cfg.globals.alertFilter ∨ (s.run.alert i).accepted = level →
            exec (.alertSampleChange i level) s = .next { s with run := r })
          ∧ (s.cfg.globals.alertFilter ≤ 1 → (s.run.alert i).accepted ≠ level →
              exec (.alertSampleChange i level) s = exec (.alertLevelAccepted i) { s with run := r }))

/-- The presence settle count expires. The level that is the accepted one makes no event; for a DISABLED sled the new level is
accepted and no more; a sled seated in CONFIG becomes STANDBY, and one seated in RUN or SAFE, the raise queue in order, the
lanes served and its probes idle, is admitted (`Run.admitted`): its FLOOR entry joins behind those that wait and is served as it
joins, and its enabled probes have their first due events, which on a FAILED lane are LANE_FAILED failures, handed on at once. A
line held asserted gives its asserting edge, counted, stamped and handed on by its role (R25, R38, R39, R44, R62 to R65, R97 to
R99, R102, R113, R134). Which probe is first, and the edge's place, are the model's choices, assumptions 5 and 12. A count that
does not run does not expire; one that runs expires when its command comes, whatever is left of it (assumption 1). -/
def Obligations.PresenceIsAccepted : Prop :=
  ∀ (i : Sled) (s : State), s.inReset = false → s.atRest →
    let l := s.run.life i
    let now := decide (l.prs = .low)
    let accepted (st : SledState) : State :=
      { s with run := s.run.modLife i fun l => { l with settle := none, present := now, state := st } }
    (l.settle = none → exec (.presenceSettleExpiry i) s = .next s)
    ∧ (l.settle ≠ none → l.present = now ∨ l.state = .disabled →
        exec (.presenceSettleExpiry i) s = .next (accepted l.state))
    ∧ (l.settle ≠ none → l.state = .absent → l.present = false → l.prs = .low → s.run.mode = .config →
        exec (.presenceSettleExpiry i) s = .next (accepted .standby))
    ∧ (l.settle ≠ none → l.state = .absent → l.present = false → l.prs = .low → s.run.mode ≠ .config →
        s.run.queueSound → s.run.lanesServed → (s.run.probe (probeA i)).run = .idle → (s.run.probe (probeB i)).run = .idle →
        let a := (s.cfg.probe (probeA i)).enable
        let b := (s.cfg.probe (probeB i)).enable
        let cost : Int := floorCost s.cfg i
        let free := s.run.headroom + (s.run.books i).grant
        let waiting := s.run.queue.filter fun e => e.cls == .floor
        let rest := s.run.queue.filter fun e => e.cls != .floor
        let next : Int := (waiting.head?.map fun e => (floorCost s.cfg e.sled : Int)).getD cost
        let place (e : Entry) : Sled × QClass × Bool := (e.sled, e.cls, e.held)
        let failed := (s.run.lane (laneOfSled i)).state = .failed
        let y := s.run.alert i
        let asserted := y.accepted ≠ (s.cfg.sled i).alertPolarity.deasserted
        let begun := s.run.modLife i fun l => { l with settle := none, present := true }
        let u := begun.takeSeat s.cfg i
        ∃ (r : Run) (order : List Probe), exec (.presenceSettleExpiry i) s = .next (s.after r)
          ∧ (order = [probeA i, probeB i] ∨ order = [probeB i, probeA i]) ∧ r = begun.admitted s.cfg i order
          ∧ (let reserved := (u.books i).floorReserved
             let tracks := reserved && !a && !b
             ((waiting.map fun e => (floorCost s.cfg e.sled : Int)).sum + cost ≤ free → reserved = true)
             ∧ (free < next →
                 reserved = false ∧ (∀ j, j ≠ i → u.sleds.get j = s.run.sleds.get j)
                   ∧ u.queue.map place = (waiting.map place ++ (i, .floor, false) :: rest.map place))
             ∧ u.life i =
                 { l with
                   settle := none, present := true, state := if tracks then .tracking else .admitting
                   admission := if tracks then none else some s.cfg.globals.admitLimitMs
                   admitTimeout := false, awaitA := a, awaitB := b, containPending := false }
             ∧ (tracks = false → (u.books i).grant = if reserved then floorCost s.cfg i else 0)
             ∧ (reserved = false →
                 ∃ front e back, u.queue = front ++ e :: back ∧ e.sled = i ∧ e.cls = .floor ∧ e.held = false
                   ∧ (∀ x ∈ front, x.cls = .floor ∧ ∃ y ∈ waiting, y.sled = x.sled) ∧ ∀ x ∈ back, x.cls ≠ .floor)
             ∧ (reserved = true → i ∈ u.raiseOrder))
          ∧ (s.run.queue = [] → ∀ j, j ≠ i → u.sleds.get j = s.run.sleds.get j)
          ∧ (¬failed → ¬asserted → y.filtered = false → r.sleds = u.sleds ∧ r.queue = u.queue)
          ∧ (∀ j, j ≠ i → r.therm j = s.run.therm j ∧ r.alert j = s.run.alert j)
          ∧ (y.filtered = false →
              r.alert i =
                if asserted then
                  { y with
                    filtered := true
                    count := if y.count < 65535 then y.count + 1 else y.count
                    lastTime := some s.run.clock.stamp
                    seen := true
                    width := 0 }
                else y)
          ∧ (∀ p, p = probeA i ∨ p = probeB i → (s.cfg.probe p).enable = true →
              let x := s.run.probe p
              let z := r.probe p
              let failures := if x.failures < 255 then x.failures + 1 else x.failures
              z.needsInit = true ∧ z.overruns = 0 ∧ z.due = some (s.cfg.probe p).pollMs
              ∧ (failed → (s.run.lane (laneOfSled i)).poll = .absent →
                  z.run = .idle ∧ z.failures = failures ∧ z.lastReason = some .laneFailed
                    ∧ z.lastTime = some s.run.clock.stamp
                    ∧ z.health = if (s.cfg.probe p).lostLimit ≤ failures then .lost else .suspect))
          ∧ (s.cfg.mask.sled = true → r.notices.sled.get i = true))

/-- The GONE teardown: a sled whose slot is accepted as empty becomes ABSENT, its books and its places in queue and lists go,
its line is at L15 with the carrier IDLE, its probes leave their lane's queue and their poll is aborted, which frees a lane in
SETTLE or WAIT for the probes that wait; its alert measurements and its heat return to their first values, and a SLED notice is
posted outside CONFIG; no other sled's records change. That an IDLE carrier has 0 ticks and keeps its latched lengths, and that
the queue is left before the abort, are the model's choices, assumptions 13 and 18, and so is an expiry before its time,
assumption 1 (R35, R63, R67, R68, R86, R104, R115, R116). -/
def Obligations.RemovedSledIsTornDown : Prop :=
  ∀ (i : Sled) (s : State), s.inReset = false →
    let r₀ := s.run
    let l := r₀.life i
    let b := r₀.books i
    let a := r₀.alert i
    l.settle ≠ none → l.prs = .high → l.present = true → l.state ≠ .disabled → l.state ≠ .absent →
    ∃ r, exec (.presenceSettleExpiry i) s = .next (s.after r)
      ∧ r = { r₀ with
              sleds := r.sleds, queue := r₀.queue.filter fun e => e.sled != i
              raiseOrder := r₀.raiseOrder.filter fun j => j != i, boostList := r₀.boostList.filter fun j => j != i
              arbiterDue := r.arbiterDue, lanes := r.lanes, probes := r.probes, notices := r.notices, free := r.free }
      ∧ (∀ j, j ≠ i → r.sleds.get j = r₀.sleds.get j)
      ∧ r.life i =
          { l with
            state := .absent, present := false, settle := none, admission := none, admitTimeout := false
            awaitA := false, awaitB := false, containPending := false }
      ∧ r.books i = .initial ∧ r.therm i = .initial
      ∧ r.chan i =
          { r₀.chan i with
            active := 15, dwell := s.cfg.globals.rampFrames, boostStep := false, carrier := .idle, ticks := 0 }
      ∧ r.alert i = { Alert.initial (s.cfg.sled i).alertPolarity a.pin with
            lastSample := a.lastSample, run := a.run, accepted := a.accepted }
      ∧ r.headroom = r₀.headroom + b.grant + b.loan + b.draining
      ∧ (0 < b.grant + b.loan + b.draining → r.arbiterDue = true)
      ∧ (∀ p, sledOfProbe p = i →
          r.probe p =
            { r₀.probe p with
              run := (r.probe p).run, due := none, health := .unknown, failures := 0, lastReason := none
              lastValue := none, lastClass := none, lastTime := none })
      ∧ (let y := r₀.lane (laneOfSled i)
         let queue := y.queue.filter fun p => p != probeA i && p != probeB i
         let own := ∃ q, y.poll = .poll q ∧ sledOfProbe q.probe = i
         (∀ p, sledOfProbe p = i → (¬∃ q, y.poll = .poll q ∧ q.probe = p) →
             (r.probe p).run = if (r₀.probe p).run = .queued then .idle else (r₀.probe p).run)
         ∧ (∀ q, y.poll = .poll q → sledOfProbe q.probe = i → (r.probe q.probe).run = .idle)
         ∧ (¬own → r.lane (laneOfSled i) = { y with queue := queue } ∧ ∀ p, sledOfProbe p ≠ i → r.probe p = r₀.probe p)
         ∧ ∀ q, y.poll = .poll q → sledOfProbe q.probe = i →
             (q.phase = .init ∨ q.phase = .read →
               r.lane (laneOfSled i) = { y with poll := .aborting, queue := queue }
                 ∧ ∀ p, sledOfProbe p ≠ i → r.probe p = r₀.probe p)
             ∧ (q.phase = .settle ∨ q.phase = .wait →
                 (queue = [] →
                   r.lane (laneOfSled i) = { y with state := .idle, poll := .absent, queue := [] }
                     ∧ ∀ p, sledOfProbe p ≠ i → r.probe p = r₀.probe p)
                 ∧ ∀ p back, queue = p :: back →
                     (∃ u, (r.lane (laneOfSled i)).poll = .poll u ∧ u.probe = p)
                       ∧ (r.lane (laneOfSled i)).state = .busy ∧ (r.lane (laneOfSled i)).queue = back
                       ∧ (sledOfProbe p ≠ i → r.probe p = { r₀.probe p with run := .active })
                       ∧ ∀ k, sledOfProbe k ≠ i → k ≠ p → r.probe k = r₀.probe k))
      ∧ (∀ n, n ≠ laneOfSled i → r.lane n = r₀.lane n)
      ∧ r.notices = (if s.cfg.mask.sled ∧ r₀.mode ≠ .config then r₀.notices.insert (.sled i) else r₀.notices)

/-! ## Faults, heat and the zone -/

/-- Taking a fault: under IGNORE nothing happens; under the other actions it is recorded at its severity, into an empty first
record, or else into the later-set and later-count, which saturates, and a FAULT notice is posted; REPORT does no more; SAFE
moves RUN to SAFE, ends every boost and holds every class entry in its place; CONTAIN isolates a sled it covers that is TRACKING, or
ADMITTING with its floor, and marks an ADMITTING one without. A probe's fault covers its sled, a sled's the sled, a lane's its
sleds that are ADMITTING or TRACKING, and any other none (R69, R70, R138, R140, R141, R143, R144). -/
def Obligations.FaultIsTakenByItsAction : Prop :=
  ∀ (c : Cfg) (k : FaultClass) (x : Subject) (detail : Nat) (r : Run),
    let f : FaultRecord := { cls := k, subject := x, time := r.clock.stamp, detail := detail }
    let taken (v : SeverityRecord) : SeverityRecord :=
      if v.first = none then { v with first := some f }
      else
        { v with
          laterSet := v.laterSet ||| BitVec.ofNat 16 (2 ^ k.index.val)
          laterCount := if v.laterCount < 255 then v.laterCount + 1 else v.laterCount }
    let t := r.raise c k x detail
    let a := c.routing.get k.index
    (a = .ignore → t = r)
    ∧ (a = .report →
        t = { r with
              advisory := taken r.advisory
              notices := if c.mask.fault then r.notices.insert (.fault .advisory) else r.notices })
    ∧ (a = .contain ∨ a = .safe →
        t.severe = taken r.severe ∧ t.advisory = r.advisory ∧ (c.mask.fault = true → t.notices.severe = true) ∧ t.alarm = true)
    ∧ (a = .contain →
        let covers (i : Sled) : Prop :=
          match x with
          | .probe p => i.val = p.val / 2
          | .sled j => i = j
          | .lane n => i.val / 6 = n.val ∧ ((r.life i).state = .admitting ∨ (r.life i).state = .tracking)
          | .zoneInput _ | .pool | .link => False
        t.mode = r.mode
        ∧ (∀ i, ¬covers i → t.sleds.get i = r.sleds.get i)
        ∧ (∀ i, covers i → (r.life i).state ≠ .tracking → (r.life i).state ≠ .admitting → t.sleds.get i = r.sleds.get i)
        ∧ (∀ i, covers i →
            (r.life i).state = .tracking ∨ (r.life i).state = .admitting ∧ (r.books i).floorReserved = true →
            t.life i = { r.life i with state := .isolated, admission := none, containPending := false }
              ∧ (t.books i).grant = min (r.books i).grant (floorCost c i)
              ∧ (t.books i).loan = (if (r.books i).boost = .running then 0 else (r.books i).loan) ∧ t.queued i = false
              ∧ (t.books i).grant + (t.books i).loan + (t.books i).draining
                  = (r.books i).grant + (r.books i).loan + (r.books i).draining
              ∧ (c.mask.sled = true → r.mode ≠ .config → t.notices.sled.get i = true))
        ∧ (∀ i, covers i → (r.life i).state = .admitting → (r.books i).floorReserved = false →
            t.life i = { r.life i with containPending := true } ∧ t.books i = r.books i))
    ∧ (a = .safe → r.mode ≠ .run → t.mode = r.mode ∧ t.sleds = r.sleds ∧ t.queue = r.queue)
    ∧ (a = .safe → r.mode = .run →
        t.mode = .safe ∧ t.cause = .fault ∧ (c.mask.mode = true → t.notices.mode = true)
        ∧ (∀ i, (t.books i).boost ≠ .running ∧ (t.books i).grant = (r.books i).grant
            ∧ (t.books i).loan + (t.books i).draining = (r.books i).loan + (r.books i).draining ∧ t.life i = r.life i)
        ∧ t.queue.map (fun e => (e.sled, e.cls, e.wanted)) = r.queue.map (fun e => (e.sled, e.cls, e.wanted))
        ∧ ∀ e ∈ t.queue, e.held = decide (e.cls ≠ .floor))

/-- The votes: a probe's by its health, the alert line's by its level and mark when its role is HEAT; ANY takes the hottest of
the votes given, ALL the coolest, and no vote gives COOL (R80, R81; the probe's vote: Table 40). -/
def Obligations.VotesAreFormedAndCombined : Prop :=
  ∀ (c : Cfg) (r : Run) (i : Sled),
    (∀ p, probeVote c r p =
      if (c.probe p).enable then
        match (r.probe p).health with
        | .unknown => none
        | .ok | .suspect => (r.probe p).lastClass
        | .lost => some (c.sled (sledOfProbe p)).lostVote
      else none)
    ∧ ((c.sled i).alertRole ≠ .heat → alertVote c r i = none)
    ∧ ((c.sled i).alertRole = .heat → (r.alert i).filtered = false → alertVote c r i = some .cool)
    ∧ ((c.sled i).alertRole = .heat → (r.alert i).filtered = true → (r.alert i).sustained = false →
        alertVote c r i = some .warm)
    ∧ ((c.sled i).alertRole = .heat → (r.alert i).filtered = true → (r.alert i).sustained = true →
        alertVote c r i = some .hot)
    ∧ (let votes := [probeVote c r (probeA i), probeVote c r (probeB i), alertVote c r i]
       let v := combinedVote c r i
       (votes = [none, none, none] → v = .cool)
       ∧ (votes ≠ [none, none, none] → some v ∈ votes)
       ∧ ((c.sled i).combine = .any → ∀ w, some w ∈ votes → w.rank ≤ v.rank)
       ∧ ((c.sled i).combine = .all → ∀ w, some w ∈ votes → v.rank ≤ w.rank))

/-- An evaluation of a sled in service stores the combined vote and counts it against the thermal state; a change of state
starts or stops the hot-persist count, ends the boost when it leaves COOL, recomputes the held flags of the entries in their
places, and posts a SLED notice (R82 to R85); an entry that is not held any more triggers the arbiter (R42, R43). A sled out of
service is not evaluated. -/
def Obligations.EvaluationCountsTheVote : Prop :=
  ∀ (c : Cfg) (r : Run) (i : Sled),
    let t := r.therm i
    let v := combinedVote c r i
    let g := c.globals
    let u := r.evaluate c i
    ((r.life i).state.inService = false → u = r)
    ∧ ((r.life i).state.inService = true →
        let hotter := t.state.rank < v.rank
        let cooler := v.rank < t.state.rank
        let escalates := hotter ∧ g.escalateCount ≤ t.escalate + 1
        let relaxes := cooler ∧ g.relaxCount ≤ t.relax + 1
        let state : Heat := if escalates then v else if relaxes then (if t.state = .hot then .warm else .cool) else t.state
        (u.therm i).combined = some v
        ∧ (u.therm i).state = state
        ∧ (u.therm i).escalate = (if hotter ∧ ¬escalates then t.escalate + 1 else 0)
        ∧ (u.therm i).relax = (if cooler ∧ ¬relaxes then t.relax + 1 else 0)
        ∧ (u.therm i).hotPersist =
            (if state = .hot ∧ t.state ≠ .hot then some (g.hotLimitS * 1000)
              else if state ≠ .hot ∧ t.state = .hot then none else t.hotPersist)
        ∧ (u.therm i).hotRaised = (if state = .hot ∧ t.state ≠ .hot then false else t.hotRaised)
        ∧ (state = t.state → u = r.modTherm i fun _ => u.therm i)
        ∧ (state ≠ t.state → t.state = .cool → (u.books i).boost ≠ .running)
        ∧ (state ≠ t.state →
            u.queue.map (fun e => (e.sled, e.cls, e.wanted)) = r.queue.map (fun e => (e.sled, e.cls, e.wanted))
              ∧ (∀ e ∈ u.queue, e.held = u.entryHeld c e.sled e.cls) ∧ (r.unholds u → u.arbiterDue = true))
        ∧ (state ≠ t.state → r.mode ≠ .config → c.mask.sled = true → u.notices.sled.get i = true)
        ∧ (∀ j, j ≠ i → u.sleds.get j = r.sleds.get j) ∧ u.life i = r.life i ∧ u.mode = r.mode)

/-- The admission count and the hot-persist count: at the expiry the mark is set, the count stops and the fault is taken, its
detail what is outstanding, or `hot_limit_s`; a count that does not run does not expire (R66, R85), and one that runs expires
when its command comes, whatever is left of it (assumption 1). -/
def Obligations.AdmissionAndHeatCountsExpire : Prop :=
  ∀ (i : Sled) (s : State), s.inReset = false →
    let r₀ := s.run
    let l := r₀.life i
    let t := r₀.therm i
    let floorOut := (r₀.books i).floorReserved = false
    let probeOut := l.awaitA = true ∨ l.awaitB = true
    let detail : Nat := (if floorOut then 1 else 0) + (if probeOut then 2 else 0)
    let admitRuns := l.state = .admitting ∧ l.admission ≠ none ∧ r₀.mode ≠ .config
    let hotRuns := t.state = .hot ∧ t.hotPersist ≠ none ∧ r₀.mode ≠ .config
    (admitRuns →
      exec (.admitCountExpiry i) s
        = .next (s.after
            ((r₀.modLife i fun l => { l with admitTimeout := true, admission := none }).raise s.cfg .admitTimeout (.sled i)
              detail)))
    ∧ (¬admitRuns → exec (.admitCountExpiry i) s = .next s)
    ∧ (hotRuns →
        exec (.hotPersistExpiry i) s
          = .next (s.after
              ((r₀.modTherm i fun t => { t with hotRaised := true, hotPersist := none }).raise s.cfg .hotPersist (.sled i)
                s.cfg.globals.hotLimitS)))
    ∧ (¬hotRuns → exec (.hotPersistExpiry i) s = .next s)

/-- A zone settle count expires. The level that is the accepted one, or an input that is off, makes no event. An enabled input
that becomes asserted makes the zone EMERGENCY, takes ZONE_ALARM with the state before it, posts a ZONE notice and, in RUN, ends
every boost; one that becomes deasserted in EMERGENCY ends it when no other input holds it and the latch is off, and posts a
ZONE notice. The entries keep their places, and one that the end of an emergency holds no longer triggers the arbiter (R42, R43). The release count's expiry makes the zone NORMAL (R58, R87 to R89, R92). An expiry is taken when its command comes,
whatever is left of the count (assumption 1). -/
def Obligations.ZoneFollowsItsInputs : Prop :=
  (∀ (z : ZoneNo) (s : State), s.inReset = false →
    let r₀ := s.run
    let g := s.cfg.globals
    let f := r₀.zone.filters.get z
    let settled : Zone := { r₀.zone with filters := modAt z (fun f => { f with accepted := f.pin, settle := none }) r₀.zone.filters }
    let active (y : ZoneNo) : Prop :=
      g.zoneEnable.get y = true ∧ (settled.filters.get y).accepted ≠ (g.zonePolarity.get y).deasserted
    (f.settle = none → exec (.zoneSettleExpiry z) s = .next s)
    ∧ (f.settle ≠ none → f.pin = f.accepted ∨ g.zoneEnable.get z = false →
        exec (.zoneSettleExpiry z) s = .next (s.after { r₀ with zone := settled }))
    ∧ (f.settle ≠ none → f.pin ≠ f.accepted → active z →
        ∃ r, exec (.zoneSettleExpiry z) s = .next (s.after r)
          ∧ r.zone = { settled with state := .emergency, release := none }
          ∧ (let u := ({ r₀ with zone := r.zone }.raise s.cfg .zoneAlarm (.zoneInput z) r₀.zone.state.code).post s.cfg .zone
             (r₀.zone.state = .emergency ∨ r₀.mode ≠ .run → r = u)
             ∧ r.severe = u.severe ∧ r.advisory = u.advisory ∧ r.mode = u.mode ∧ r.notices = u.notices)
          ∧ (s.cfg.mask.zone = true → r.notices.zone = true)
          ∧ r.queue.map (fun e => (e.sled, e.cls, e.wanted)) = r₀.queue.map (fun e => (e.sled, e.cls, e.wanted))
          ∧ (r₀.zone.state ≠ .emergency → r₀.mode = .run →
              (∀ i, (r.books i).boost ≠ .running ∧ (r.books i).grant = (r₀.books i).grant
                ∧ (r.books i).loan + (r.books i).draining = (r₀.books i).loan + (r₀.books i).draining)
              ∧ ∀ e ∈ r.queue, e.held = decide (e.cls ≠ .floor)))
    ∧ (f.settle ≠ none → f.pin ≠ f.accepted → g.zoneEnable.get z = true → ¬active z →
        let ends := r₀.zone.state = .emergency ∧ ¬active 0 ∧ ¬active 1 ∧ g.zoneLatch = false
        ∃ r, exec (.zoneSettleExpiry z) s = .next (s.after r)
          ∧ r = { r₀ with zone := r.zone, queue := r.queue, arbiterDue := r.arbiterDue, notices := r.notices }
          ∧ (r.zone =
              if ends then
                { settled with
                  state := if g.zoneReleaseMs = 0 then .normal else .releasing
                  release := if g.zoneReleaseMs = 0 then none else some g.zoneReleaseMs }
              else settled)
          ∧ (¬ends → r.queue = r₀.queue)
          ∧ (ends →
              r.queue.map (fun e => (e.sled, e.cls, e.wanted)) = r₀.queue.map (fun e => (e.sled, e.cls, e.wanted))
                ∧ (∀ e ∈ r.queue, e.held = r.entryHeld s.cfg e.sled e.cls) ∧ (r₀.unholds r → r.arbiterDue = true))
          ∧ (r.notices = if r₀.zone.state = .emergency ∧ s.cfg.mask.zone then r₀.notices.insert .zone else r₀.notices)))
  ∧ ∀ s : State, s.inReset = false →
      let runs := s.run.zone.state = .releasing ∧ s.run.zone.release ≠ none
      (runs →
        exec .zoneReleaseExpiry s
          = .next (s.after
              { s.run with
                zone := { s.run.zone with state := .normal, release := none }
                notices := if s.cfg.mask.zone then s.run.notices.insert .zone else s.run.notices }))
      ∧ (¬runs → exec .zoneReleaseExpiry s = .next s)

/-! ## Events of the alert lines -/

/-- ALERT_LEVEL_ACCEPTED accepts the last sample; for a sled in service a change of the filtered level is an edge: an asserting
edge is counted and stamped and its width starts at 0, a deasserting edge closes the width into the last and the longest width
and clears the marks; a HEAT line then has its sled evaluated, a READY line's asserting edge ends the WAIT of its sled's poll.
SUSTAIN_REACHED and STUCK_REACHED set the mark of an assertion that does not have it, and bring its width, and the total with
it, to the limit where they are below it (assumption 1), and with it the other mark, where its limit is reached too (assumption
24); a HEAT line's sustained mark has its sled evaluated, a HEAT or READY line's stuck mark raises ALERT_STUCK. An ms tick
raises the width by 1; one that brings it to a mark it does not have makes that event due instead, so that a deasserting edge
comes before it or after it whole (assumption 24). (R96 to R102) -/
def Obligations.AlertLinesAreFollowed : Prop :=
  (∀ (i : Sled) (s : State), s.inReset = false →
    let r₀ := s.run
    let a := r₀.alert i
    let x := s.cfg.sled i
    let b : Alert := { a with run := max a.run s.cfg.globals.alertFilter, accepted := a.lastSample }
    let level := (r₀.life i).state.inService && decide (a.lastSample ≠ x.alertPolarity.deasserted)
    let handed (c : Alert) : Run :=
      let r := r₀.modAlert i fun _ => c
      if x.alertRole = .heat then r.evaluate s.cfg i else r
    (a.lastSample = a.accepted → exec (.alertLevelAccepted i) s = .next s)
    ∧ (a.lastSample ≠ a.accepted → level = a.filtered →
        exec (.alertLevelAccepted i) s = .next (s.after (r₀.modAlert i fun _ => b)))
    ∧ (a.lastSample ≠ a.accepted → level = true → a.filtered = false →
        let c : Alert :=
          { b with
            filtered := true
            count := if a.count < 65535 then a.count + 1 else a.count
            lastTime := some r₀.clock.stamp
            seen := true
            width := 0 }
        (x.alertRole ≠ .ready → exec (.alertLevelAccepted i) s = .next (s.after (handed c)))
        ∧ (x.alertRole = .ready →
            (∀ q, (r₀.lane (laneOfSled i)).poll = .poll q → sledOfProbe q.probe = i → q.phase ≠ .wait) →
            exec (.alertLevelAccepted i) s = .next (s.after (handed c)))
        ∧ (∀ q, x.alertRole = .ready → (r₀.lane (laneOfSled i)).poll = .poll q → sledOfProbe q.probe = i → q.phase = .wait →
            exec (.alertLevelAccepted i) s
              = .next (s.after
                  (if (s.cfg.probe q.probe).mode = .self then
                    (handed c).endPoll s.cfg (laneOfSled i) q.probe (.success (s.cfg.probe q.probe).selfClass none)
                  else (handed c).beginRead s.cfg (laneOfSled i) q.probe))))
    ∧ (a.lastSample ≠ a.accepted → level = false → a.filtered = true →
        exec (.alertLevelAccepted i) s
          = .next (s.after (handed
              { b with
                filtered := false, lastWidth := a.width, longest := max a.longest a.width, width := 0
                sustained := false, stuck := false, tickOwed := false }))))
  ∧ (∀ (i : Sled) (s : State), 16000 ≤ s.run.clock.msCount + 1 →
    let a := s.run.alert i
    let b := s.refclk.run.alert i
    let g := s.cfg.globals
    let sustains := a.sustained = false ∧ g.sustainMs ≤ a.width + 1
    let sticks := a.stuck = false ∧ g.stuckMs ≤ a.width + 1
    (a.filtered = false → b.width = a.width ∧ b.total = a.total ∧ b.tickOwed = a.tickOwed)
    ∧ (a.filtered = true → ¬sustains → ¬sticks →
        b.width = (if a.width < 4294967295 then a.width + 1 else a.width)
          ∧ b.total = (if a.total < 4294967295 then a.total + 1 else a.total) ∧ b.tickOwed = a.tickOwed)
    ∧ (a.filtered = true → sustains ∨ sticks →
        b.width = a.width ∧ b.total = a.total ∧ b.tickOwed = true
          ∧ (.sustainReached i ∈ s.refclk.due ↔ sustains) ∧ (.stuckReached i ∈ s.refclk.due ↔ sticks)))
  ∧ ∀ (i : Sled) (s : State), s.inReset = false →
    let r₀ := s.run
    let a := r₀.alert i
    let role := (s.cfg.sled i).alertRole
    let g := s.cfg.globals
    let widened (limit : Nat) : Alert :=
      { a with width := max a.width limit, total := min 4294967295 (a.total + (limit - a.width)), tickOwed := false }
    let sustain (r : Run) : Run :=
      let r := r.modAlert i fun a => { a with sustained := true }
      if role = .heat then r.evaluate s.cfg i else r
    let stick (r : Run) : Run :=
      let r := r.modAlert i fun a => { a with stuck := true }
      if role = .none then r else r.raise s.cfg .alertStuck (.sled i) a.count
    (a.filtered = false ∨ a.sustained = true → exec (.sustainReached i) s = .next s)
    ∧ (a.filtered = true → a.sustained = false →
        let r := sustain (r₀.modAlert i fun _ => widened g.sustainMs)
        exec (.sustainReached i) s
          = .next (s.after (if a.stuck = false ∧ g.stuckMs ≤ max a.width g.sustainMs then stick r else r)))
    ∧ (a.filtered = false ∨ a.stuck = true → exec (.stuckReached i) s = .next s)
    ∧ (a.filtered = true → a.stuck = false →
        let r := stick (r₀.modAlert i fun _ => widened g.stuckMs)
        exec (.stuckReached i) s
          = .next (s.after (if a.sustained = false ∧ g.sustainMs ≤ max a.width g.stuckMs then sustain r else r)))

/-! ## Events of the sensor lanes -/

/-- A due event restarts the probe's timer. A QUEUED or ACTIVE probe counts an overrun and raises POLL_OVERRUN; an IDLE one
fails with LANE_FAILED on a FAILED lane, joins the queue of a BUSY or recovering lane, and on an IDLE lane with no queue starts
its poll in its first phase. A timer that does not run does not expire (R112, R113, R115, R124), and one that runs expires when
its command comes, whatever is left of it (assumption 1). -/
def Obligations.DueEventsAreTaken : Prop :=
  ∀ (p : Probe) (s : State), s.inReset = false →
    let r₀ := s.run
    let n := laneOfProbe p
    let x := r₀.probe p
    let y := r₀.lane n
    let k := s.cfg.probe p
    let due := some k.pollMs
    let runs := x.due ≠ none ∧ r₀.mode ≠ .config
    (¬runs → exec (.dueEvent p) s = .next s)
    ∧ (runs → x.run ≠ .idle →
        let count := if x.overruns < 65535 then x.overruns + 1 else x.overruns
        exec (.dueEvent p) s
          = .next (s.after ((r₀.modProbe p fun x => { x with due := due, overruns := count }).raise s.cfg .pollOverrun
              (.probe p) count)))
    ∧ (runs → x.run = .idle → y.state = .failed →
        exec (.dueEvent p) s
          = .next (s.after ((r₀.modProbe p fun x => { x with due := due }).handOutcome s.cfg p (.failure .laneFailed none))))
    ∧ (runs → x.run = .idle → y.state = .busy ∨ y.state = .recover →
        exec (.dueEvent p) s
          = .next (s.after ((r₀.modProbe p fun x => { x with due := due, run := .queued }).modLane n fun y =>
              { y with queue := y.queue ++ [p] })))
    ∧ (runs → x.run = .idle → y.state = .idle → y.queue = [] →
        let inits := 0 < k.initCount ∧ (k.initEvery = true ∨ x.needsInit = true)
        let waits := ¬inits ∧ k.mode ≠ .direct
        ∃ r, exec (.dueEvent p) s = .next (s.after r)
          ∧ r.probe p = { x with due := due, run := .active }
          ∧ r.lane n =
              { y with
                state := .busy
                queue := []
                poll := .poll
                  { probe := p
                    phase := if inits then .init else if waits then .wait else .read
                    transaction := 0
                    retries := 0
                    timer := if waits then some k.waitMs else none }
                transaction := if waits then y.transaction else some (s.cfg.globals.laneTimeoutMs.get n)
                clock := if waits then y.clock else s.cfg.globals.laneSpeed.get n
                scl := (r.lane n).scl
                sda := (r.lane n).sda }
          ∧ r.sleds = r₀.sleds ∧ r.queue = r₀.queue ∧ r.notices = r₀.notices ∧ r.mode = r₀.mode
          ∧ (∀ q, q ≠ p → r.probe q = r₀.probe q) ∧ (∀ m, m ≠ n → r.lane m = r₀.lane m))

/-- A poll goes from phase to phase: INIT opens its next transaction or ends with the mark cleared; a not-acknowledge opens the
same transaction again while retries are left, and fails the poll with the mark set when they are used up; SETTLE leads to WAIT
or READ; WAIT that expires is a COOL success in SELF mode and NO_READY otherwise; READ assembles, decodes and classifies its
bytes. The bytes of the transactions are the address with its direction bit, the registers and the values of the probe's script
segment, pair by pair or, with `seq` on, in groups of rising registers, and the bytes of a reading. On its pins a lane waits with
a start until both read high at once, with a bit until SCL reads high, and with a stop for SCL and then SDA; nine samples of SDA
make a byte: of a byte sent only the ninth counts, low an acknowledge and high a not-acknowledge, which comes to its end with
its stop, and of a byte read the first eight are its bits, most significant first. SDA or SCL held low, it never comes to an
end. What the readings come to is the event that ends the transaction. An event of a phase that no poll of the lane is in does
not occur (assumption 1). That the reader stands outside the state, that a not-acknowledge comes with its stop and the new
opening, and that both pins read high after a stop, are the model's choices, assumptions 20, 22 and 6 (R107, R122, R124 to
R131). -/
def Obligations.PollsGoFromPhaseToPhase : Prop :=
  (∀ (c : Cfg) (p : Probe),
    let x := c.probe p
    let pairs := scriptPairs c p
    let write : BusStep := .send (BitVec.ofNat 8 (2 * x.address))
    let read : BusStep := .send (BitVec.ofNat 8 (2 * x.address + 1))
    let body (g : List (Byte × Byte)) : List BusStep := write :: .send (g.headD (0, 0)).1 :: g.map fun a => .send a.2
    pairs.length = x.initCount
    ∧ (∀ j, j < x.initCount →
        pairs[j]? = some (scriptByte c.script (segmentStart c p + 2 * j), scriptByte c.script (segmentStart c p + 2 * j + 1)))
    ∧ (x.seq = false →
        initTransactions c p = pairs.map fun a => [.start, write, .send a.1, .send a.2, .stop])
    ∧ (x.seq = true →
        ∃ groups : List (List (Byte × Byte)),
          initTransactions c p = [.start :: (List.intercalate [.repeatedStart] (groups.map body)) ++ [.stop]]
            ∧ groups.flatten = pairs ∧ (∀ g ∈ groups, g ≠ [])
            ∧ (∀ g ∈ groups, ∀ j a b, g[j]? = some a → g[j + 1]? = some b → b.1.toNat = a.1.toNat + 1)
            ∧ ∀ j g h a b, groups[j]? = some g → groups[j + 1]? = some h → g.getLast? = some a → h.head? = some b →
                b.1.toNat ≠ a.1.toNat + 1)
    ∧ readTransaction x
        = [.start, write, .send (BitVec.ofNat 8 x.readRegister), .repeatedStart, read]
            ++ (if x.format = .u8 then [.receive false] else [.receive true, .receive false]) ++ [.stop]
    ∧ (∀ readings bytes, hear (readTransaction x) readings = .ended bytes → bytes.length = if x.format = .u8 then 1 else 2)
    ∧ ∀ q : Poll, q.probe = p →
        q.openTransaction c
          = match q.phase with
            | .init => (initTransactions c p)[q.transaction]?
            | .read => some (readTransaction x)
            | .settle | .wait => none)
  ∧ (∀ (bits : List (List Reading × Pin × Reading)) (steps : List BusStep) (later : List Reading),
      bits.length = 9 → (∀ x ∈ bits, ∀ y ∈ x.1, y.scl = .low) →
      let readings := bits.flatMap fun x => x.1 ++ [{ scl := .high, sda := x.2.1 }, x.2.2]
      let samples := bits.map fun x => x.2.2.sda
      (∀ b, samples[8]? = some .low → hear (.send b :: steps) (readings ++ later) = hear steps later)
      ∧ (∀ b, samples[8]? = some .high →
          hear (.send b :: steps) (readings ++ later) = if hear [.stop] later = .unfinished then .unfinished else .refused)
      ∧ (∀ (a : Bool) (b : Byte), samples.take 8 = (List.range 8).map (fun k => if b.getMsbD k then .high else .low) →
          hear (.receive a :: steps) (readings ++ later)
            = match hear steps later with
              | .unfinished => .unfinished
              | .refused => .refused
              | .ended bytes => .ended (b :: bytes)))
  ∧ (∀ (steps : List BusStep) (held later : List Reading) (scl sda : Pin),
      ((∀ x ∈ held, x.scl = .low ∨ x.sda = .low) →
        hear (.start :: steps) held = .unfinished
          ∧ hear (.start :: steps) (held ++ { scl := .high, sda := .high } :: later) = hear steps later)
      ∧ ((∀ x ∈ held, x.scl = .low) →
          hear (.repeatedStart :: steps) (held ++ { scl := .high, sda := sda } :: later) = hear steps later
          ∧ ∀ waits, (∀ x ∈ waits, x.sda = .low) →
              hear (.stop :: steps) (held ++ { scl := .high, sda := sda } :: (waits ++ { scl := scl, sda := .high } :: later))
                = hear steps later)
      ∧ ((∀ x ∈ held, x.scl = .low) → steps ≠ [] → hear steps held = .unfinished)
      ∧ ((∀ x ∈ held, x.sda = .low) → .stop ∈ steps → hear steps held = .unfinished)
      ∧ hear [] later = .ended [])
  ∧ ∀ (n : LaneNo) (s : State), s.inReset = false →
    let r₀ := s.run
    let y := r₀.lane n
    let opened (q : Poll) (r : Run) : Prop :=
      r.lane n =
        { y with
          poll := .poll q
          transaction := some (s.cfg.globals.laneTimeoutMs.get n)
          clock := s.cfg.globals.laneSpeed.get n
          scl := (r.lane n).scl
          sda := (r.lane n).sda }
      ∧ (∀ m, m ≠ n → r.lane m = r₀.lane m) ∧ r.sleds = r₀.sleds ∧ r.notices = r₀.notices
    let closed : Run := r₀.modLane n fun y => { y with transaction := none, scl := .high, sda := .high }
    let phaseOf (k : Phase) : Prop := ∃ q, y.poll = .poll q ∧ q.phase = k
    (∀ q, y.poll = .poll q →
      let x := s.cfg.probe q.probe
      let first (k : Phase) (timer : Count) : Poll := { probe := q.probe, phase := k, transaction := 0, retries := 0, timer := timer }
      let count := if x.seq then 1 else x.initCount
      (q.phase = .init → q.transaction + 1 < count →
        ∃ r, exec (.initTransactionEnd n) s = .next (s.after r)
          ∧ opened { q with transaction := q.transaction + 1, retries := 0 } r ∧ r.probes = r₀.probes)
      ∧ (q.phase = .init → count ≤ q.transaction + 1 →
          ∃ r, exec (.initTransactionEnd n) s = .next (s.after r)
            ∧ (∀ p, r.probe p = if p = q.probe then { r₀.probe p with needsInit := false } else r₀.probe p)
            ∧ (0 < x.settleMs → (r.lane n).poll = .poll (first .settle (some x.settleMs)) ∧ (r.lane n).transaction = none)
            ∧ (x.settleMs = 0 → x.mode ≠ .direct →
                (r.lane n).poll = .poll (first .wait (some x.waitMs)) ∧ (r.lane n).transaction = none)
            ∧ (x.settleMs = 0 → x.mode = .direct → opened (first .read none) r))
      ∧ (q.phase = .init ∨ q.phase = .read → q.retries < x.nakRetries →
          ∃ r, exec (.notAcknowledge n) s = .next (s.after r)
            ∧ opened { q with retries := q.retries + 1 } r ∧ r.probes = r₀.probes)
      ∧ (q.phase = .init ∨ q.phase = .read → x.nakRetries ≤ q.retries →
          exec (.notAcknowledge n) s
            = .next (s.after ((closed.modProbe q.probe fun z => { z with needsInit := true }).endPoll s.cfg n q.probe
                (.failure (if q.phase = .init then .nakInit else .nakRead) none))))
      ∧ (q.phase = .settle →
          ∃ r, exec (.settleExpiry n) s = .next (s.after r) ∧ r.probes = r₀.probes
            ∧ (x.mode ≠ .direct → r.lane n = { y with poll := .poll (first .wait (some x.waitMs)) })
            ∧ (x.mode = .direct → opened (first .read none) r))
      ∧ (q.phase = .wait →
          exec (.waitExpiry n) s
            = .next (s.after (r₀.endPoll s.cfg n q.probe
                (if x.mode = .self then .success .cool none else .failure .noReady none))))
      ∧ (q.phase = .read → ∀ b0 b1 : Byte,
          let high := if x.swap then b1 else b0
          let low := if x.swap then b0 else b1
          let raw := if x.format = .u8 then b0.toNat else high.toNat * 256 + low.toNat
          let value : Int := if x.format = .s16 ∧ 32768 ≤ raw then (raw : Int) - 65536 else raw
          exec (.readTransactionEnd n b0 b1) s
            = .next (s.after (closed.endPoll s.cfg n q.probe
                (if value < x.underLimit ∨ x.upperLimit < value then .failure .implausible (some raw)
                else if x.hotOver ≤ value then .success .hot (some value)
                else if x.warmOver ≤ value then .success .warm (some value)
                else .success .cool (some value))))))
    ∧ (¬phaseOf .init → exec (.initTransactionEnd n) s = .next s)
    ∧ (¬phaseOf .init → ¬phaseOf .read → exec (.notAcknowledge n) s = .next s)
    ∧ (¬phaseOf .settle → exec (.settleExpiry n) s = .next s)
    ∧ (¬phaseOf .wait → exec (.waitExpiry n) s = .next s)
    ∧ (¬phaseOf .read → ∀ b0 b1, exec (.readTransactionEnd n b0 b1) s = .next s)
    ∧ (∀ q t begun readings, y.state = .busy → y.poll = .poll q → q.openTransaction s.cfg = some t →
        (hear t readings = .unfinished → s.laneHears n begun readings = none)
        ∧ (hear t readings = .refused → s.laneHears n begun readings = some (.notAcknowledge n))
        ∧ (∀ bytes, hear t readings = .ended bytes → q.phase = .init →
            s.laneHears n begun readings = some (.initTransactionEnd n))
        ∧ (∀ b0 rest, hear t readings = .ended (b0 :: rest) → q.phase = .read →
            s.laneHears n begun readings = some (.readTransactionEnd n b0 (rest.headD 0))))

/-- An outcome updates the health record and is handed on in order: a failure raises its faults and then has the sled evaluated;
a success takes the probe from the awaiting set, which may make its sled TRACKING or ISOLATED, and then has the sled evaluated.
A poll that ends frees its probe and its lane, which serves its queue (R65, R115, R133 to R135). -/
def Obligations.OutcomesAreHandedOn : Prop :=
  ∀ (c : Cfg) (n : LaneNo) (p : Probe) (r : Run),
    let i := sledOfProbe p
    let x := r.probe p
    let l := r.life i
    let now := some r.clock.stamp
    (∀ cls value,
      let h := r.handOutcome c p (.success cls value)
      let u := r.modProbe p fun x =>
        { x with
          failures := 0, lastClass := some cls, lastValue := value.or x.lastValue, lastTime := now, health := .ok }
      let left : Life := if p.val % 2 = 0 then { l with awaitA := false } else { l with awaitB := false }
      let floor := l.state = .admitting ∧ (r.books i).floorReserved = true
      h.probe p = u.probe p
      ∧ (r.awaits p = false → h = u.evaluate c i)
      ∧ (r.awaits p = true → h = ((u.modLife i fun _ => left).settleAdmission c i).evaluate c i)
      ∧ (r.awaits p = true → ¬floor ∨ l.containPending = false ∧ (left.awaitA = true ∨ left.awaitB = true) → h.life i = left)
      ∧ (r.awaits p = true → floor → l.containPending = false → left.awaitA = false → left.awaitB = false →
          h.life i = { left with state := .tracking, admission := none })
      ∧ (r.awaits p = true → floor → l.containPending = true → (h.life i).state = .isolated))
    ∧ (∀ reason raw,
        let failures := if x.failures < 255 then x.failures + 1 else x.failures
        let health : Health := if (c.probe p).lostLimit ≤ failures then .lost else .suspect
        let u := r.modProbe p fun x =>
          { x with failures := failures, lastReason := some reason, lastTime := now, health := health }
        let v := match raw with
          | some k => u.raise c .readingImplausible (.probe p) k
          | none => u
        let w := if health = .lost ∧ x.health ≠ .lost then v.raise c .probeLost (.probe p) reason.code else v
        r.handOutcome c p (.failure reason raw) = w.evaluate c i)
    ∧ ∀ o,
        let e := r.endPoll c n p o
        let h := (r.handOutcome c p o).modProbe p fun x => { x with run := .idle }
        h.lanes = r.lanes
        ∧ ((r.lane n).queue = [] → e = h.modLane n fun y => { y with state := .idle, poll := .absent })
        ∧ (∀ q rest, (r.lane n).queue = q :: rest →
            (e.lane n).state = .busy ∧ (e.lane n).queue = rest ∧ (e.probe q).run = .active
              ∧ ∃ poll, (e.lane n).poll = .poll poll ∧ poll.probe = q ∧ e.sleds = h.sleds)

/-- The transaction count's expiry fails the poll with LANE_ABORT, or ends the abort, and starts recovery; the stop of an abort
frees the lane; a recovery attempt that finds SDA high frees the lane, with every probe of the lane marked `needs_init`, and
serves its queue; one that finds it low, or that times out, leads to the next attempt, and after the third to FAILED with
LANE_STUCK, taken by its routing, and then a LANE_FAILED failure of every queued probe, front first (R108 to R110, R116, R123).
What SCL and SDA read when a lane abandons its work, and while an attempt runs, is free (assumption 6). An attempt pulses SCL
until SDA samples high, nine times at most, then makes a stop and samples SDA, and the level read there is the level of the
event that ends the attempt; a byte that an abort cuts short goes on through its acknowledge bit, which the lane does not give to
a read byte, and a stop follows, whose end is the event that ends the abort (R109, R116); that the reader of the pins stands
outside the state is assumption 20, and what an abort does to a start or a stop under way is assumption 27. An expiry is taken
when its command comes, whatever is left of the count (assumption 1). -/
def Obligations.LanesAreRecovered : Prop :=
  (∀ (n : LaneNo) (s : State), s.inReset = false →
    let r₀ := s.run
    let c := s.cfg
    let y := r₀.lane n
    let g := c.globals
    let sat (k : Nat) : Nat := if k < 65535 then k + 1 else k
    let expires := y.transaction ≠ none ∧ y.poll ≠ .absent
    let recovers := y.state = .recover ∧ y.attempt ≠ none
    let reads (pins : Pin × Pin) (x : Lane) : Lane := { x with scl := pins.1, sda := pins.2 }
    let begins (k : Nat) (pins : Pin × Pin) (r : Run) : Run :=
      r.spendFree.modLane n fun x =>
        reads pins
          { x with
            state := .recover, attempts := k, attempt := some (g.laneTimeoutMs.get n), clock := g.laneSpeed.get n }
    let abandons (pins : Pin × Pin) : Run :=
      r₀.spendFree.modLane n fun x => reads pins { x with transaction := none, attempt := none }
    let drops (r : Run) (p : Probe) : Run :=
      ((r.modLane n fun x => { x with queue := x.queue.tail }).modProbe p fun x => { x with run := .idle }).handOutcome c p
        (.failure .laneFailed none)
    let givesUp (r : Run) : Run :=
      y.queue.foldl drops
        ((r.modLane n fun x => { x with state := .failed, attempts := 3, attempt := none }).raise c .laneStuck (.lane n) 3)
    let checked (sda : Pin) : Run := r₀.modLane n fun x => { x with scl := .high, sda := sda }
    (¬expires → exec (.transactionTimeout n) s = .next s)
    ∧ (expires →
        ∃ pins pins',
          let u := (abandons pins).modLane n fun x => { x with timeouts := sat x.timeouts }
          let v :=
            match y.poll with
            | .poll q => (u.modProbe q.probe fun x => { x with run := .idle }).handOutcome c q.probe (.failure .laneAbort none)
            | .absent | .aborting => u
          let r := begins 1 pins' (v.modLane n fun x => { x with poll := .absent })
          exec (.transactionTimeout n) s = .next (s.after r)
          ∧ r.lane n =
              reads pins'
                { y with
                  state := .recover, poll := .absent, transaction := none, attempts := 1
                  attempt := some (g.laneTimeoutMs.get n), clock := g.laneSpeed.get n, timeouts := sat y.timeouts }
          ∧ (∀ q, y.poll = .poll q →
              (r.probe q.probe).run = .idle ∧ (r.probe q.probe).lastReason = some .laneAbort
                ∧ (r.probe q.probe).needsInit = (r₀.probe q.probe).needsInit))
    ∧ (y.poll ≠ .aborting → exec (.abortStopEnd n) s = .next s)
    ∧ (y.poll = .aborting → y.queue = [] →
        exec (.abortStopEnd n) s
          = .next (s.after (r₀.modLane n fun y =>
              { y with state := .idle, poll := .absent, transaction := none, scl := .high, sda := .high })))
    ∧ (∀ p rest, y.poll = .aborting → y.queue = p :: rest →
        ∃ r q, exec (.abortStopEnd n) s = .next (s.after r)
          ∧ (r.lane n).state = .busy ∧ (r.lane n).queue = rest ∧ (r.lane n).poll = .poll q ∧ q.probe = p
          ∧ (r.probe p).run = .active ∧ (∀ k, k ≠ p → r.probe k = r₀.probe k) ∧ r.sleds = r₀.sleds)
    ∧ (¬recovers → (∀ sda, exec (.recoveryAttemptEnd n sda) s = .next s) ∧ exec (.recoveryAttemptTimeout n) s = .next s)
    ∧ (recovers → y.queue = [] →
        exec (.recoveryAttemptEnd n .high) s
          = .next (s.after
              { r₀.modLane n fun y =>
                  { y with
                    state := .idle, attempts := 0, attempt := none, recoveries := sat y.recoveries, scl := .high, sda := .high } with
                probes := mapAt (fun p x => if laneOfProbe p = n then { x with needsInit := true } else x) r₀.probes }))
    ∧ (∀ p rest, recovers → y.queue = p :: rest →
        ∃ r q, exec (.recoveryAttemptEnd n .high) s = .next (s.after r)
          ∧ (r.lane n).state = .busy ∧ (r.lane n).recoveries = sat y.recoveries ∧ (r.lane n).attempts = 0
          ∧ (r.lane n).queue = rest ∧ (r.lane n).poll = .poll q ∧ q.probe = p
          ∧ (∀ k, r.probe k =
              { r₀.probe k with
                run := if k = p then .active else (r₀.probe k).run
                needsInit := if laneOfProbe k = n then true else (r₀.probe k).needsInit }))
    ∧ (recovers → y.attempts < 3 →
        (∃ pins, exec (.recoveryAttemptEnd n .low) s = .next (s.after (begins (y.attempts + 1) pins (checked .low))))
        ∧ ∃ pins pins', exec (.recoveryAttemptTimeout n) s = .next (s.after (begins (y.attempts + 1) pins' (abandons pins))))
    ∧ (recovers → 3 ≤ y.attempts →
        exec (.recoveryAttemptEnd n .low) s = .next (s.after (givesUp (checked .low)))
        ∧ (∃ pins, exec (.recoveryAttemptTimeout n) s = .next (s.after (givesUp (abandons pins))))
        ∧ ∀ r, r = checked .low ∨ (∃ pins, r = abandons pins) →
            let t := givesUp r
            (t.lane n).state = .failed ∧ (t.lane n).attempts = 3 ∧ (t.lane n).attempt = none ∧ (t.lane n).queue = []
            ∧ (∀ p ∈ y.queue, (t.probe p).run = .idle ∧ (t.probe p).lastReason = some .laneFailed)))
  ∧ (∀ samples : List Pin,
      let pulse : List PinStep := [.sclRelease, .waitSclHigh, .halfPeriod, .sampleSda, .sclLow]
      let stop : List PinStep := [.sdaLow, .sclRelease, .waitSclHigh, .halfPeriod, .sdaRelease, .halfPeriod, .sampleSda]
      let course (k : Nat) : List PinStep := .sdaRelease :: (List.replicate k pulse).flatten ++ stop
      (∀ k, k < 9 → (∀ j, j < k → samples[j]? = some .low) → samples[k]? = some .high → recoverySteps samples = course (k + 1))
      ∧ ((∀ j, j < 9 → samples[j]? = some .low) → recoverySteps samples = course 9))
  ∧ (∀ (pulses : List (List Reading × Pin × Reading)) (held later : List Reading) (level : Pin) (check : Reading),
      pulses.length ≤ 9 → (∀ x ∈ pulses, ∀ y ∈ x.1, y.scl = .low) → (∀ y ∈ held, y.scl = .low) →
      (∀ x ∈ pulses.dropLast, x.2.2.sda = .low) →
      let readings := pulses.flatMap fun x => x.1 ++ [{ scl := .high, sda := x.2.1 }, x.2.2]
      (pulses.length = 9 ∨ (pulses.getLast?.map fun x => x.2.2.sda) = some .high) →
        hearRecovery (readings ++ held) = none
        ∧ hearRecovery (readings ++ held ++ { scl := .high, sda := level } :: check :: later) = some check.sda)
  ∧ (∀ (n : LaneNo) (s : State) (begun : List BusStep) (readings : List Reading), s.inReset = false →
      ((s.run.lane n).state = .recover →
        s.laneHears n begun readings = (hearRecovery readings).map fun sda => .recoveryAttemptEnd n sda)
      ∧ ((s.run.lane n).state = .busy → (s.run.lane n).poll = .aborting →
          s.laneHears n begun readings = if hear (cutShort begun) readings = .unfinished then none else some (.abortStopEnd n)))
  ∧ ∀ (begun : List BusStep) (b : Byte) (a : Bool),
      cutShort (begun ++ [.send b]) = begun ++ [.send b, .stop]
      ∧ cutShort (begun ++ [.receive a]) = begun ++ [.receive false, .stop]
      ∧ cutShort (begun ++ [.start]) = begun ++ [.start, .stop]
      ∧ cutShort (begun ++ [.repeatedStart]) = begun ++ [.repeatedStart, .stop]
      ∧ cutShort (begun ++ [.stop]) = begun ++ [.stop]

/-! ## What the part shows without being asked -/

/-- The grant level is the loosest level whose cost the grant and the loan cover, also of a sled with no grant (assumption 14),
L15 where none is; the target is the tightest of the terms present (R11, R12); the THR line follows the sled's state, the
carrier and the polarity (R10); ALARM_N is asserted while the severe record is valid or the mode is SAFE, and released in reset
(R147). LINK_TX is high while the transmitter is IDLE and in reset, and else carries the bytes of the frame in hand back to
back, each as start bit, data bits with the least significant first, and stop bit (R161, R171). A lane releases SCL and SDA in
reset, while it is IDLE or FAILED, and in SETTLE and WAIT; when work begins, and at the end of every transaction and of every
attempt, both are released; a byte is eight bits and an acknowledge bit, each set while SCL is low (R106, R107, R109, R111,
R116, R126, R127). -/
def Obligations.TargetsAndOutputsFollowTheState : Prop :=
  (∀ (c : Cfg) (r : Run) (i : Sled), (r.life i).state ≠ .disabled →
    let units := (r.books i).grant + (r.books i).loan
    let g := r.grantLevel c i
    (∀ k, costAt c i k ≤ units → g ≤ k) ∧ (costAt c i g ≤ units ∨ g = 15))
  ∧ (∀ (c : Cfg) (r : Run) (i : Sled),
      let st := (r.life i).state
      let entering := st = .admitting ∨ st = .tracking
      (r.target c i).val
        = max (r.grantLevel c i).val
            (max (match (r.therm i).state with
                | .cool => 0
                | .warm => c.globals.warmCeiling.val
                | .hot => c.globals.hotCeiling.val)
              (max (if r.mode = .safe ∧ entering then 15 else 0)
                (max (if r.mode = .run ∧ r.zone.state = .emergency ∧ entering then c.globals.emergencyLevel.val else 0)
                  (if st = .tracking then 0 else 15)))))
  ∧ (∀ (s : State) (i : Sled),
      let st := (s.run.life i).state
      let x := (s.run.chan i).carrier
      let admits := (s.cfg.sled i).polarity.level true
      let holds := (s.cfg.sled i).polarity.level false
      (s.inReset = true → s.thr i = .low ∧ s.alarm = false)
      ∧ (s.inReset = false →
          (st = .disabled → s.thr i = .highZ)
          ∧ (st = .absent → s.thr i = holds)
          ∧ (st ≠ .disabled → st ≠ .absent → s.thr i = if x = .admitting then admits else holds)
          ∧ (s.alarm = true ↔ s.run.severe.first ≠ none ∨ s.run.mode = .safe)))
  ∧ (∀ (s : State) (bit : Nat),
      (s.inReset = true ∨ s.link.tx = none → s.linkTx bit = .high)
      ∧ ∀ o, s.inReset = false → s.link.tx = some o →
          (10 * o.frame.wire.length ≤ bit → s.linkTx bit = .high)
          ∧ ∀ b, o.frame.wire[bit / 10]? = some b →
              s.linkTx bit
                = (if bit % 10 = 0 then .low
                  else if bit % 10 = 9 then .high
                  else if b.getLsbD (bit % 10 - 1) then .high else .low))
  ∧ (∀ (s : State) (n : LaneNo) (course : List PinStep),
      let y := s.run.lane n
      let free : Pull := { scl := false, sda := false }
      (s.inReset = true ∨ y.state = .idle ∨ y.state = .failed
          ∨ (∃ q, y.state = .busy ∧ y.poll = .poll q ∧ (q.phase = .settle ∨ q.phase = .wait)) →
        s.lanePull n course = free)
      ∧ s.lanePull n [] = free
      ∧ (∀ q t, s.inReset = false → y.state = .busy → y.poll = .poll q → q.openTransaction s.cfg = some t →
          s.lanePull n course = pullAfter course ∧ s.lanePull n (t.flatMap BusStep.pins) = free))
  ∧ (∀ samples, pullAfter (recoverySteps samples) = { scl := false, sda := false })
  ∧ ∀ (b : Byte) (a : Bool),
      let bit (v : Bool) : List PinStep :=
        [if v then .sdaRelease else .sdaLow, .sclRelease, .waitSclHigh, .sampleSda, .halfPeriod, .sclLow]
      (BusStep.send b).pins
          = bit (b.getLsbD 7) ++ bit (b.getLsbD 6) ++ bit (b.getLsbD 5) ++ bit (b.getLsbD 4) ++ bit (b.getLsbD 3)
            ++ bit (b.getLsbD 2) ++ bit (b.getLsbD 1) ++ bit (b.getLsbD 0) ++ bit true
      ∧ (BusStep.receive a).pins = (List.replicate 8 (bit true)).flatten ++ bit (!a)
      ∧ BusStep.start.pins = [.waitBusFree, .sdaLow, .halfPeriod, .sclLow]
      ∧ BusStep.repeatedStart.pins = [.sdaRelease, .sclRelease, .waitSclHigh, .sdaLow, .halfPeriod, .sclLow]
      ∧ BusStep.stop.pins = [.sdaLow, .sclRelease, .waitSclHigh, .sdaRelease, .waitSdaHigh]
end

