-- ==== Sys2Proof/Laws/State.lean ====
section
/-! SUPPORT. Reading a record after an update: vectors, then one lemma per field for each update of the running part, so
that no proof unfolds a record update. -/

namespace Sys2Proof.Machine

open Sys2Proof

/-! ## Vectors -/

@[simp] theorem tabulate_get {α : Type} {n : Nat} (f : Fin n → α) (i : Fin n) : (tabulate f).get i = f i := by
  show (List.ofFn f).toArray[i.val]'(by simp) = f i
  simp

@[simp] theorem mapAt_get {α β : Type} {n : Nat} (f : Fin n → α → β) (v : Vector α n) (i : Fin n) :
    (mapAt f v).get i = f i (v.get i) := by
  simp [mapAt]

@[simp] theorem modAt_get_self {α : Type} {n : Nat} (i : Fin n) (f : α → α) (v : Vector α n) :
    (modAt i f v).get i = f (v.get i) := by
  show (v.set i.val (f (v.get i)) i.isLt)[i.val] = _
  simp

theorem modAt_get_other {α : Type} {n : Nat} {i j : Fin n} (h : j ≠ i) (f : α → α) (v : Vector α n) :
    (modAt i f v).get j = v.get j := by
  have hne : i.val ≠ j.val := fun e => h (Fin.ext e.symm)
  show (v.set i.val (f (v.get i)) i.isLt)[j.val] = v[j.val]
  exact Vector.getElem_set_ne _ _ hne

/-- A changed vector, read anywhere. -/
theorem modAt_get {α : Type} {n : Nat} (i j : Fin n) (f : α → α) (v : Vector α n) :
    (modAt i f v).get j = if j = i then f (v.get i) else v.get j := by
  by_cases h : j = i
  · subst h; simp
  · simp [h, modAt_get_other h]

/-- Two vectors that agree at every index are one. -/
theorem vector_ext {α : Type} {n : Nat} {v w : Vector α n} (h : ∀ i, v.get i = w.get i) : v = w :=
  Vector.ext fun i hi => h ⟨i, hi⟩

/-- Two changes of one entry are one change. -/
theorem modAt_modAt {α : Type} {n : Nat} (i : Fin n) (f g : α → α) (v : Vector α n) :
    modAt i f (modAt i g v) = modAt i (fun x => f (g x)) v :=
  vector_ext fun j => by simp only [modAt_get]; split <;> simp_all

/-- A change counts only by what it makes of the entry it finds. -/
theorem modAt_congr {α : Type} {n : Nat} {i : Fin n} {f g : α → α} {v : Vector α n} (h : f (v.get i) = g (v.get i)) :
    modAt i f v = modAt i g v := by
  simp only [modAt, h]

theorem modAt_of_fixed {α : Type} {n : Nat} {i : Fin n} {f : α → α} {v : Vector α n} (h : f (v.get i) = v.get i) :
    modAt i f v = v :=
  vector_ext fun j => by simp only [modAt_get]; split <;> simp_all

/-! ## Updates of the running part -/

@[simp] theorem Run.modSled_clock (r : Run) (i : Sled) (f : SledRun → SledRun) : (r.modSled i f).clock = r.clock := rfl
@[simp] theorem Run.modSled_mode (r : Run) (i : Sled) (f : SledRun → SledRun) : (r.modSled i f).mode = r.mode := rfl
@[simp] theorem Run.modSled_cause (r : Run) (i : Sled) (f : SledRun → SledRun) : (r.modSled i f).cause = r.cause := rfl
@[simp] theorem Run.modSled_validation (r : Run) (i : Sled) (f : SledRun → SledRun) : (r.modSled i f).validation = r.validation := rfl
@[simp] theorem Run.modSled_pool (r : Run) (i : Sled) (f : SledRun → SledRun) : (r.modSled i f).pool = r.pool := rfl
@[simp] theorem Run.modSled_sleds (r : Run) (i : Sled) (f : SledRun → SledRun) : (r.modSled i f).sleds = modAt i f r.sleds := rfl
@[simp] theorem Run.modSled_queue (r : Run) (i : Sled) (f : SledRun → SledRun) : (r.modSled i f).queue = r.queue := rfl
@[simp] theorem Run.modSled_raiseOrder (r : Run) (i : Sled) (f : SledRun → SledRun) : (r.modSled i f).raiseOrder = r.raiseOrder := rfl
@[simp] theorem Run.modSled_boostList (r : Run) (i : Sled) (f : SledRun → SledRun) : (r.modSled i f).boostList = r.boostList := rfl
@[simp] theorem Run.modSled_arbiterDue (r : Run) (i : Sled) (f : SledRun → SledRun) : (r.modSled i f).arbiterDue = r.arbiterDue := rfl
@[simp] theorem Run.modSled_zone (r : Run) (i : Sled) (f : SledRun → SledRun) : (r.modSled i f).zone = r.zone := rfl
@[simp] theorem Run.modSled_lanes (r : Run) (i : Sled) (f : SledRun → SledRun) : (r.modSled i f).lanes = r.lanes := rfl
@[simp] theorem Run.modSled_probes (r : Run) (i : Sled) (f : SledRun → SledRun) : (r.modSled i f).probes = r.probes := rfl
@[simp] theorem Run.modSled_severe (r : Run) (i : Sled) (f : SledRun → SledRun) : (r.modSled i f).severe = r.severe := rfl
@[simp] theorem Run.modSled_advisory (r : Run) (i : Sled) (f : SledRun → SledRun) : (r.modSled i f).advisory = r.advisory := rfl
@[simp] theorem Run.modSled_notices (r : Run) (i : Sled) (f : SledRun → SledRun) : (r.modSled i f).notices = r.notices := rfl
@[simp] theorem Run.modSled_free (r : Run) (i : Sled) (f : SledRun → SledRun) : (r.modSled i f).free = r.free := rfl

@[simp] theorem Run.modProbe_clock (r : Run) (p : Probe) (f : ProbeRun → ProbeRun) : (r.modProbe p f).clock = r.clock := rfl
@[simp] theorem Run.modProbe_mode (r : Run) (p : Probe) (f : ProbeRun → ProbeRun) : (r.modProbe p f).mode = r.mode := rfl
@[simp] theorem Run.modProbe_cause (r : Run) (p : Probe) (f : ProbeRun → ProbeRun) : (r.modProbe p f).cause = r.cause := rfl
@[simp] theorem Run.modProbe_validation (r : Run) (p : Probe) (f : ProbeRun → ProbeRun) : (r.modProbe p f).validation = r.validation := rfl
@[simp] theorem Run.modProbe_pool (r : Run) (p : Probe) (f : ProbeRun → ProbeRun) : (r.modProbe p f).pool = r.pool := rfl
@[simp] theorem Run.modProbe_sleds (r : Run) (p : Probe) (f : ProbeRun → ProbeRun) : (r.modProbe p f).sleds = r.sleds := rfl
@[simp] theorem Run.modProbe_queue (r : Run) (p : Probe) (f : ProbeRun → ProbeRun) : (r.modProbe p f).queue = r.queue := rfl
@[simp] theorem Run.modProbe_raiseOrder (r : Run) (p : Probe) (f : ProbeRun → ProbeRun) : (r.modProbe p f).raiseOrder = r.raiseOrder := rfl
@[simp] theorem Run.modProbe_boostList (r : Run) (p : Probe) (f : ProbeRun → ProbeRun) : (r.modProbe p f).boostList = r.boostList := rfl
@[simp] theorem Run.modProbe_arbiterDue (r : Run) (p : Probe) (f : ProbeRun → ProbeRun) : (r.modProbe p f).arbiterDue = r.arbiterDue := rfl
@[simp] theorem Run.modProbe_zone (r : Run) (p : Probe) (f : ProbeRun → ProbeRun) : (r.modProbe p f).zone = r.zone := rfl
@[simp] theorem Run.modProbe_lanes (r : Run) (p : Probe) (f : ProbeRun → ProbeRun) : (r.modProbe p f).lanes = r.lanes := rfl
@[simp] theorem Run.modProbe_probes (r : Run) (p : Probe) (f : ProbeRun → ProbeRun) : (r.modProbe p f).probes = modAt p f r.probes := rfl
@[simp] theorem Run.modProbe_severe (r : Run) (p : Probe) (f : ProbeRun → ProbeRun) : (r.modProbe p f).severe = r.severe := rfl
@[simp] theorem Run.modProbe_advisory (r : Run) (p : Probe) (f : ProbeRun → ProbeRun) : (r.modProbe p f).advisory = r.advisory := rfl
@[simp] theorem Run.modProbe_notices (r : Run) (p : Probe) (f : ProbeRun → ProbeRun) : (r.modProbe p f).notices = r.notices := rfl
@[simp] theorem Run.modProbe_free (r : Run) (p : Probe) (f : ProbeRun → ProbeRun) : (r.modProbe p f).free = r.free := rfl

@[simp] theorem Run.modLane_clock (r : Run) (n : LaneNo) (f : Lane → Lane) : (r.modLane n f).clock = r.clock := rfl
@[simp] theorem Run.modLane_mode (r : Run) (n : LaneNo) (f : Lane → Lane) : (r.modLane n f).mode = r.mode := rfl
@[simp] theorem Run.modLane_cause (r : Run) (n : LaneNo) (f : Lane → Lane) : (r.modLane n f).cause = r.cause := rfl
@[simp] theorem Run.modLane_validation (r : Run) (n : LaneNo) (f : Lane → Lane) : (r.modLane n f).validation = r.validation := rfl
@[simp] theorem Run.modLane_pool (r : Run) (n : LaneNo) (f : Lane → Lane) : (r.modLane n f).pool = r.pool := rfl
@[simp] theorem Run.modLane_sleds (r : Run) (n : LaneNo) (f : Lane → Lane) : (r.modLane n f).sleds = r.sleds := rfl
@[simp] theorem Run.modLane_queue (r : Run) (n : LaneNo) (f : Lane → Lane) : (r.modLane n f).queue = r.queue := rfl
@[simp] theorem Run.modLane_raiseOrder (r : Run) (n : LaneNo) (f : Lane → Lane) : (r.modLane n f).raiseOrder = r.raiseOrder := rfl
@[simp] theorem Run.modLane_boostList (r : Run) (n : LaneNo) (f : Lane → Lane) : (r.modLane n f).boostList = r.boostList := rfl
@[simp] theorem Run.modLane_arbiterDue (r : Run) (n : LaneNo) (f : Lane → Lane) : (r.modLane n f).arbiterDue = r.arbiterDue := rfl
@[simp] theorem Run.modLane_zone (r : Run) (n : LaneNo) (f : Lane → Lane) : (r.modLane n f).zone = r.zone := rfl
@[simp] theorem Run.modLane_lanes (r : Run) (n : LaneNo) (f : Lane → Lane) : (r.modLane n f).lanes = modAt n f r.lanes := rfl
@[simp] theorem Run.modLane_probes (r : Run) (n : LaneNo) (f : Lane → Lane) : (r.modLane n f).probes = r.probes := rfl
@[simp] theorem Run.modLane_severe (r : Run) (n : LaneNo) (f : Lane → Lane) : (r.modLane n f).severe = r.severe := rfl
@[simp] theorem Run.modLane_advisory (r : Run) (n : LaneNo) (f : Lane → Lane) : (r.modLane n f).advisory = r.advisory := rfl
@[simp] theorem Run.modLane_notices (r : Run) (n : LaneNo) (f : Lane → Lane) : (r.modLane n f).notices = r.notices := rfl
@[simp] theorem Run.modLane_free (r : Run) (n : LaneNo) (f : Lane → Lane) : (r.modLane n f).free = r.free := rfl

@[simp] theorem Run.spendFree_clock (r : Run) : (r.spendFree).clock = r.clock := rfl
@[simp] theorem Run.spendFree_mode (r : Run) : (r.spendFree).mode = r.mode := rfl
@[simp] theorem Run.spendFree_cause (r : Run) : (r.spendFree).cause = r.cause := rfl
@[simp] theorem Run.spendFree_validation (r : Run) : (r.spendFree).validation = r.validation := rfl
@[simp] theorem Run.spendFree_pool (r : Run) : (r.spendFree).pool = r.pool := rfl
@[simp] theorem Run.spendFree_sleds (r : Run) : (r.spendFree).sleds = r.sleds := rfl
@[simp] theorem Run.spendFree_queue (r : Run) : (r.spendFree).queue = r.queue := rfl
@[simp] theorem Run.spendFree_raiseOrder (r : Run) : (r.spendFree).raiseOrder = r.raiseOrder := rfl
@[simp] theorem Run.spendFree_boostList (r : Run) : (r.spendFree).boostList = r.boostList := rfl
@[simp] theorem Run.spendFree_arbiterDue (r : Run) : (r.spendFree).arbiterDue = r.arbiterDue := rfl
@[simp] theorem Run.spendFree_zone (r : Run) : (r.spendFree).zone = r.zone := rfl
@[simp] theorem Run.spendFree_lanes (r : Run) : (r.spendFree).lanes = r.lanes := rfl
@[simp] theorem Run.spendFree_probes (r : Run) : (r.spendFree).probes = r.probes := rfl
@[simp] theorem Run.spendFree_severe (r : Run) : (r.spendFree).severe = r.severe := rfl
@[simp] theorem Run.spendFree_advisory (r : Run) : (r.spendFree).advisory = r.advisory := rfl
@[simp] theorem Run.spendFree_notices (r : Run) : (r.spendFree).notices = r.notices := rfl
@[simp] theorem Run.spendFree_free (r : Run) : (r.spendFree).free = r.free + 1 := rfl

@[simp] theorem Run.triggerIf_clock (r : Run) (b : Bool) : (r.triggerIf b).clock = r.clock := rfl
@[simp] theorem Run.triggerIf_mode (r : Run) (b : Bool) : (r.triggerIf b).mode = r.mode := rfl
@[simp] theorem Run.triggerIf_cause (r : Run) (b : Bool) : (r.triggerIf b).cause = r.cause := rfl
@[simp] theorem Run.triggerIf_validation (r : Run) (b : Bool) : (r.triggerIf b).validation = r.validation := rfl
@[simp] theorem Run.triggerIf_pool (r : Run) (b : Bool) : (r.triggerIf b).pool = r.pool := rfl
@[simp] theorem Run.triggerIf_sleds (r : Run) (b : Bool) : (r.triggerIf b).sleds = r.sleds := rfl
@[simp] theorem Run.triggerIf_queue (r : Run) (b : Bool) : (r.triggerIf b).queue = r.queue := rfl
@[simp] theorem Run.triggerIf_raiseOrder (r : Run) (b : Bool) : (r.triggerIf b).raiseOrder = r.raiseOrder := rfl
@[simp] theorem Run.triggerIf_boostList (r : Run) (b : Bool) : (r.triggerIf b).boostList = r.boostList := rfl
@[simp] theorem Run.triggerIf_arbiterDue (r : Run) (b : Bool) : (r.triggerIf b).arbiterDue = (r.arbiterDue || b) := rfl
@[simp] theorem Run.triggerIf_zone (r : Run) (b : Bool) : (r.triggerIf b).zone = r.zone := rfl
@[simp] theorem Run.triggerIf_lanes (r : Run) (b : Bool) : (r.triggerIf b).lanes = r.lanes := rfl
@[simp] theorem Run.triggerIf_probes (r : Run) (b : Bool) : (r.triggerIf b).probes = r.probes := rfl
@[simp] theorem Run.triggerIf_severe (r : Run) (b : Bool) : (r.triggerIf b).severe = r.severe := rfl
@[simp] theorem Run.triggerIf_advisory (r : Run) (b : Bool) : (r.triggerIf b).advisory = r.advisory := rfl
@[simp] theorem Run.triggerIf_notices (r : Run) (b : Bool) : (r.triggerIf b).notices = r.notices := rfl
@[simp] theorem Run.triggerIf_free (r : Run) (b : Bool) : (r.triggerIf b).free = r.free := rfl

@[simp] theorem Run.modChan_clock (r : Run) (i : Sled) (f : Channel → Channel) : (r.modChan i f).clock = r.clock := rfl
@[simp] theorem Run.modChan_mode (r : Run) (i : Sled) (f : Channel → Channel) : (r.modChan i f).mode = r.mode := rfl
@[simp] theorem Run.modChan_cause (r : Run) (i : Sled) (f : Channel → Channel) : (r.modChan i f).cause = r.cause := rfl
@[simp] theorem Run.modChan_validation (r : Run) (i : Sled) (f : Channel → Channel) : (r.modChan i f).validation = r.validation := rfl
@[simp] theorem Run.modChan_pool (r : Run) (i : Sled) (f : Channel → Channel) : (r.modChan i f).pool = r.pool := rfl
@[simp] theorem Run.modChan_sleds (r : Run) (i : Sled) (f : Channel → Channel) : (r.modChan i f).sleds = modAt i (fun x => { x with chan := f x.chan }) r.sleds := rfl
@[simp] theorem Run.modChan_queue (r : Run) (i : Sled) (f : Channel → Channel) : (r.modChan i f).queue = r.queue := rfl
@[simp] theorem Run.modChan_raiseOrder (r : Run) (i : Sled) (f : Channel → Channel) : (r.modChan i f).raiseOrder = r.raiseOrder := rfl
@[simp] theorem Run.modChan_boostList (r : Run) (i : Sled) (f : Channel → Channel) : (r.modChan i f).boostList = r.boostList := rfl
@[simp] theorem Run.modChan_arbiterDue (r : Run) (i : Sled) (f : Channel → Channel) : (r.modChan i f).arbiterDue = r.arbiterDue := rfl
@[simp] theorem Run.modChan_zone (r : Run) (i : Sled) (f : Channel → Channel) : (r.modChan i f).zone = r.zone := rfl
@[simp] theorem Run.modChan_lanes (r : Run) (i : Sled) (f : Channel → Channel) : (r.modChan i f).lanes = r.lanes := rfl
@[simp] theorem Run.modChan_probes (r : Run) (i : Sled) (f : Channel → Channel) : (r.modChan i f).probes = r.probes := rfl
@[simp] theorem Run.modChan_severe (r : Run) (i : Sled) (f : Channel → Channel) : (r.modChan i f).severe = r.severe := rfl
@[simp] theorem Run.modChan_advisory (r : Run) (i : Sled) (f : Channel → Channel) : (r.modChan i f).advisory = r.advisory := rfl
@[simp] theorem Run.modChan_notices (r : Run) (i : Sled) (f : Channel → Channel) : (r.modChan i f).notices = r.notices := rfl
@[simp] theorem Run.modChan_free (r : Run) (i : Sled) (f : Channel → Channel) : (r.modChan i f).free = r.free := rfl

@[simp] theorem Run.modBooks_clock (r : Run) (i : Sled) (f : Books → Books) : (r.modBooks i f).clock = r.clock := rfl
@[simp] theorem Run.modBooks_mode (r : Run) (i : Sled) (f : Books → Books) : (r.modBooks i f).mode = r.mode := rfl
@[simp] theorem Run.modBooks_cause (r : Run) (i : Sled) (f : Books → Books) : (r.modBooks i f).cause = r.cause := rfl
@[simp] theorem Run.modBooks_validation (r : Run) (i : Sled) (f : Books → Books) : (r.modBooks i f).validation = r.validation := rfl
@[simp] theorem Run.modBooks_pool (r : Run) (i : Sled) (f : Books → Books) : (r.modBooks i f).pool = r.pool := rfl
@[simp] theorem Run.modBooks_sleds (r : Run) (i : Sled) (f : Books → Books) : (r.modBooks i f).sleds = modAt i (fun x => { x with books := f x.books }) r.sleds := rfl
@[simp] theorem Run.modBooks_queue (r : Run) (i : Sled) (f : Books → Books) : (r.modBooks i f).queue = r.queue := rfl
@[simp] theorem Run.modBooks_raiseOrder (r : Run) (i : Sled) (f : Books → Books) : (r.modBooks i f).raiseOrder = r.raiseOrder := rfl
@[simp] theorem Run.modBooks_boostList (r : Run) (i : Sled) (f : Books → Books) : (r.modBooks i f).boostList = r.boostList := rfl
@[simp] theorem Run.modBooks_arbiterDue (r : Run) (i : Sled) (f : Books → Books) : (r.modBooks i f).arbiterDue = r.arbiterDue := rfl
@[simp] theorem Run.modBooks_zone (r : Run) (i : Sled) (f : Books → Books) : (r.modBooks i f).zone = r.zone := rfl
@[simp] theorem Run.modBooks_lanes (r : Run) (i : Sled) (f : Books → Books) : (r.modBooks i f).lanes = r.lanes := rfl
@[simp] theorem Run.modBooks_probes (r : Run) (i : Sled) (f : Books → Books) : (r.modBooks i f).probes = r.probes := rfl
@[simp] theorem Run.modBooks_severe (r : Run) (i : Sled) (f : Books → Books) : (r.modBooks i f).severe = r.severe := rfl
@[simp] theorem Run.modBooks_advisory (r : Run) (i : Sled) (f : Books → Books) : (r.modBooks i f).advisory = r.advisory := rfl
@[simp] theorem Run.modBooks_notices (r : Run) (i : Sled) (f : Books → Books) : (r.modBooks i f).notices = r.notices := rfl
@[simp] theorem Run.modBooks_free (r : Run) (i : Sled) (f : Books → Books) : (r.modBooks i f).free = r.free := rfl

@[simp] theorem Run.modLife_clock (r : Run) (i : Sled) (f : Life → Life) : (r.modLife i f).clock = r.clock := rfl
@[simp] theorem Run.modLife_mode (r : Run) (i : Sled) (f : Life → Life) : (r.modLife i f).mode = r.mode := rfl
@[simp] theorem Run.modLife_cause (r : Run) (i : Sled) (f : Life → Life) : (r.modLife i f).cause = r.cause := rfl
@[simp] theorem Run.modLife_validation (r : Run) (i : Sled) (f : Life → Life) : (r.modLife i f).validation = r.validation := rfl
@[simp] theorem Run.modLife_pool (r : Run) (i : Sled) (f : Life → Life) : (r.modLife i f).pool = r.pool := rfl
@[simp] theorem Run.modLife_sleds (r : Run) (i : Sled) (f : Life → Life) : (r.modLife i f).sleds = modAt i (fun x => { x with life := f x.life }) r.sleds := rfl
@[simp] theorem Run.modLife_queue (r : Run) (i : Sled) (f : Life → Life) : (r.modLife i f).queue = r.queue := rfl
@[simp] theorem Run.modLife_raiseOrder (r : Run) (i : Sled) (f : Life → Life) : (r.modLife i f).raiseOrder = r.raiseOrder := rfl
@[simp] theorem Run.modLife_boostList (r : Run) (i : Sled) (f : Life → Life) : (r.modLife i f).boostList = r.boostList := rfl
@[simp] theorem Run.modLife_arbiterDue (r : Run) (i : Sled) (f : Life → Life) : (r.modLife i f).arbiterDue = r.arbiterDue := rfl
@[simp] theorem Run.modLife_zone (r : Run) (i : Sled) (f : Life → Life) : (r.modLife i f).zone = r.zone := rfl
@[simp] theorem Run.modLife_lanes (r : Run) (i : Sled) (f : Life → Life) : (r.modLife i f).lanes = r.lanes := rfl
@[simp] theorem Run.modLife_probes (r : Run) (i : Sled) (f : Life → Life) : (r.modLife i f).probes = r.probes := rfl
@[simp] theorem Run.modLife_severe (r : Run) (i : Sled) (f : Life → Life) : (r.modLife i f).severe = r.severe := rfl
@[simp] theorem Run.modLife_advisory (r : Run) (i : Sled) (f : Life → Life) : (r.modLife i f).advisory = r.advisory := rfl
@[simp] theorem Run.modLife_notices (r : Run) (i : Sled) (f : Life → Life) : (r.modLife i f).notices = r.notices := rfl
@[simp] theorem Run.modLife_free (r : Run) (i : Sled) (f : Life → Life) : (r.modLife i f).free = r.free := rfl

@[simp] theorem Run.modTherm_clock (r : Run) (i : Sled) (f : Thermal → Thermal) : (r.modTherm i f).clock = r.clock := rfl
@[simp] theorem Run.modTherm_mode (r : Run) (i : Sled) (f : Thermal → Thermal) : (r.modTherm i f).mode = r.mode := rfl
@[simp] theorem Run.modTherm_cause (r : Run) (i : Sled) (f : Thermal → Thermal) : (r.modTherm i f).cause = r.cause := rfl
@[simp] theorem Run.modTherm_validation (r : Run) (i : Sled) (f : Thermal → Thermal) : (r.modTherm i f).validation = r.validation := rfl
@[simp] theorem Run.modTherm_pool (r : Run) (i : Sled) (f : Thermal → Thermal) : (r.modTherm i f).pool = r.pool := rfl
@[simp] theorem Run.modTherm_sleds (r : Run) (i : Sled) (f : Thermal → Thermal) : (r.modTherm i f).sleds = modAt i (fun x => { x with therm := f x.therm }) r.sleds := rfl
@[simp] theorem Run.modTherm_queue (r : Run) (i : Sled) (f : Thermal → Thermal) : (r.modTherm i f).queue = r.queue := rfl
@[simp] theorem Run.modTherm_raiseOrder (r : Run) (i : Sled) (f : Thermal → Thermal) : (r.modTherm i f).raiseOrder = r.raiseOrder := rfl
@[simp] theorem Run.modTherm_boostList (r : Run) (i : Sled) (f : Thermal → Thermal) : (r.modTherm i f).boostList = r.boostList := rfl
@[simp] theorem Run.modTherm_arbiterDue (r : Run) (i : Sled) (f : Thermal → Thermal) : (r.modTherm i f).arbiterDue = r.arbiterDue := rfl
@[simp] theorem Run.modTherm_zone (r : Run) (i : Sled) (f : Thermal → Thermal) : (r.modTherm i f).zone = r.zone := rfl
@[simp] theorem Run.modTherm_lanes (r : Run) (i : Sled) (f : Thermal → Thermal) : (r.modTherm i f).lanes = r.lanes := rfl
@[simp] theorem Run.modTherm_probes (r : Run) (i : Sled) (f : Thermal → Thermal) : (r.modTherm i f).probes = r.probes := rfl
@[simp] theorem Run.modTherm_severe (r : Run) (i : Sled) (f : Thermal → Thermal) : (r.modTherm i f).severe = r.severe := rfl
@[simp] theorem Run.modTherm_advisory (r : Run) (i : Sled) (f : Thermal → Thermal) : (r.modTherm i f).advisory = r.advisory := rfl
@[simp] theorem Run.modTherm_notices (r : Run) (i : Sled) (f : Thermal → Thermal) : (r.modTherm i f).notices = r.notices := rfl
@[simp] theorem Run.modTherm_free (r : Run) (i : Sled) (f : Thermal → Thermal) : (r.modTherm i f).free = r.free := rfl

@[simp] theorem Run.modAlert_clock (r : Run) (i : Sled) (f : Alert → Alert) : (r.modAlert i f).clock = r.clock := rfl
@[simp] theorem Run.modAlert_mode (r : Run) (i : Sled) (f : Alert → Alert) : (r.modAlert i f).mode = r.mode := rfl
@[simp] theorem Run.modAlert_cause (r : Run) (i : Sled) (f : Alert → Alert) : (r.modAlert i f).cause = r.cause := rfl
@[simp] theorem Run.modAlert_validation (r : Run) (i : Sled) (f : Alert → Alert) : (r.modAlert i f).validation = r.validation := rfl
@[simp] theorem Run.modAlert_pool (r : Run) (i : Sled) (f : Alert → Alert) : (r.modAlert i f).pool = r.pool := rfl
@[simp] theorem Run.modAlert_sleds (r : Run) (i : Sled) (f : Alert → Alert) : (r.modAlert i f).sleds = modAt i (fun x => { x with alert := f x.alert }) r.sleds := rfl
@[simp] theorem Run.modAlert_queue (r : Run) (i : Sled) (f : Alert → Alert) : (r.modAlert i f).queue = r.queue := rfl
@[simp] theorem Run.modAlert_raiseOrder (r : Run) (i : Sled) (f : Alert → Alert) : (r.modAlert i f).raiseOrder = r.raiseOrder := rfl
@[simp] theorem Run.modAlert_boostList (r : Run) (i : Sled) (f : Alert → Alert) : (r.modAlert i f).boostList = r.boostList := rfl
@[simp] theorem Run.modAlert_arbiterDue (r : Run) (i : Sled) (f : Alert → Alert) : (r.modAlert i f).arbiterDue = r.arbiterDue := rfl
@[simp] theorem Run.modAlert_zone (r : Run) (i : Sled) (f : Alert → Alert) : (r.modAlert i f).zone = r.zone := rfl
@[simp] theorem Run.modAlert_lanes (r : Run) (i : Sled) (f : Alert → Alert) : (r.modAlert i f).lanes = r.lanes := rfl
@[simp] theorem Run.modAlert_probes (r : Run) (i : Sled) (f : Alert → Alert) : (r.modAlert i f).probes = r.probes := rfl
@[simp] theorem Run.modAlert_severe (r : Run) (i : Sled) (f : Alert → Alert) : (r.modAlert i f).severe = r.severe := rfl
@[simp] theorem Run.modAlert_advisory (r : Run) (i : Sled) (f : Alert → Alert) : (r.modAlert i f).advisory = r.advisory := rfl
@[simp] theorem Run.modAlert_notices (r : Run) (i : Sled) (f : Alert → Alert) : (r.modAlert i f).notices = r.notices := rfl
@[simp] theorem Run.modAlert_free (r : Run) (i : Sled) (f : Alert → Alert) : (r.modAlert i f).free = r.free := rfl

/-! ## One record after an update of another -/

theorem Run.modChan_chan (r : Run) (i j : Sled) (f : Channel → Channel) :
    (r.modChan i f).chan j = if j = i then f (r.chan i) else r.chan j := by
  simp only [Run.chan, Run.modChan_sleds, modAt_get]; split <;> rfl
@[simp] theorem Run.modChan_chan_self (r : Run) (i : Sled) (f : Channel → Channel) :
    (r.modChan i f).chan i = f (r.chan i) := by
  simp [Run.modChan_chan]
@[simp] theorem Run.modChan_books (r : Run) (i j : Sled) (f : Channel → Channel) :
    (r.modChan i f).books j = r.books j := by
  simp only [Run.books, Run.modChan_sleds, modAt_get]; split <;> simp_all
@[simp] theorem Run.modChan_life (r : Run) (i j : Sled) (f : Channel → Channel) :
    (r.modChan i f).life j = r.life j := by
  simp only [Run.life, Run.modChan_sleds, modAt_get]; split <;> simp_all
@[simp] theorem Run.modChan_therm (r : Run) (i j : Sled) (f : Channel → Channel) :
    (r.modChan i f).therm j = r.therm j := by
  simp only [Run.therm, Run.modChan_sleds, modAt_get]; split <;> simp_all
@[simp] theorem Run.modChan_alert (r : Run) (i j : Sled) (f : Channel → Channel) :
    (r.modChan i f).alert j = r.alert j := by
  simp only [Run.alert, Run.modChan_sleds, modAt_get]; split <;> simp_all

@[simp] theorem Run.modBooks_chan (r : Run) (i j : Sled) (f : Books → Books) :
    (r.modBooks i f).chan j = r.chan j := by
  simp only [Run.chan, Run.modBooks_sleds, modAt_get]; split <;> simp_all
theorem Run.modBooks_books (r : Run) (i j : Sled) (f : Books → Books) :
    (r.modBooks i f).books j = if j = i then f (r.books i) else r.books j := by
  simp only [Run.books, Run.modBooks_sleds, modAt_get]; split <;> rfl
@[simp] theorem Run.modBooks_books_self (r : Run) (i : Sled) (f : Books → Books) :
    (r.modBooks i f).books i = f (r.books i) := by
  simp [Run.modBooks_books]
@[simp] theorem Run.modBooks_life (r : Run) (i j : Sled) (f : Books → Books) :
    (r.modBooks i f).life j = r.life j := by
  simp only [Run.life, Run.modBooks_sleds, modAt_get]; split <;> simp_all
@[simp] theorem Run.modBooks_therm (r : Run) (i j : Sled) (f : Books → Books) :
    (r.modBooks i f).therm j = r.therm j := by
  simp only [Run.therm, Run.modBooks_sleds, modAt_get]; split <;> simp_all
@[simp] theorem Run.modBooks_alert (r : Run) (i j : Sled) (f : Books → Books) :
    (r.modBooks i f).alert j = r.alert j := by
  simp only [Run.alert, Run.modBooks_sleds, modAt_get]; split <;> simp_all

@[simp] theorem Run.modLife_chan (r : Run) (i j : Sled) (f : Life → Life) :
    (r.modLife i f).chan j = r.chan j := by
  simp only [Run.chan, Run.modLife_sleds, modAt_get]; split <;> simp_all
@[simp] theorem Run.modLife_books (r : Run) (i j : Sled) (f : Life → Life) :
    (r.modLife i f).books j = r.books j := by
  simp only [Run.books, Run.modLife_sleds, modAt_get]; split <;> simp_all
theorem Run.modLife_life (r : Run) (i j : Sled) (f : Life → Life) :
    (r.modLife i f).life j = if j = i then f (r.life i) else r.life j := by
  simp only [Run.life, Run.modLife_sleds, modAt_get]; split <;> rfl
@[simp] theorem Run.modLife_life_self (r : Run) (i : Sled) (f : Life → Life) :
    (r.modLife i f).life i = f (r.life i) := by
  simp [Run.modLife_life]
@[simp] theorem Run.modLife_therm (r : Run) (i j : Sled) (f : Life → Life) :
    (r.modLife i f).therm j = r.therm j := by
  simp only [Run.therm, Run.modLife_sleds, modAt_get]; split <;> simp_all
@[simp] theorem Run.modLife_alert (r : Run) (i j : Sled) (f : Life → Life) :
    (r.modLife i f).alert j = r.alert j := by
  simp only [Run.alert, Run.modLife_sleds, modAt_get]; split <;> simp_all

@[simp] theorem Run.modTherm_chan (r : Run) (i j : Sled) (f : Thermal → Thermal) :
    (r.modTherm i f).chan j = r.chan j := by
  simp only [Run.chan, Run.modTherm_sleds, modAt_get]; split <;> simp_all
@[simp] theorem Run.modTherm_books (r : Run) (i j : Sled) (f : Thermal → Thermal) :
    (r.modTherm i f).books j = r.books j := by
  simp only [Run.books, Run.modTherm_sleds, modAt_get]; split <;> simp_all
@[simp] theorem Run.modTherm_life (r : Run) (i j : Sled) (f : Thermal → Thermal) :
    (r.modTherm i f).life j = r.life j := by
  simp only [Run.life, Run.modTherm_sleds, modAt_get]; split <;> simp_all
theorem Run.modTherm_therm (r : Run) (i j : Sled) (f : Thermal → Thermal) :
    (r.modTherm i f).therm j = if j = i then f (r.therm i) else r.therm j := by
  simp only [Run.therm, Run.modTherm_sleds, modAt_get]; split <;> rfl
@[simp] theorem Run.modTherm_therm_self (r : Run) (i : Sled) (f : Thermal → Thermal) :
    (r.modTherm i f).therm i = f (r.therm i) := by
  simp [Run.modTherm_therm]
@[simp] theorem Run.modTherm_alert (r : Run) (i j : Sled) (f : Thermal → Thermal) :
    (r.modTherm i f).alert j = r.alert j := by
  simp only [Run.alert, Run.modTherm_sleds, modAt_get]; split <;> simp_all

@[simp] theorem Run.modAlert_chan (r : Run) (i j : Sled) (f : Alert → Alert) :
    (r.modAlert i f).chan j = r.chan j := by
  simp only [Run.chan, Run.modAlert_sleds, modAt_get]; split <;> simp_all
@[simp] theorem Run.modAlert_books (r : Run) (i j : Sled) (f : Alert → Alert) :
    (r.modAlert i f).books j = r.books j := by
  simp only [Run.books, Run.modAlert_sleds, modAt_get]; split <;> simp_all
@[simp] theorem Run.modAlert_life (r : Run) (i j : Sled) (f : Alert → Alert) :
    (r.modAlert i f).life j = r.life j := by
  simp only [Run.life, Run.modAlert_sleds, modAt_get]; split <;> simp_all
@[simp] theorem Run.modAlert_therm (r : Run) (i j : Sled) (f : Alert → Alert) :
    (r.modAlert i f).therm j = r.therm j := by
  simp only [Run.therm, Run.modAlert_sleds, modAt_get]; split <;> simp_all
theorem Run.modAlert_alert (r : Run) (i j : Sled) (f : Alert → Alert) :
    (r.modAlert i f).alert j = if j = i then f (r.alert i) else r.alert j := by
  simp only [Run.alert, Run.modAlert_sleds, modAt_get]; split <;> rfl
@[simp] theorem Run.modAlert_alert_self (r : Run) (i : Sled) (f : Alert → Alert) :
    (r.modAlert i f).alert i = f (r.alert i) := by
  simp [Run.modAlert_alert]

theorem Run.modProbe_probe (r : Run) (p q : Probe) (f : ProbeRun → ProbeRun) :
    (r.modProbe p f).probe q = if q = p then f (r.probe p) else r.probe q := by
  simp only [Run.probe, Run.modProbe_probes, modAt_get]

@[simp] theorem Run.modProbe_probe_self (r : Run) (p : Probe) (f : ProbeRun → ProbeRun) :
    (r.modProbe p f).probe p = f (r.probe p) := by
  simp [Run.modProbe_probe]

theorem Run.modProbe_modProbe (r : Run) (p : Probe) (f g : ProbeRun → ProbeRun) :
    (r.modProbe p g).modProbe p f = r.modProbe p fun x => f (g x) := by
  simp only [Run.modProbe, modAt_modAt]

theorem Run.modLane_modLane (r : Run) (n : LaneNo) (f g : Lane → Lane) :
    (r.modLane n g).modLane n f = r.modLane n fun x => f (g x) := by
  simp only [Run.modLane, modAt_modAt]

theorem Run.modAlert_modAlert (r : Run) (i : Sled) (f g : Alert → Alert) :
    (r.modAlert i g).modAlert i f = r.modAlert i fun x => f (g x) := by
  simp only [Run.modAlert, Run.modSled, modAt_modAt]

theorem Run.modLife_modLife (r : Run) (i : Sled) (f g : Life → Life) :
    (r.modLife i g).modLife i f = r.modLife i fun x => f (g x) := by
  simp only [Run.modLife, Run.modSled, modAt_modAt]

theorem Run.modBooks_modBooks (r : Run) (i : Sled) (f g : Books → Books) :
    (r.modBooks i g).modBooks i f = r.modBooks i fun x => f (g x) := by
  simp only [Run.modBooks, Run.modSled, modAt_modAt]

theorem Run.modTherm_modTherm (r : Run) (i : Sled) (f g : Thermal → Thermal) :
    (r.modTherm i g).modTherm i f = r.modTherm i fun x => f (g x) := by
  simp only [Run.modTherm, Run.modSled, modAt_modAt]

theorem Run.modAlert_congr {r : Run} {i : Sled} {f g : Alert → Alert} (h : f (r.alert i) = g (r.alert i)) :
    r.modAlert i f = r.modAlert i g := by
  simp only [Run.modAlert, Run.modSled]
  rw [modAt_congr (g := fun x => { x with alert := g x.alert })]
  exact congrArg (fun a => { r.sleds.get i with alert := a }) h

theorem Run.modLife_congr {r : Run} {i : Sled} {f g : Life → Life} (h : f (r.life i) = g (r.life i)) :
    r.modLife i f = r.modLife i g := by
  simp only [Run.modLife, Run.modSled]
  rw [modAt_congr (g := fun x => { x with life := g x.life })]
  exact congrArg (fun a => { r.sleds.get i with life := a }) h

theorem Run.modTherm_congr {r : Run} {i : Sled} {f g : Thermal → Thermal} (h : f (r.therm i) = g (r.therm i)) :
    r.modTherm i f = r.modTherm i g := by
  simp only [Run.modTherm, Run.modSled]
  rw [modAt_congr (g := fun x => { x with therm := g x.therm })]
  exact congrArg (fun a => { r.sleds.get i with therm := a }) h

theorem Run.modChan_congr {r : Run} {i : Sled} {f g : Channel → Channel} (h : f (r.chan i) = g (r.chan i)) :
    r.modChan i f = r.modChan i g := by
  simp only [Run.modChan, Run.modSled]
  rw [modAt_congr (g := fun x => { x with chan := g x.chan })]
  exact congrArg (fun a => { r.sleds.get i with chan := a }) h

theorem Run.modProbe_congr {r : Run} {p : Probe} {f g : ProbeRun → ProbeRun} (h : f (r.probe p) = g (r.probe p)) :
    r.modProbe p f = r.modProbe p g := by
  simp only [Run.modProbe, modAt_congr (show f (r.probes.get p) = g (r.probes.get p) from h)]

theorem Run.modLane_congr {r : Run} {n : LaneNo} {f g : Lane → Lane} (h : f (r.lane n) = g (r.lane n)) :
    r.modLane n f = r.modLane n g := by
  simp only [Run.modLane, modAt_congr (show f (r.lanes.get n) = g (r.lanes.get n) from h)]

theorem Run.modLane_lane (r : Run) (n m : LaneNo) (f : Lane → Lane) :
    (r.modLane n f).lane m = if m = n then f (r.lane n) else r.lane m := by
  simp only [Run.lane, Run.modLane_lanes, modAt_get]

@[simp] theorem Run.modLane_lane_self (r : Run) (n : LaneNo) (f : Lane → Lane) :
    (r.modLane n f).lane n = f (r.lane n) := by
  simp [Run.modLane_lane]

@[simp] theorem Run.modProbe_chan (r : Run) (p : Probe) (f : ProbeRun → ProbeRun) (j : Sled) : (r.modProbe p f).chan j = r.chan j := rfl
@[simp] theorem Run.modProbe_books (r : Run) (p : Probe) (f : ProbeRun → ProbeRun) (j : Sled) : (r.modProbe p f).books j = r.books j := rfl
@[simp] theorem Run.modProbe_life (r : Run) (p : Probe) (f : ProbeRun → ProbeRun) (j : Sled) : (r.modProbe p f).life j = r.life j := rfl
@[simp] theorem Run.modProbe_therm (r : Run) (p : Probe) (f : ProbeRun → ProbeRun) (j : Sled) : (r.modProbe p f).therm j = r.therm j := rfl
@[simp] theorem Run.modProbe_alert (r : Run) (p : Probe) (f : ProbeRun → ProbeRun) (j : Sled) : (r.modProbe p f).alert j = r.alert j := rfl

@[simp] theorem Run.modLane_chan (r : Run) (n : LaneNo) (f : Lane → Lane) (j : Sled) : (r.modLane n f).chan j = r.chan j := rfl
@[simp] theorem Run.modLane_books (r : Run) (n : LaneNo) (f : Lane → Lane) (j : Sled) : (r.modLane n f).books j = r.books j := rfl
@[simp] theorem Run.modLane_life (r : Run) (n : LaneNo) (f : Lane → Lane) (j : Sled) : (r.modLane n f).life j = r.life j := rfl
@[simp] theorem Run.modLane_therm (r : Run) (n : LaneNo) (f : Lane → Lane) (j : Sled) : (r.modLane n f).therm j = r.therm j := rfl
@[simp] theorem Run.modLane_alert (r : Run) (n : LaneNo) (f : Lane → Lane) (j : Sled) : (r.modLane n f).alert j = r.alert j := rfl

@[simp] theorem Run.spendFree_chan (r : Run) (j : Sled) : (r.spendFree).chan j = r.chan j := rfl
@[simp] theorem Run.spendFree_books (r : Run) (j : Sled) : (r.spendFree).books j = r.books j := rfl
@[simp] theorem Run.spendFree_life (r : Run) (j : Sled) : (r.spendFree).life j = r.life j := rfl
@[simp] theorem Run.spendFree_therm (r : Run) (j : Sled) : (r.spendFree).therm j = r.therm j := rfl
@[simp] theorem Run.spendFree_alert (r : Run) (j : Sled) : (r.spendFree).alert j = r.alert j := rfl

@[simp] theorem Run.triggerIf_chan (r : Run) (b : Bool) (j : Sled) : (r.triggerIf b).chan j = r.chan j := rfl
@[simp] theorem Run.triggerIf_books (r : Run) (b : Bool) (j : Sled) : (r.triggerIf b).books j = r.books j := rfl
@[simp] theorem Run.triggerIf_life (r : Run) (b : Bool) (j : Sled) : (r.triggerIf b).life j = r.life j := rfl
@[simp] theorem Run.triggerIf_therm (r : Run) (b : Bool) (j : Sled) : (r.triggerIf b).therm j = r.therm j := rfl
@[simp] theorem Run.triggerIf_alert (r : Run) (b : Bool) (j : Sled) : (r.triggerIf b).alert j = r.alert j := rfl

@[simp] theorem Run.modChan_probe (r : Run) (i : Sled) (f : Channel → Channel) (p : Probe) : (r.modChan i f).probe p = r.probe p := rfl
@[simp] theorem Run.modChan_lane (r : Run) (i : Sled) (f : Channel → Channel) (n : LaneNo) : (r.modChan i f).lane n = r.lane n := rfl
@[simp] theorem Run.modBooks_probe (r : Run) (i : Sled) (f : Books → Books) (p : Probe) : (r.modBooks i f).probe p = r.probe p := rfl
@[simp] theorem Run.modBooks_lane (r : Run) (i : Sled) (f : Books → Books) (n : LaneNo) : (r.modBooks i f).lane n = r.lane n := rfl
@[simp] theorem Run.modLife_probe (r : Run) (i : Sled) (f : Life → Life) (p : Probe) : (r.modLife i f).probe p = r.probe p := rfl
@[simp] theorem Run.modLife_lane (r : Run) (i : Sled) (f : Life → Life) (n : LaneNo) : (r.modLife i f).lane n = r.lane n := rfl
@[simp] theorem Run.modTherm_probe (r : Run) (i : Sled) (f : Thermal → Thermal) (p : Probe) : (r.modTherm i f).probe p = r.probe p := rfl
@[simp] theorem Run.modTherm_lane (r : Run) (i : Sled) (f : Thermal → Thermal) (n : LaneNo) : (r.modTherm i f).lane n = r.lane n := rfl
@[simp] theorem Run.modAlert_probe (r : Run) (i : Sled) (f : Alert → Alert) (p : Probe) : (r.modAlert i f).probe p = r.probe p := rfl
@[simp] theorem Run.modAlert_lane (r : Run) (i : Sled) (f : Alert → Alert) (n : LaneNo) : (r.modAlert i f).lane n = r.lane n := rfl
@[simp] theorem Run.modProbe_lane (r : Run) (p : Probe) (f : ProbeRun → ProbeRun) (n : LaneNo) : (r.modProbe p f).lane n = r.lane n := rfl
@[simp] theorem Run.modLane_probe (r : Run) (n : LaneNo) (f : Lane → Lane) (p : Probe) : (r.modLane n f).probe p = r.probe p := rfl

end Sys2Proof.Machine
end

