-- ==== Sys2Proof/Laws/Evolves.lean ====
section
/-! SUPPORT. What the budget, fault, thermal, lane and alert operations leave alone: two relations, closed under
composition, with one lemma per operation, which later proofs cite instead of unfolding the operation. -/

namespace Sys2Proof.Machine

open Sys2Proof

/-- What the budget, fault, thermal and lane operations leave alone: the timebases, the validation result, the pool,
the zone, the alert channels, the throttle channels but for the boost step mark, the presence filters; the mode stays, or
goes from RUN to SAFE; a sled in service stays in service. -/
structure Run.Quiet (r t : Run) : Prop where
  clock : t.clock = r.clock
  validation : t.validation = r.validation
  pool : t.pool = r.pool
  zone : t.zone = r.zone
  mode : t.mode = r.mode ∨ r.mode = .run ∧ t.mode = .safe
  chan : ∀ i, ∃ b, t.chan i = { r.chan i with boostStep := b }
  present : ∀ i, (t.life i).present = (r.life i).present
  prs : ∀ i, (t.life i).prs = (r.life i).prs
  settle : ∀ i, (t.life i).settle = (r.life i).settle
  service : ∀ i, (r.life i).state.inService = true → (t.life i).state.inService = true
  alert : ∀ i, t.alert i = r.alert i

namespace Run.Quiet

theorem refl (r : Run) : Run.Quiet r r where
  clock := rfl
  validation := rfl
  pool := rfl
  zone := rfl
  mode := .inl rfl
  chan _ := ⟨_, rfl⟩
  present _ := rfl
  prs _ := rfl
  settle _ := rfl
  service _ := id
  alert _ := rfl

theorem trans {r t u : Run} (h : Run.Quiet r t) (k : Run.Quiet t u) : Run.Quiet r u where
  clock := k.clock.trans h.clock
  validation := k.validation.trans h.validation
  pool := k.pool.trans h.pool
  zone := k.zone.trans h.zone
  mode := by
    rcases h.mode with h | ⟨h, h'⟩ <;> rcases k.mode with k | ⟨k, k'⟩
    · exact .inl (k.trans h)
    · exact .inr ⟨h ▸ k, k'⟩
    · exact .inr ⟨h, k.trans h'⟩
    · rw [h'] at k; cases k
  chan i := by
    obtain ⟨b, hb⟩ := h.chan i
    obtain ⟨d, hd⟩ := k.chan i
    exact ⟨d, by rw [hd, hb]⟩
  present i := (k.present i).trans (h.present i)
  prs i := (k.prs i).trans (h.prs i)
  settle i := (k.settle i).trans (h.settle i)
  service i hi := k.service i (h.service i hi)
  alert i := (k.alert i).trans (h.alert i)

theorem foldl {α : Type} {f : Run → α → Run} (hf : ∀ r a, Run.Quiet r (f r a)) (as : List α) (r : Run) :
    Run.Quiet r (as.foldl f r) := by
  induction as generalizing r with
  | nil => exact refl r
  | cons a as ih => exact (hf r a).trans (ih _)

/-- A change of what the relation does not speak of: the queues, lists, lanes, probes, records and notices. -/
theorem of_sleds {r t : Run} (h1 : t.clock = r.clock) (h2 : t.validation = r.validation) (h3 : t.pool = r.pool)
    (h4 : t.zone = r.zone) (h5 : t.mode = r.mode) (h6 : t.sleds = r.sleds) : Run.Quiet r t where
  clock := h1
  validation := h2
  pool := h3
  zone := h4
  mode := .inl h5
  chan i := ⟨(r.chan i).boostStep, by simp [Run.chan, h6]⟩
  present i := by simp [Run.life, h6]
  prs i := by simp [Run.life, h6]
  settle i := by simp [Run.life, h6]
  service i hi := by simpa [Run.life, h6] using hi
  alert i := by simp [Run.alert, h6]

theorem modBooks (i : Sled) (f : Books → Books) (r : Run) : Run.Quiet r (r.modBooks i f) where
  clock := rfl
  validation := rfl
  pool := rfl
  zone := rfl
  mode := .inl rfl
  chan j := ⟨(r.chan j).boostStep, by simp⟩
  present j := by simp
  prs j := by simp
  settle j := by simp
  service j hj := by simpa using hj
  alert j := by simp

theorem modTherm (i : Sled) (f : Thermal → Thermal) (r : Run) : Run.Quiet r (r.modTherm i f) where
  clock := rfl
  validation := rfl
  pool := rfl
  zone := rfl
  mode := .inl rfl
  chan j := ⟨(r.chan j).boostStep, by simp⟩
  present j := by simp
  prs j := by simp
  settle j := by simp
  service j hj := by simpa using hj
  alert j := by simp

theorem modLife (i : Sled) {f : Life → Life} (h1 : ∀ l, (f l).present = l.present) (h2 : ∀ l, (f l).prs = l.prs)
    (h3 : ∀ l, (f l).settle = l.settle) (r : Run)
    (h4 : (r.life i).state.inService = true → (f (r.life i)).state.inService = true) : Run.Quiet r (r.modLife i f) where
  clock := rfl
  validation := rfl
  pool := rfl
  zone := rfl
  mode := .inl rfl
  chan j := ⟨(r.chan j).boostStep, by simp⟩
  present j := by rw [Run.modLife_life]; split <;> simp_all
  prs j := by rw [Run.modLife_life]; split <;> simp_all
  settle j := by rw [Run.modLife_life]; split <;> simp_all
  service j hj := by rw [Run.modLife_life]; split <;> simp_all
  alert j := by simp

theorem clearStep (i : Sled) (b : Bool) (r : Run) :
    Run.Quiet r (r.modChan i fun x => { x with boostStep := b }) where
  clock := rfl
  validation := rfl
  pool := rfl
  zone := rfl
  mode := .inl rfl
  chan j := by
    rw [Run.modChan_chan]
    split
    · next h => exact ⟨b, by rw [h]⟩
    · exact ⟨(r.chan j).boostStep, rfl⟩
  present j := by simp
  prs j := by simp
  settle j := by simp
  service j hj := by simpa using hj
  alert j := by simp

theorem modProbe (p : Probe) (f : ProbeRun → ProbeRun) (r : Run) : Run.Quiet r (r.modProbe p f) :=
  of_sleds rfl rfl rfl rfl rfl rfl

theorem modLane (n : LaneNo) (f : Lane → Lane) (r : Run) : Run.Quiet r (r.modLane n f) :=
  of_sleds rfl rfl rfl rfl rfl rfl

theorem spendFree (r : Run) : Run.Quiet r r.spendFree := of_sleds rfl rfl rfl rfl rfl rfl

theorem triggerIf (b : Bool) (r : Run) : Run.Quiet r (r.triggerIf b) := of_sleds rfl rfl rfl rfl rfl rfl

theorem post (c : Cfg) (k : Notice) (r : Run) : Run.Quiet r (r.post c k) := by
  unfold Run.post
  split
  · exact of_sleds rfl rfl rfl rfl rfl rfl
  · exact refl r

/-! ## The queue and the arbiter -/

theorem leaveQueue (i : Sled) (r : Run) : Run.Quiet r (r.leaveQueue i) := of_sleds rfl rfl rfl rfl rfl rfl

theorem refreshHeld (c : Cfg) (r : Run) : Run.Quiet r (r.refreshHeld c) := of_sleds rfl rfl rfl rfl rfl rfl

theorem join (c : Cfg) (i : Sled) (k : QClass) (r : Run) : Run.Quiet r (r.join c i k) :=
  of_sleds rfl rfl rfl rfl rfl rfl

theorem joinIfShort (c : Cfg) (i : Sled) (r : Run) : Run.Quiet r (r.joinIfShort c i) := by
  unfold Run.joinIfShort
  split
  · exact refl r
  · exact join ..

theorem endBoost (i : Sled) (r : Run) : Run.Quiet r (r.endBoost i) :=
  .trans (modBooks i (fun b => { b with draining := b.draining + b.loan, loan := 0, boost := .rearm, boostFrames := 0 }) r)
    (of_sleds rfl rfl rfl rfl rfl rfl)

theorem endBoostEarly (i : Sled) (r : Run) : Run.Quiet r (r.endBoostEarly i) := by
  unfold Run.endBoostEarly
  split
  · exact (endBoost i r).trans (clearStep ..)
  · exact refl r

theorem endAllBoosts (r : Run) : Run.Quiet r r.endAllBoosts := foldl (fun r i => endBoostEarly i r) _ r

theorem becomeTracking (c : Cfg) (i : Sled) (r : Run) : Run.Quiet r (r.becomeTracking c i) := by
  refine Run.Quiet.trans ?_ (joinIfShort ..)
  refine Run.Quiet.trans ?_ (post ..)
  exact modLife i (by intro; rfl) (by intro; rfl) (by intro; rfl) r (fun _ => rfl)

theorem cutToFloor (c : Cfg) (i : Sled) (r : Run) : Run.Quiet r (r.cutToFloor c i) := by
  refine Run.Quiet.trans ?_ (refreshHeld ..)
  refine Run.Quiet.trans ?_ (leaveQueue ..)
  refine Run.Quiet.trans ?_ (modBooks ..)
  exact endBoostEarly i r

theorem isolate (c : Cfg) (i : Sled) (r : Run) : Run.Quiet r (r.isolate c i) := by
  refine Run.Quiet.trans ?_ (post ..)
  refine Run.Quiet.trans ?_ (cutToFloor ..)
  exact modLife i (by intro; rfl) (by intro; rfl) (by intro; rfl) r (fun _ => rfl)

theorem containSled (c : Cfg) (i : Sled) (r : Run) : Run.Quiet r (r.containSled c i) := by
  unfold Run.containSled
  split
  all_goals first
    | exact refl r
    | exact isolate ..
    | split
  · exact isolate ..
  · exact modLife i (by intro; rfl) (by intro; rfl) (by intro; rfl) r id

theorem settleAdmission (c : Cfg) (i : Sled) (r : Run) : Run.Quiet r (r.settleAdmission c i) := by
  unfold Run.settleAdmission
  simp only
  split
  · split
    · exact isolate ..
    · split
      · exact refl r
      · exact becomeTracking ..
  · exact refl r

theorem takeNewest (i : Sled) (r : Run) : Run.Quiet r (r.takeNewest i) := of_sleds rfl rfl rfl rfl rfl rfl

theorem serveFloor (c : Cfg) (i : Sled) (r : Run) : Run.Quiet r (r.serveFloor c i).1 := by
  unfold Run.serveFloor
  split
  · refine Run.Quiet.trans ?_ (settleAdmission ..)
    refine Run.Quiet.trans ?_ (takeNewest ..)
    refine Run.Quiet.trans ?_ (leaveQueue ..)
    exact modBooks ..
  · exact refl r

theorem serveClass (c : Cfg) (i : Sled) (r : Run) : Run.Quiet r (r.serveClass c i).1 := by
  unfold Run.serveClass
  split
  · exact refl r
  · simp only
    split
    · refine Run.Quiet.trans ?_ (leaveQueue ..)
      refine Run.Quiet.trans ?_ (takeNewest ..)
      exact modBooks ..
    · refine Run.Quiet.trans ?_ (refreshHeld ..)
      refine Run.Quiet.trans ?_ (takeNewest ..)
      exact modBooks ..

theorem serveEntry (c : Cfg) (e : Entry) (r : Run) : Run.Quiet r (r.serveEntry c e).1 := by
  unfold Run.serveEntry
  split
  · exact serveFloor ..
  · exact serveClass ..

theorem walk (c : Cfg) (n : Nat) (r : Run) : Run.Quiet r (Run.walk c n r) := by
  induction n generalizing r with
  | zero => exact refl r
  | succ n ih =>
    rw [Run.walk]
    split
    · exact refl r
    · split
      · exact (serveEntry ..).trans (ih _)
      · exact serveEntry ..

theorem serve (c : Cfg) (r : Run) : Run.Quiet r (r.serve c) :=
  (walk c walkTurns r).trans (of_sleds rfl rfl rfl rfl rfl rfl)

theorem serveIfDue (c : Cfg) (r : Run) : Run.Quiet r (r.serveIfDue c) := by
  unfold Run.serveIfDue
  split
  · exact serve ..
  · exact refl r

/-! ## Revocation, reclaim, wants and boosts -/

theorem revokeLoan (v : Revoked) (i : Sled) : Run.Quiet v.run (Machine.revokeLoan v i).run := by
  unfold Machine.revokeLoan
  split
  · exact refl _
  · exact endBoostEarly ..

theorem revokeGrant (c : Cfg) (v : Revoked) (i : Sled) : Run.Quiet v.run (Machine.revokeGrant c v i).run := by
  unfold Machine.revokeGrant
  simp only
  split
  · exact refl _
  · dsimp only
    exact modBooks ..

theorem foldlRevoked {f : Revoked → Sled → Revoked} (hf : ∀ v i, Run.Quiet v.run (f v i).run) (is : List Sled)
    (v : Revoked) : Run.Quiet v.run (is.foldl f v).run := by
  induction is generalizing v with
  | nil => exact refl _
  | cons i is ih => exact (hf v i).trans (ih _)

theorem revoke (c : Cfg) (r : Run) : Run.Quiet r (r.revoke c) := by
  unfold Run.revoke
  simp only
  split
  · refine Run.Quiet.trans ?_ (post ..)
    refine Run.Quiet.trans ?_ (refreshHeld ..)
    refine Run.Quiet.trans ?_ (foldl (fun r i => joinIfShort c i r) _ _)
    refine Run.Quiet.trans ?_ (foldlRevoked (revokeGrant c) _ _)
    exact foldlRevoked revokeLoan _ { run := r, deficit := r.deficit, taken := false, cut := [] }
  · exact refl r

theorem returnDraining (i : Sled) (r : Run) : Run.Quiet r (r.returnDraining i) :=
  (modBooks i _ r).trans (triggerIf ..)

theorem advanceBoost (c : Cfg) (i : Sled) (r : Run) : Run.Quiet r (r.advanceBoost c i) := by
  unfold Run.advanceBoost
  split
  · exact refl r
  · exact modBooks ..
  · split
    · exact (endBoost i r).trans (refreshHeld ..)
    · exact modBooks ..

theorem reclaim (c : Cfg) (i : Sled) (r : Run) : Run.Quiet r (r.reclaim c i) := by
  unfold Run.reclaim
  simp only
  split
  · exact modBooks ..
  · exact (((modBooks i _ r).trans (modBooks ..)).trans (joinIfShort ..)).trans (refreshHeld ..)

theorem advanceReclaim (c : Cfg) (i : Sled) (r : Run) : Run.Quiet r (r.advanceReclaim c i) := by
  unfold Run.advanceReclaim
  split
  · split
    · exact reclaim ..
    · exact modBooks ..
  · exact modBooks ..

theorem boundaryBooks (c : Cfg) (i : Sled) (r : Run) : Run.Quiet r (r.boundaryBooks c i) :=
  ((returnDraining i r).trans (advanceBoost ..)).trans (advanceReclaim ..)

theorem setWant (c : Cfg) (i : Sled) (want : Level) (k : Fin 4) (r : Run) : Run.Quiet r (r.setWant c i want k) := by
  refine Run.Quiet.trans ?_ (refreshHeld ..)
  refine Run.Quiet.trans (t := r.storeWant c i want k) (modBooks ..) ?_
  unfold Run.queueWant
  split
  · split
    · exact leaveQueue ..
    · split
      · exact of_sleds rfl rfl rfl rfl rfl rfl
      · exact (leaveQueue i _).trans (join ..)
  all_goals exact of_sleds rfl rfl rfl rfl rfl rfl

theorem startBoost (c : Cfg) (i : Sled) (frames : Nat) (r : Run) : Run.Quiet r (r.startBoost c i frames) := by
  refine Run.Quiet.trans ?_ (refreshHeld ..)
  exact .trans (.trans (modBooks ..) (clearStep i true _)) (of_sleds rfl rfl rfl rfl rfl rfl)

theorem zeroBooks (i : Sled) (r : Run) : Run.Quiet r (r.zeroBooks i) := by
  unfold Run.zeroBooks
  refine Run.Quiet.trans ?_ (triggerIf ..)
  refine Run.Quiet.trans ?_ (leaveQueue ..)
  exact .trans (modBooks i (fun _ => .initial) r) (of_sleds rfl rfl rfl rfl rfl rfl)

theorem release (c : Cfg) (i : Sled) (r : Run) : Run.Quiet r (r.release c i) := by
  unfold Run.release
  split
  · exact (modBooks i _ r).trans (becomeTracking ..)
  · exact modLife i (by intro; rfl) (by intro; rfl) (by intro; rfl) r id
  all_goals exact refl r

/-! ## Faults -/

theorem record (c : Cfg) (v : Severity) (f : FaultRecord) (r : Run) : Run.Quiet r (r.record c v f) := by
  unfold Run.record
  split
  all_goals
    refine Run.Quiet.trans ?_ (post ..)
    exact of_sleds rfl rfl rfl rfl rfl rfl

theorem contain (c : Cfg) (s : Subject) (r : Run) : Run.Quiet r (r.contain c s) :=
  foldl (fun r i => containSled c i r) _ r

theorem demandSafe (c : Cfg) (r : Run) : Run.Quiet r (r.demandSafe c) := by
  unfold Run.demandSafe
  split
  · next h =>
    refine Run.Quiet.trans ?_ (post ..)
    refine Run.Quiet.trans ?_ (refreshHeld ..)
    refine Run.Quiet.trans ?_ (endAllBoosts _)
    exact {
      clock := rfl
      validation := rfl
      pool := rfl
      zone := rfl
      mode := .inr ⟨h, rfl⟩
      chan := fun i => ⟨(r.chan i).boostStep, rfl⟩
      present := fun _ => rfl
      prs := fun _ => rfl
      settle := fun _ => rfl
      service := fun _ => id
      alert := fun _ => rfl }
  all_goals exact refl r

theorem raise (c : Cfg) (k : FaultClass) (s : Subject) (d : Nat) (r : Run) : Run.Quiet r (r.raise c k s d) := by
  unfold Run.raise
  simp only
  split
  · exact refl r
  · exact record ..
  · exact (record ..).trans (contain ..)
  · exact (record ..).trans (demandSafe ..)

theorem clearFaults (r : Run) : Run.Quiet r r.clearFaults := of_sleds rfl rfl rfl rfl rfl rfl

/-! ## Evaluation -/

theorem handThermal (c : Cfg) (i : Sled) (old : Heat) (r : Run) : Run.Quiet r (r.handThermal c i old) := by
  unfold Run.handThermal
  split
  · exact refl r
  · refine Run.Quiet.trans ?_ (post ..)
    refine Run.Quiet.trans ?_ (refreshHeld ..)
    split
    · exact endBoostEarly ..
    · exact refl r

theorem evaluate (c : Cfg) (i : Sled) (r : Run) : Run.Quiet r (r.evaluate c i) := by
  unfold Run.evaluate
  split
  · exact (modTherm i _ r).trans (handThermal ..)
  · exact refl r

/-! ## Lanes and polls -/

theorem openOnLane (c : Cfg) (n : LaneNo) (r : Run) : Run.Quiet r (r.openOnLane c n) :=
  (modLane n _ r).trans (spendFree _)

theorem closeOnLane (n : LaneNo) (r : Run) : Run.Quiet r (r.closeOnLane n) := modLane ..

theorem setPoll (n : LaneNo) (p : Poll) (r : Run) : Run.Quiet r (r.setPoll n p) := modLane ..

theorem beginRead (c : Cfg) (n : LaneNo) (p : Probe) (r : Run) : Run.Quiet r (r.beginRead c n p) :=
  (setPoll n _ r).trans (openOnLane ..)

theorem beginWaitOrRead (c : Cfg) (n : LaneNo) (p : Probe) (r : Run) : Run.Quiet r (r.beginWaitOrRead c n p) := by
  unfold Run.beginWaitOrRead
  split
  · exact beginRead ..
  all_goals exact setPoll ..

theorem beginPoll (c : Cfg) (n : LaneNo) (p : Probe) (r : Run) : Run.Quiet r (r.beginPoll c n p) := by
  unfold Run.beginPoll
  split
  · exact (setPoll n _ r).trans (openOnLane ..)
  · exact beginWaitOrRead ..

theorem endInit (c : Cfg) (n : LaneNo) (p : Probe) (r : Run) : Run.Quiet r (r.endInit c n p) := by
  unfold Run.endInit
  simp only
  split
  · exact ((closeOnLane n r).trans (modProbe ..)).trans (setPoll ..)
  · exact ((closeOnLane n r).trans (modProbe ..)).trans (beginWaitOrRead ..)

theorem serveLane (c : Cfg) (n : LaneNo) (r : Run) : Run.Quiet r (r.serveLane c n) := by
  unfold Run.serveLane
  split
  · exact ((modLane n _ r).trans (modProbe ..)).trans (beginPoll ..)
  · exact refl r

theorem freeLane (c : Cfg) (n : LaneNo) (r : Run) : Run.Quiet r (r.freeLane c n) :=
  (modLane n _ r).trans (serveLane ..)

theorem leaveAwaiting (p : Probe) (r : Run) : Run.Quiet r (r.leaveAwaiting p) := by
  apply modLife
  all_goals intro l
  all_goals split <;> first | rfl | exact l

theorem handSuccess (c : Cfg) (p : Probe) (k : Heat) (v : Option Int) (r : Run) :
    Run.Quiet r (r.handSuccess c p k v) := by
  unfold Run.handSuccess
  simp only
  refine Run.Quiet.trans ?_ (evaluate ..)
  split
  · exact ((modProbe p _ r).trans (leaveAwaiting ..)).trans (settleAdmission ..)
  · exact modProbe ..

theorem handFailure (c : Cfg) (p : Probe) (k : Reason) (raw : Option Nat) (r : Run) :
    Run.Quiet r (r.handFailure c p k raw) := by
  unfold Run.handFailure
  simp only
  refine Run.Quiet.trans ?_ (evaluate ..)
  cases raw with
  | none =>
    split
    · exact (modProbe p _ r).trans (raise ..)
    · exact modProbe ..
  | some d =>
    simp only
    split
    · exact ((modProbe p _ r).trans (raise ..)).trans (raise ..)
    · exact (modProbe p _ r).trans (raise ..)

theorem handOutcome (c : Cfg) (p : Probe) (o : PollResult) (r : Run) : Run.Quiet r (r.handOutcome c p o) := by
  cases o with
  | success k v => exact handSuccess ..
  | failure k raw => exact handFailure ..

theorem endPoll (c : Cfg) (n : LaneNo) (p : Probe) (o : PollResult) (r : Run) : Run.Quiet r (r.endPoll c n p o) :=
  ((handOutcome c p o r).trans (modProbe ..)).trans (freeLane ..)

theorem dueEvent (c : Cfg) (p : Probe) (r : Run) : Run.Quiet r (r.dueEvent c p) := by
  unfold Run.dueEvent
  simp only
  split
  · exact ((modProbe p _ r).trans (modProbe ..)).trans (raise ..)
  · exact ((modProbe p _ r).trans (modProbe ..)).trans (raise ..)
  · split
    · exact (modProbe p _ r).trans (handFailure ..)
    · exact (((modProbe p _ r).trans (modProbe ..)).trans (modLane ..)).trans (serveLane ..)

theorem beginAttempt (c : Cfg) (n : LaneNo) (k : Nat) (r : Run) : Run.Quiet r (r.beginAttempt c n k) :=
  (modLane n _ r).trans (spendFree _)

theorem abandonLane (n : LaneNo) (r : Run) : Run.Quiet r (r.abandonLane n) := (modLane n _ r).trans (spendFree _)

theorem failLane (c : Cfg) (n : LaneNo) (r : Run) : Run.Quiet r (r.failLane c n) := by
  unfold Run.failLane
  simp only
  refine Run.Quiet.trans ((modLane n _ r).trans (raise ..)) (foldl ?_ _ _)
  exact fun r p => ((modLane n _ r).trans (modProbe ..)).trans (handFailure ..)

theorem attemptFailed (c : Cfg) (n : LaneNo) (r : Run) : Run.Quiet r (r.attemptFailed c n) := by
  unfold Run.attemptFailed
  split
  · exact beginAttempt ..
  · exact failLane ..

theorem attemptSucceeded (c : Cfg) (n : LaneNo) (r : Run) : Run.Quiet r (r.attemptSucceeded c n) := by
  unfold Run.attemptSucceeded
  simp only
  refine Run.Quiet.trans ((modLane n _ r).trans (foldl ?_ _ _)) (serveLane ..)
  exact fun r p => modProbe ..

theorem unqueue (p : Probe) (r : Run) : Run.Quiet r (r.unqueue p) := (modLane _ _ r).trans (modProbe ..)

theorem abortPoll (c : Cfg) (n : LaneNo) (r : Run) : Run.Quiet r (r.abortPoll c n) := by
  unfold Run.abortPoll
  split
  · simp only
    split
    · exact (modProbe _ _ r).trans (freeLane ..)
    · exact (modProbe _ _ r).trans (freeLane ..)
    · exact (modProbe _ _ r).trans (modLane ..)
    · exact (modProbe _ _ r).trans (modLane ..)
  all_goals exact refl r

theorem dropProbes (c : Cfg) (i : Sled) (r : Run) : Run.Quiet r (r.dropProbes c i) := by
  unfold Run.dropProbes
  simp only
  refine Run.Quiet.trans ?_ (foldl (fun r p => modProbe ..) _ _)
  split
  · exact ((unqueue _ r).trans (unqueue ..)).trans (abortPoll ..)
  · exact (unqueue _ r).trans (unqueue ..)

theorem stopLanes (c : Cfg) (r : Run) : Run.Quiet r (r.stopLanes c) := by
  unfold Run.stopLanes
  simp only
  refine Run.Quiet.trans ?_ (foldl (fun r n => abortPoll c n r) _ _)
  exact of_sleds rfl rfl rfl rfl rfl rfl

theorem readyAssertion (c : Cfg) (n : LaneNo) (p : Probe) (r : Run) : Run.Quiet r (r.readyAssertion c n p) := by
  unfold Run.readyAssertion
  split
  · exact endPoll ..
  all_goals exact beginRead ..

theorem offerReady (c : Cfg) (i : Sled) (r : Run) : Run.Quiet r (r.offerReady c i) := by
  unfold Run.offerReady
  split
  · split
    · exact readyAssertion ..
    · exact refl r
  · exact refl r

end Run.Quiet

/-! ## Alert edges and admission -/

/-- What alert edges and admissions leave alone besides: as above, but an alert channel may be measured. -/
structure Run.Evolves (r t : Run) : Prop where
  clock : t.clock = r.clock
  validation : t.validation = r.validation
  pool : t.pool = r.pool
  zone : t.zone = r.zone
  mode : t.mode = r.mode ∨ r.mode = .run ∧ t.mode = .safe
  chan : ∀ i, ∃ b, t.chan i = { r.chan i with boostStep := b }
  present : ∀ i, (t.life i).present = (r.life i).present
  prs : ∀ i, (t.life i).prs = (r.life i).prs
  settle : ∀ i, (t.life i).settle = (r.life i).settle
  service : ∀ i, (r.life i).state.inService = true → (t.life i).state.inService = true
  pin : ∀ i, (t.alert i).pin = (r.alert i).pin
  lastSample : ∀ i, (t.alert i).lastSample = (r.alert i).lastSample
  accepted : ∀ i, (t.alert i).accepted = (r.alert i).accepted

/-- What a quiet operation leaves alone, an operation that may measure an alert channel leaves alone as well. -/
theorem Run.Quiet.evolves {r t : Run} (h : Run.Quiet r t) : Run.Evolves r t where
  clock := h.clock
  validation := h.validation
  pool := h.pool
  zone := h.zone
  mode := h.mode
  chan := h.chan
  present := h.present
  prs := h.prs
  settle := h.settle
  service := h.service
  pin i := by rw [h.alert i]
  lastSample i := by rw [h.alert i]
  accepted i := by rw [h.alert i]

namespace Run.Evolves

theorem refl (r : Run) : Run.Evolves r r := (Run.Quiet.refl r).evolves

theorem trans {r t u : Run} (h : Run.Evolves r t) (k : Run.Evolves t u) : Run.Evolves r u where
  clock := k.clock.trans h.clock
  validation := k.validation.trans h.validation
  pool := k.pool.trans h.pool
  zone := k.zone.trans h.zone
  mode := by
    rcases h.mode with h | ⟨h, h'⟩ <;> rcases k.mode with k | ⟨k, k'⟩
    · exact .inl (k.trans h)
    · exact .inr ⟨h ▸ k, k'⟩
    · exact .inr ⟨h, k.trans h'⟩
    · rw [h'] at k; cases k
  chan i := by
    obtain ⟨b, hb⟩ := h.chan i
    obtain ⟨d, hd⟩ := k.chan i
    exact ⟨d, by rw [hd, hb]⟩
  present i := (k.present i).trans (h.present i)
  prs i := (k.prs i).trans (h.prs i)
  settle i := (k.settle i).trans (h.settle i)
  service i hi := k.service i (h.service i hi)
  pin i := (k.pin i).trans (h.pin i)
  lastSample i := (k.lastSample i).trans (h.lastSample i)
  accepted i := (k.accepted i).trans (h.accepted i)

theorem foldl {α : Type} {f : Run → α → Run} (hf : ∀ r a, Run.Evolves r (f r a)) (as : List α) (r : Run) :
    Run.Evolves r (as.foldl f r) := by
  induction as generalizing r with
  | nil => exact refl r
  | cons a as ih => exact (hf r a).trans (ih _)

theorem modAlert (i : Sled) {f : Alert → Alert} (h1 : ∀ a, (f a).pin = a.pin) (h2 : ∀ a, (f a).lastSample = a.lastSample)
    (h3 : ∀ a, (f a).accepted = a.accepted) (r : Run) : Run.Evolves r (r.modAlert i f) where
  clock := rfl
  validation := rfl
  pool := rfl
  zone := rfl
  mode := .inl rfl
  chan j := ⟨(r.chan j).boostStep, by simp⟩
  present j := by simp
  prs j := by simp
  settle j := by simp
  service j hj := by simpa using hj
  pin j := by rw [Run.modAlert_alert]; split <;> simp_all
  lastSample j := by rw [Run.modAlert_alert]; split <;> simp_all
  accepted j := by rw [Run.modAlert_alert]; split <;> simp_all

theorem assertingEdge (c : Cfg) (i : Sled) (r : Run) : Run.Evolves r (r.assertingEdge c i) := by
  unfold Run.assertingEdge
  simp only
  split
  · refine Run.Evolves.trans ?_ (Run.Quiet.evaluate ..).evolves
    exact modAlert i (by intro; rfl) (by intro; rfl) (by intro; rfl) r
  · refine Run.Evolves.trans ?_ (Run.Quiet.offerReady ..).evolves
    exact modAlert i (by intro; rfl) (by intro; rfl) (by intro; rfl) r
  · exact modAlert i (by intro; rfl) (by intro; rfl) (by intro; rfl) r

theorem deassertingEdge (c : Cfg) (i : Sled) (r : Run) : Run.Evolves r (r.deassertingEdge c i) := by
  unfold Run.deassertingEdge
  simp only
  split
  · refine Run.Evolves.trans ?_ (Run.Quiet.evaluate ..).evolves
    exact modAlert i (by intro; rfl) (by intro; rfl) (by intro; rfl) r
  all_goals exact modAlert i (by intro; rfl) (by intro; rfl) (by intro; rfl) r

theorem followAlert (c : Cfg) (i : Sled) (r : Run) : Run.Evolves r (r.followAlert c i) := by
  unfold Run.followAlert
  split
  · exact assertingEdge ..
  · exact deassertingEdge ..
  all_goals exact refl r

theorem reach (i : Sled) (limit : Nat) (r : Run) : Run.Evolves r (r.modAlert i fun a => a.reach limit) :=
  modAlert i (by intro; rfl) (by intro; rfl) (by intro; rfl) r

theorem markSustained (c : Cfg) (i : Sled) (r : Run) : Run.Evolves r (r.markSustained c i) := by
  unfold Run.markSustained
  simp only
  split
  · refine Run.Evolves.trans ?_ (Run.Quiet.evaluate ..).evolves
    exact modAlert i (by intro; rfl) (by intro; rfl) (by intro; rfl) r
  all_goals exact modAlert i (by intro; rfl) (by intro; rfl) (by intro; rfl) r

theorem markStuck (c : Cfg) (i : Sled) (r : Run) : Run.Evolves r (r.markStuck c i) := by
  unfold Run.markStuck
  simp only
  split
  · refine Run.Evolves.trans ?_ (Run.Quiet.raise ..).evolves
    exact modAlert i (by intro; rfl) (by intro; rfl) (by intro; rfl) r
  · refine Run.Evolves.trans ?_ (Run.Quiet.raise ..).evolves
    exact modAlert i (by intro; rfl) (by intro; rfl) (by intro; rfl) r
  · exact modAlert i (by intro; rfl) (by intro; rfl) (by intro; rfl) r

theorem sustain (c : Cfg) (i : Sled) (r : Run) : Run.Evolves r (r.sustain c i) := by
  unfold Run.sustain
  simp only
  split
  · exact ((reach ..).trans (markSustained ..)).trans (markStuck ..)
  · exact (reach ..).trans (markSustained ..)

theorem stick (c : Cfg) (i : Sled) (r : Run) : Run.Evolves r (r.stick c i) := by
  unfold Run.stick
  simp only
  split
  · exact ((reach ..).trans (markStuck ..)).trans (markSustained ..)
  · exact (reach ..).trans (markStuck ..)

theorem firstDue (c : Cfg) (p : Probe) (r : Run) : Run.Evolves r (r.firstDue c p) :=
  ((Run.Quiet.modProbe p _ r).trans (.dueEvent ..)).evolves

theorem startAdmission (c : Cfg) (i : Sled) (r : Run) : Run.Evolves r (r.startAdmission c i) := by
  unfold Run.startAdmission
  simp only
  refine Run.Evolves.trans ?_ (Run.Quiet.post ..).evolves
  refine Run.Evolves.trans ?_ (followAlert ..)
  refine Run.Evolves.trans ?_ (foldl (fun r p => firstDue c p r) _ _)
  refine Run.Evolves.trans ?_ (Run.Quiet.spendFree _).evolves
  refine Run.Evolves.trans ?_ (Run.Quiet.serve ..).evolves
  refine Run.Evolves.trans ?_ (Run.Quiet.join ..).evolves
  refine Run.Evolves.trans ?_ (Run.Quiet.modBooks ..).evolves
  exact (Run.Quiet.modLife i (by intro; rfl) (by intro; rfl) (by intro; rfl) r (fun _ => rfl)).evolves

theorem admissionExpired (c : Cfg) (i : Sled) (r : Run) : Run.Evolves r (r.admissionExpired c i) := by
  unfold Run.admissionExpired
  simp only
  refine Run.Evolves.trans ?_ (Run.Quiet.raise ..).evolves
  exact (Run.Quiet.modLife i (by intro; rfl) (by intro; rfl) (by intro; rfl) r id).evolves

end Run.Evolves

end Sys2Proof.Machine
end

