-- ==== Sys2Proof/Laws/Link.lean ====
section
/-! SUPPORT. What the end of an event does and does not touch: the transmitter's next frame, the arbiter's service, and
the two forms of an event. -/

namespace Sys2Proof.Machine

open Sys2Proof

/-! ## The transmitter -/

/-- All that the transmitter changes: the frame it sends, the replies that wait and the notices pending. -/
theorem State.kick_shape (s : State) :
    ∃ tx replies notices, replies.length ≤ s.link.replies.length
      ∧ s.kick = { s with link := { s.link with tx := tx, replies := replies }, run := { s.run with notices := notices } } := by
  unfold State.kick
  split
  · exact ⟨_, _, _, Nat.le_refl _, rfl⟩
  · next h => exact ⟨_, _, _, by simp [h], rfl⟩
  · split
    · exact ⟨_, _, _, Nat.le_refl _, rfl⟩
    · split
      · exact ⟨_, _, _, Nat.le_refl _, rfl⟩
      · exact ⟨_, _, _, Nat.le_refl _, rfl⟩

@[simp] theorem State.kick_pending (s : State) : s.kick.pending = s.pending := by
  obtain ⟨_, _, _, _, h⟩ := s.kick_shape
  rw [h]
@[simp] theorem State.kick_due (s : State) : s.kick.due = s.due := by
  obtain ⟨_, _, _, _, h⟩ := s.kick_shape
  rw [h]
@[simp] theorem State.kick_inReset (s : State) : s.kick.inReset = s.inReset := by
  obtain ⟨_, _, _, _, h⟩ := s.kick_shape
  rw [h]
@[simp] theorem State.kick_cfg (s : State) : s.kick.cfg = s.cfg := by
  obtain ⟨_, _, _, _, h⟩ := s.kick_shape
  rw [h]
@[simp] theorem State.kick_rx (s : State) : s.kick.link.rx = s.link.rx := by
  obtain ⟨_, _, _, _, h⟩ := s.kick_shape
  rw [h]
@[simp] theorem State.kick_rate (s : State) : s.kick.link.rate = s.link.rate := by
  obtain ⟨_, _, _, _, h⟩ := s.kick_shape
  rw [h]
@[simp] theorem State.kick_parser (s : State) : s.kick.link.parser = s.link.parser := by
  obtain ⟨_, _, _, _, h⟩ := s.kick_shape
  rw [h]
@[simp] theorem State.kick_gap (s : State) : s.kick.link.gap = s.link.gap := by
  obtain ⟨_, _, _, _, h⟩ := s.kick_shape
  rw [h]
@[simp] theorem State.kick_resetAccepted (s : State) : s.kick.link.resetAccepted = s.link.resetAccepted := by
  obtain ⟨_, _, _, _, h⟩ := s.kick_shape
  rw [h]

/-- The transmitter changes nothing of the running part but the notice it takes. -/
theorem State.kick_run (s : State) : ∃ n, s.kick.run = { s.run with notices := n } := by
  obtain ⟨_, _, n, _, h⟩ := s.kick_shape
  exact ⟨n, by rw [h]⟩

/-- The replies that wait after the transmitter took its frame were waiting before. -/
theorem State.kick_replies_length (s : State) : s.kick.link.replies.length ≤ s.link.replies.length := by
  obtain ⟨_, _, _, hl, h⟩ := s.kick_shape
  rw [h]
  exact hl

/-- After it took a frame, an IDLE transmitter has nothing left to take (R171). -/
theorem State.kick_settled (s : State) :
    s.kick.link.tx.isSome = true
      ∨ s.kick.link.replies = [] ∧ (s.kick.link.resetAccepted = true ∨ s.kick.run.notices.first = none) := by
  unfold State.kick
  split
  · next h => left; simp [h]
  · left; rfl
  · next h1 h2 =>
    split
    · next h => right; exact ⟨h2, .inl h⟩
    · split
      · next h => right; exact ⟨h2, .inr h⟩
      · left; rfl

/-- A transmitter that has nothing to take leaves the state as it is. -/
theorem State.kick_of_settled {s : State}
    (h : s.link.tx.isSome = true ∨ s.link.replies = [] ∧ (s.link.resetAccepted = true ∨ s.run.notices.first = none)) :
    s.kick = s := by
  unfold State.kick
  split
  · rfl
  · next h1 h2 => rcases h with h | ⟨h, _⟩ <;> simp_all
  · next h1 h2 =>
    split
    · rfl
    · next h3 =>
      split
      · rfl
      · next h4 =>
        rcases h with h | ⟨_, h | h⟩
        · simp [h1] at h
        · exact absurd h h3
        · rw [h] at h4; cases h4

/-! ## The arbiter's service at the end of an event -/

@[simp] theorem Run.serve_arbiterDue (c : Cfg) (r : Run) : (r.serve c).arbiterDue = false := rfl

@[simp] theorem Run.serveIfDue_arbiterDue (c : Cfg) (r : Run) : (r.serveIfDue c).arbiterDue = false := by
  unfold Run.serveIfDue
  split
  · rfl
  · next h => simpa using h

/-- Nothing is served when nothing triggered the arbiter. -/
theorem Run.serveIfDue_of_not_due {c : Cfg} {r : Run} (h : r.arbiterDue = false) : r.serveIfDue c = r := by
  simp [Run.serveIfDue, h]

@[simp] theorem Run.serveIfDue_idem (c : Cfg) (r : Run) : (r.serveIfDue c).serveIfDue c = r.serveIfDue c :=
  Run.serveIfDue_of_not_due (Run.serveIfDue_arbiterDue c r)

@[simp] theorem State.finish_pending (s : State) : s.finish.pending = s.pending := by simp [State.finish]
@[simp] theorem State.finish_due (s : State) : s.finish.due = s.due := by simp [State.finish]
@[simp] theorem State.finish_inReset (s : State) : s.finish.inReset = s.inReset := by simp [State.finish]
@[simp] theorem State.finish_cfg (s : State) : s.finish.cfg = s.cfg := by simp [State.finish]
@[simp] theorem State.finish_rx (s : State) : s.finish.link.rx = s.link.rx := by simp [State.finish]
@[simp] theorem State.finish_rate (s : State) : s.finish.link.rate = s.link.rate := by simp [State.finish]
@[simp] theorem State.finish_parser (s : State) : s.finish.link.parser = s.link.parser := by simp [State.finish]
@[simp] theorem State.finish_gap (s : State) : s.finish.link.gap = s.link.gap := by simp [State.finish]
@[simp] theorem State.finish_resetAccepted (s : State) : s.finish.link.resetAccepted = s.link.resetAccepted := by
  simp [State.finish]

theorem State.finish_replies_length (s : State) : s.finish.link.replies.length ≤ s.link.replies.length :=
  State.kick_replies_length { s with run := s.run.serveIfDue s.cfg }

/-- The end of an event changes nothing of the running part but what a service and a notice taken change. -/
theorem State.finish_run (s : State) : ∃ n, s.finish.run = { s.run.serveIfDue s.cfg with notices := n } :=
  State.kick_run { s with run := s.run.serveIfDue s.cfg }

theorem State.finish_quiet (s : State) : Run.Quiet s.run s.finish.run := by
  obtain ⟨n, h⟩ := s.finish_run
  rw [h]
  exact (Run.Quiet.serveIfDue s.cfg s.run).trans (.of_sleds rfl rfl rfl rfl rfl rfl)

/-- Every event ends with the part at rest (R43, R171). -/
theorem State.finish_atRest (s : State) : s.finish.atRest := by
  refine ⟨?_, State.kick_settled _⟩
  obtain ⟨n, h⟩ := s.finish_run
  rw [h]
  exact Run.serveIfDue_arbiterDue ..

/-- A part at rest ends an event that changed nothing as it is. -/
theorem State.finish_of_atRest {s : State} (h : s.atRest) : s.finish = s := by
  have e : s.run.serveIfDue s.cfg = s.run := Run.serveIfDue_of_not_due h.1
  rw [State.finish, e]
  exact State.kick_of_settled h.2

/-! ## Events -/

theorem State.event_occurs {s : State} {b : Bool} {f : State → State} (h : s.inReset = false) (hb : b = true) :
    s.event b f = .next (f s).finish := by simp [State.event, h, hb]

theorem State.event_not {s : State} {b : Bool} {f : State → State} (h : s.inReset = true ∨ b = false) :
    s.event b f = .next s := by rcases h with h | h <;> simp [State.event, h]

theorem State.runEvent_occurs {s : State} {b : Bool} {f : Cfg → Run → Run} (h : s.inReset = false) (hb : b = true) :
    s.runEvent b f = .next { s with run := f s.cfg s.run }.finish := State.event_occurs h hb

theorem State.runEvent_not {s : State} {b : Bool} {f : Cfg → Run → Run} (h : s.inReset = true ∨ b = false) :
    s.runEvent b f = .next s := State.event_not h

/-- An event always answers a next state: its effect, or the state as it was. -/
theorem State.event_next (s : State) (b : Bool) (f : State → State) :
    s.event b f = .next (f s).finish ∨ s.event b f = .next s := by
  unfold State.event
  split
  · exact .inl rfl
  · exact .inr rfl

theorem State.runEvent_next (s : State) (b : Bool) (f : Cfg → Run → Run) :
    s.runEvent b f = .next { s with run := f s.cfg s.run }.finish ∨ s.runEvent b f = .next s := State.event_next ..

/-! ## The parser -/

/-- The frame of the parser's bytes is the frame they came from. -/
@[simp] theorem frameOfBytes_inner (f : Frame) : frameOfBytes f.inner = f := rfl

@[simp] theorem State.setParser_rx (s : State) (p : Parser) (g : Count) : (s.setParser p g).link.rx = s.link.rx := rfl
@[simp] theorem State.setParser_run (s : State) (p : Parser) (g : Count) : (s.setParser p g).run = s.run := rfl
@[simp] theorem State.setParser_cfg (s : State) (p : Parser) (g : Count) : (s.setParser p g).cfg = s.cfg := rfl
@[simp] theorem State.setParser_parser (s : State) (p : Parser) (g : Count) : (s.setParser p g).link.parser = p := rfl
@[simp] theorem State.setParser_gap (s : State) (p : Parser) (g : Count) : (s.setParser p g).link.gap = g := rfl
@[simp] theorem State.setParser_inReset (s : State) (p : Parser) (g : Count) : (s.setParser p g).inReset = s.inReset := rfl
@[simp] theorem State.raiseLink_link (s : State) (e : LinkError) : (s.raiseLink e).link = s.link := rfl
@[simp] theorem State.raiseLink_cfg (s : State) (e : LinkError) : (s.raiseLink e).cfg = s.cfg := rfl
@[simp] theorem State.raiseLink_inReset (s : State) (e : LinkError) : (s.raiseLink e).inReset = s.inReset := rfl
@[simp] theorem State.raiseLink_pending (s : State) (e : LinkError) : (s.raiseLink e).pending = s.pending := rfl

end Sys2Proof.Machine
end

