-- ==== Sys2Proof/Laws/Events.lean ====
section
/-! SUPPORT. An event on the running part: the state after it, in the words of Safety.lean, and when the end of the event
has nothing left to do; the events that a REFCLK period makes due; the steps of an admission in the words of Safety.lean. -/

namespace Sys2Proof.Machine

open Sys2Proof

theorem State.runEvent_after {s : State} {b : Bool} {f : Cfg → Run → Run} (h : s.inReset = false) (hb : b = true) :
    s.runEvent b f = .next (s.after (f s.cfg s.run)) := by
  rw [State.runEvent_occurs h hb]; rfl

/-- An event that triggers no service and posts no notice leaves nothing to the end of the event. -/
theorem State.after_of_atRest {s : State} (h : s.atRest) {r : Run} (hd : r.arbiterDue = s.run.arbiterDue)
    (hn : r.notices = s.run.notices) : s.after r = { s with run := r } :=
  State.finish_of_atRest ⟨hd.trans h.1, by simpa only [hn] using h.2⟩

theorem State.after_cfg (s : State) (r : Run) : (s.after r).cfg = s.cfg := by simp [State.after]

/-- What the end of an event can change: what a service of the arbiter changes, and the notices. -/
theorem State.after_run (s : State) (r : Run) : ∃ n, (s.after r).run = { r.serveIfDue s.cfg with notices := n } :=
  State.finish_run _

theorem State.after_quiet (s : State) (r : Run) : Run.Quiet r (s.after r).run :=
  State.finish_quiet { s with run := r }

theorem Mode.works_iff (m : Mode) : m.works = true ↔ m ≠ .config := by cases m <;> simp [Mode.works]

theorem SledState.inService_iff (k : SledState) :
    k.inService = true ↔ k = .admitting ∨ k = .tracking ∨ k = .isolated := by
  cases k <;> simp [SledState.inService]

theorem Run.pollIn_eq_some {r : Run} {n : LaneNo} {k : Phase} {p : Poll} :
    r.pollIn n k = some p ↔ (r.lane n).poll = .poll p ∧ p.phase = k := by
  unfold Run.pollIn
  cases h : (r.lane n).poll with
  | absent => simp
  | aborting => simp
  | poll q => by_cases hq : q.phase = k <;> simp [hq] <;> intro e <;> subst e <;> simp [hq]

/-! ## The events of one moment -/

theorem mem_insertByRank (x y : Nat × Instr) (l : List (Nat × Instr)) : y ∈ insertByRank x l ↔ y = x ∨ y ∈ l := by
  induction l with
  | nil => simp [insertByRank]
  | cons z zs ih => simp only [insertByRank]; split <;> simp [ih, or_left_comm]

theorem mem_foldr_insertByRank (y : Nat × Instr) (l : List (Nat × Instr)) : y ∈ l.foldr insertByRank [] ↔ y ∈ l := by
  induction l with
  | nil => simp
  | cons z zs ih => simp [mem_insertByRank, ih]

/-- The order of the events of one moment is free; which they are is not. -/
theorem mem_orderEvents (free : Nat) (cs : List Instr) (c : Instr) : c ∈ orderEvents free cs ↔ c ∈ cs := by
  match cs with
  | [] => simp [orderEvents]
  | [d] => simp [orderEvents]
  | d :: e :: rest =>
    simp only [orderEvents, List.mem_map, mem_foldr_insertByRank, Prod.exists]
    constructor
    · rintro ⟨n, _, ⟨a, k, h, heq⟩, rfl⟩
      cases heq
      exact List.mem_of_getElem? (List.mem_zipIdx_iff_getElem?.mp h)
    · intro h
      obtain ⟨k, hk⟩ := List.mem_iff_getElem?.mp h
      exact ⟨_, c, ⟨c, k, List.mem_zipIdx_iff_getElem?.mpr hk, rfl⟩, rfl⟩

/-- What is due after a period: the events that its ticks can make due and whose condition then holds. -/
theorem State.mem_refclk_due (s : State) (c : Instr) :
    c ∈ s.refclk.due ↔
      ((divide s.cfg.globals.prescale s.run.clock.prescaleCount).2 = true ∧ c ∈ tEvents s.refclk.run
          ∨ (divide Config.refclkPerMs s.run.clock.msCount).2 = true ∧ c ∈ msEvents s.run)
        ∧ isDue s.refclk c = true := by
  have e (t : State) (l : List Instr) : isDue { t with due := l, run := t.run.spendFree } c = isDue t c := by cases c <;> rfl
  have f (r : Run) : tEvents r.spendFree = tEvents r := rfl
  unfold State.refclk
  simp only [mem_orderEvents, List.mem_filter, List.mem_append, e, f]
  split <;> split <;> simp_all

/-- A due event that is dropped leaves everything but the lease's count. -/
theorem State.dropDue_frame (c : Instr) (s : State) :
    s.dropDue c = { s with run := { s.run with pool := { s.run.pool with leaseRemaining := (s.dropDue c).run.pool.leaseRemaining } } } := by
  cases c <;> try rfl
  simp only [State.dropDue, Run.leaseTick]
  split <;> rfl

theorem State.dropDue_of_ne {c : Instr} {s : State} (h : c ≠ .leaseExpiry) : s.dropDue c = s := by cases c <;> first | rfl | exact absurd rfl h

/-- The ms tick that a lease with more than one to count takes from an expiry that is dropped. -/
theorem State.dropDue_leaseExpiry {s : State} (hc : s.run.leaseCounts = true) (h : 1 < s.run.pool.leaseRemaining) :
    s.dropDue .leaseExpiry
      = { s with run := { s.run with pool := { s.run.pool with leaseRemaining := s.run.pool.leaseRemaining - 1 } } } := by
  have e : s.run.leaseEnds = false := by simp [Run.leaseEnds, Nat.not_le.mpr h]
  simp [State.dropDue, Run.leaseTick, hc, e]

/-! ## The steps of an admission -/

theorem Run.firstDue_of_idle {c : Cfg} {p : Probe} {r : Run} (h : (r.probe p).run = .idle) :
    r.firstDue c p = r.takeFirstDue c p := by
  have e (f g : ProbeRun → ProbeRun) : (r.modProbe p f).modProbe p g = r.modProbe p fun x => g (f x) := by
    simp [Run.modProbe, modAt_modAt]
  have hrun (f : ProbeRun → ProbeRun) : ((r.modProbe p f).probe p).run = (f (r.probe p)).run := by
    simp [Run.probe, Run.modProbe]
  simp only [Run.firstDue, Run.takeFirstDue, Run.dueEvent, e, hrun, h, Run.handOutcome, beq_iff_eq]

/-- What an offer of a READY line does: it ends the WAIT of its sled's poll (R102). -/
theorem Run.offerReady_eq (c : Cfg) (i : Sled) (r : Run) :
    r.offerReady c i =
      match (r.lane (laneOfSled i)).poll with
      | .poll q =>
        if sledOfProbe q.probe = i ∧ q.phase = .wait then
          if (c.probe q.probe).mode = .self then
            r.endPoll c (laneOfSled i) q.probe (.success (c.probe q.probe).selfClass none)
          else r.beginRead c (laneOfSled i) q.probe
        else r
      | .absent | .aborting => r := by
  unfold Run.offerReady Run.pollOfSled Run.readyAssertion
  cases (r.lane (laneOfSled i)).poll with
  | absent => rfl
  | aborting => rfl
  | poll q =>
    dsimp only
    by_cases hs : sledOfProbe q.probe = i
    · by_cases hq : q.phase = Phase.wait
      · rw [if_pos hs, if_pos (And.intro hs hq)]
        cases hm : (c.probe q.probe).mode <;> simp [hq, hm]
      · simp [hs, hq]
    · simp [hs]

/-- While its sled is in service a line's filtered level follows the accepted level (R97). -/
theorem Run.followAlert_of_inService {c : Cfg} {i : Sled} {r : Run} (h : (r.life i).state.inService = true) :
    r.followAlert c i = r.takeEdge c i := by
  have e (f : Alert → Alert) : (r.modAlert i fun _ => f (r.alert i)) = r.modAlert i f := by
    simp [Run.modAlert, Run.modSled, modAt, Run.alert]
  have begun := e fun a => a.beginAssertion r.clock.stamp
  have ended := e Alert.endAssertion
  have level : r.alertLevel c i = decide ((r.alert i).accepted ≠ (c.sled i).alertPolarity.deasserted) := by
    simp [Run.alertLevel, h, Polarity.asserts, bne, Bool.beq_eq_decide_eq]
  unfold Run.followAlert Run.takeEdge
  rw [level]
  dsimp only
  by_cases ha : (r.alert i).accepted ≠ (c.sled i).alertPolarity.deasserted
  · rw [decide_eq_true ha]
    by_cases hf : (r.alert i).filtered = true
    · rw [hf, if_neg (by simp), if_neg (by simp [ha])]
    · have hf := Bool.not_eq_true _ |>.mp hf
      rw [if_pos ⟨ha, hf⟩, hf]
      change r.assertingEdge c i = _
      unfold Run.assertingEdge
      rw [← begun]
      cases (c.sled i).alertRole with
      | heat => rfl
      | none => rfl
      | ready => exact Run.offerReady_eq c i _
  · rw [decide_eq_false ha]
    by_cases hf : (r.alert i).filtered = true
    · rw [if_neg (fun k => ha k.1), if_pos ⟨ha, hf⟩, hf]
      change r.deassertingEdge c i = _
      unfold Run.deassertingEdge
      rw [← ended]
      cases (c.sled i).alertRole <;> rfl
    · rw [if_neg (fun k => ha k.1), if_neg (fun k => hf k.2), Bool.not_eq_true _ |>.mp hf]

end Sys2Proof.Machine
end

