-- ==== Sys2Proof/Laws/Lanes.lean ====
section
/-! SUPPORT. What the operations do to the lanes: those of the budget, of faults and of evaluation leave them alone, and
the lane operations keep every IDLE lane's queue served (R115). And what a lane's steps leave it holding down. -/

namespace Sys2Proof.Machine

open Sys2Proof

/-! ## Operations that leave the lanes alone -/

theorem foldl_lanes {α : Type} {f : Run → α → Run} (h : ∀ r a, (f r a).lanes = r.lanes) (as : List α) (r : Run) :
    (as.foldl f r).lanes = r.lanes := by
  induction as generalizing r with
  | nil => rfl
  | cons a as ih => exact (ih _).trans (h r a)

@[simp] theorem Run.post_lanes (c : Cfg) (k : Notice) (r : Run) : (r.post c k).lanes = r.lanes := by
  unfold Run.post; split <;> rfl

@[simp] theorem Run.leaveQueue_lanes (i : Sled) (r : Run) : (r.leaveQueue i).lanes = r.lanes := rfl

@[simp] theorem Run.refreshHeld_lanes (c : Cfg) (r : Run) : (r.refreshHeld c).lanes = r.lanes := rfl

@[simp] theorem Run.join_lanes (c : Cfg) (i : Sled) (k : QClass) (r : Run) : (r.join c i k).lanes = r.lanes := rfl

@[simp] theorem Run.joinIfShort_lanes (c : Cfg) (i : Sled) (r : Run) : (r.joinIfShort c i).lanes = r.lanes := by
  unfold Run.joinIfShort; split <;> simp

@[simp] theorem Run.endBoost_lanes (i : Sled) (r : Run) : (r.endBoost i).lanes = r.lanes := rfl

@[simp] theorem Run.endBoostEarly_lanes (i : Sled) (r : Run) : (r.endBoostEarly i).lanes = r.lanes := by
  unfold Run.endBoostEarly; split <;> simp

@[simp] theorem Run.endAllBoosts_lanes (r : Run) : r.endAllBoosts.lanes = r.lanes := foldl_lanes (by simp) _ r

@[simp] theorem Run.becomeTracking_lanes (c : Cfg) (i : Sled) (r : Run) : (r.becomeTracking c i).lanes = r.lanes := by
  simp [Run.becomeTracking]

@[simp] theorem Run.isolate_lanes (c : Cfg) (i : Sled) (r : Run) : (r.isolate c i).lanes = r.lanes := by
  simp [Run.isolate, Run.cutToFloor]

@[simp] theorem Run.containSled_lanes (c : Cfg) (i : Sled) (r : Run) : (r.containSled c i).lanes = r.lanes := by
  unfold Run.containSled; split <;> (try split) <;> simp

@[simp] theorem Run.settleAdmission_lanes (c : Cfg) (i : Sled) (r : Run) : (r.settleAdmission c i).lanes = r.lanes := by
  unfold Run.settleAdmission; simp only; split <;> (try split) <;> (try split) <;> simp

@[simp] theorem Run.takeNewest_lanes (i : Sled) (r : Run) : (r.takeNewest i).lanes = r.lanes := rfl

@[simp] theorem Run.serveFloor_lanes (c : Cfg) (i : Sled) (r : Run) : (r.serveFloor c i).1.lanes = r.lanes := by
  unfold Run.serveFloor; split <;> simp

@[simp] theorem Run.serveClass_lanes (c : Cfg) (i : Sled) (r : Run) : (r.serveClass c i).1.lanes = r.lanes := by
  unfold Run.serveClass; split
  · rfl
  · simp only; split <;> simp

@[simp] theorem Run.serveEntry_lanes (c : Cfg) (e : Entry) (r : Run) : (r.serveEntry c e).1.lanes = r.lanes := by
  unfold Run.serveEntry; split <;> simp

@[simp] theorem Run.walk_lanes (c : Cfg) (n : Nat) (r : Run) : (Run.walk c n r).lanes = r.lanes := by
  induction n generalizing r with
  | zero => rfl
  | succ n ih => unfold Run.walk; split <;> (try split) <;> simp [ih]

@[simp] theorem Run.serve_lanes (c : Cfg) (r : Run) : (r.serve c).lanes = r.lanes := Run.walk_lanes c _ r

@[simp] theorem Run.serveIfDue_lanes (c : Cfg) (r : Run) : (r.serveIfDue c).lanes = r.lanes := by
  unfold Run.serveIfDue; split <;> simp

theorem revokeLoan_lanes (v : Revoked) (i : Sled) : (revokeLoan v i).run.lanes = v.run.lanes := by
  unfold revokeLoan; split <;> simp

theorem revokeGrant_lanes (c : Cfg) (v : Revoked) (i : Sled) : (revokeGrant c v i).run.lanes = v.run.lanes := by
  unfold revokeGrant; simp only; split <;> simp

theorem foldl_revoked_lanes {f : Revoked → Sled → Revoked} (h : ∀ v i, (f v i).run.lanes = v.run.lanes) (is : List Sled)
    (v : Revoked) : (is.foldl f v).run.lanes = v.run.lanes := by
  induction is generalizing v with
  | nil => rfl
  | cons i is ih => exact (ih _).trans (h v i)

@[simp] theorem Run.revoke_lanes (c : Cfg) (r : Run) : (r.revoke c).lanes = r.lanes := by
  unfold Run.revoke; simp only; split
  · rw [Run.post_lanes, Run.refreshHeld_lanes, foldl_lanes (by simp), foldl_revoked_lanes (revokeGrant_lanes c),
      foldl_revoked_lanes revokeLoan_lanes]
  · rfl

@[simp] theorem Run.resizePool_lanes (c : Cfg) (size : Nat) (r : Run) : (r.resizePool c size).lanes = r.lanes := by
  simp [Run.resizePool]

@[simp] theorem Run.boundaryBooks_lanes (c : Cfg) (i : Sled) (r : Run) : (r.boundaryBooks c i).lanes = r.lanes := by
  have h1 : ∀ r : Run, (r.advanceBoost c i).lanes = r.lanes := by
    intro r; unfold Run.advanceBoost; split <;> (try split) <;> simp
  have h2 : ∀ r : Run, (r.reclaim c i).lanes = r.lanes := by
    intro r; unfold Run.reclaim; simp only; split <;> simp [Run.countReclaim]
  have h3 : ∀ r : Run, (r.advanceReclaim c i).lanes = r.lanes := by
    intro r; unfold Run.advanceReclaim; split <;> (try split) <;> simp [h2, Run.countReclaim]
  simp [Run.boundaryBooks, Run.returnDraining, h1, h3]

@[simp] theorem Run.setWant_lanes (c : Cfg) (i : Sled) (w : Level) (k : Fin 4) (r : Run) :
    (r.setWant c i w k).lanes = r.lanes := by
  have h : ∀ r : Run, (r.queueWant c i w k).lanes = r.lanes := by
    intro r; unfold Run.queueWant
    split <;> (try split) <;> (try split) <;> simp [Run.updateWant, Run.requeue]
  simp [Run.setWant, Run.storeWant, h]

@[simp] theorem Run.startBoost_lanes (c : Cfg) (i : Sled) (n : Nat) (r : Run) : (r.startBoost c i n).lanes = r.lanes := by
  simp [Run.startBoost]

@[simp] theorem Run.zeroBooks_lanes (i : Sled) (r : Run) : (r.zeroBooks i).lanes = r.lanes := rfl

@[simp] theorem Run.release_lanes (c : Cfg) (i : Sled) (r : Run) : (r.release c i).lanes = r.lanes := by
  unfold Run.release; split <;> simp

@[simp] theorem Run.raise_lanes (c : Cfg) (k : FaultClass) (x : Subject) (d : Nat) (r : Run) :
    (r.raise c k x d).lanes = r.lanes := by
  have h1 : ∀ (v : Severity) (f : FaultRecord) (r : Run), (r.record c v f).lanes = r.lanes := by
    intro v f r; unfold Run.record; split <;> simp
  have h2 : ∀ r : Run, (r.demandSafe c).lanes = r.lanes := by
    intro r; unfold Run.demandSafe; split <;> simp
  have h3 : ∀ r : Run, (r.contain c x).lanes = r.lanes := fun r => foldl_lanes (by simp) _ r
  unfold Run.raise; simp only; split <;> simp [h1, h2, h3]

@[simp] theorem Run.evaluate_lanes (c : Cfg) (i : Sled) (r : Run) : (r.evaluate c i).lanes = r.lanes := by
  unfold Run.evaluate; split
  · simp only [Run.handThermal]; split
    · simp
    · split <;> simp
  · rfl

/-- An outcome is handed on without a change of a lane (R135). -/
@[simp] theorem Run.handOutcome_lanes (c : Cfg) (p : Probe) (o : PollResult) (r : Run) :
    (r.handOutcome c p o).lanes = r.lanes := by
  cases o with
  | success k v => simp only [Run.handOutcome, Run.handSuccess]; split <;> simp [Run.leaveAwaiting]
  | failure k raw => cases raw <;> simp only [Run.handOutcome, Run.handFailure] <;> split <;> simp

/-! ## Operations on the lanes keep every IDLE lane served -/

theorem Run.lanesServed_of_lanes {r t : Run} (h : t.lanes = r.lanes) (hr : r.lanesServed) : t.lanesServed := by
  intro n; rw [Run.lane, h]; exact hr n

/-- A change of one lane keeps the lanes served where the lane it makes is. -/
theorem Run.lanesServed_modLane {r : Run} {n : LaneNo} {f : Lane → Lane} (hr : r.lanesServed)
    (h : (f (r.lane n)).state = .idle → (f (r.lane n)).queue = []) : (r.modLane n f).lanesServed := by
  intro m
  rw [Run.modLane_lane]
  split
  · exact h
  · exact hr m

theorem Run.lanesServed_foldl {α : Type} {f : Run → α → Run} (h : ∀ r a, r.lanesServed → (f r a).lanesServed) (as : List α)
    {r : Run} (hr : r.lanesServed) : (as.foldl f r).lanesServed := by
  induction as generalizing r with
  | nil => exact hr
  | cons a as ih => exact ih (h r a hr)

theorem Run.lanesServed_spendFree {r : Run} (hr : r.lanesServed) : r.spendFree.lanesServed := hr

theorem Run.lanesServed_openOnLane {c : Cfg} {n : LaneNo} {r : Run} (hr : r.lanesServed) : (r.openOnLane c n).lanesServed :=
  lanesServed_spendFree (lanesServed_modLane hr (hr n))

theorem Run.lanesServed_closeOnLane {n : LaneNo} {r : Run} (hr : r.lanesServed) : (r.closeOnLane n).lanesServed :=
  lanesServed_modLane hr (hr n)

theorem Run.lanesServed_setPoll {n : LaneNo} {p : Poll} {r : Run} (hr : r.lanesServed) : (r.setPoll n p).lanesServed :=
  lanesServed_modLane hr (hr n)

theorem Run.lanesServed_beginRead {c : Cfg} {n : LaneNo} {p : Probe} {r : Run} (hr : r.lanesServed) :
    (r.beginRead c n p).lanesServed :=
  lanesServed_openOnLane (lanesServed_setPoll hr)

theorem Run.lanesServed_beginWaitOrRead {c : Cfg} {n : LaneNo} {p : Probe} {r : Run} (hr : r.lanesServed) :
    (r.beginWaitOrRead c n p).lanesServed := by
  unfold Run.beginWaitOrRead
  split
  · exact lanesServed_beginRead hr
  all_goals exact lanesServed_setPoll hr

theorem Run.lanesServed_beginPoll {c : Cfg} {n : LaneNo} {p : Probe} {r : Run} (hr : r.lanesServed) :
    (r.beginPoll c n p).lanesServed := by
  unfold Run.beginPoll
  split
  · exact lanesServed_openOnLane (lanesServed_setPoll hr)
  · exact lanesServed_beginWaitOrRead hr

theorem Run.lanesServed_endInit {c : Cfg} {n : LaneNo} {p : Probe} {r : Run} (hr : r.lanesServed) :
    (r.endInit c n p).lanesServed := by
  have h : ((r.closeOnLane n).modProbe p fun x => { x with needsInit := false }).lanesServed :=
    lanesServed_of_lanes rfl (lanesServed_closeOnLane hr)
  unfold Run.endInit
  simp only
  split
  · exact lanesServed_setPoll h
  · exact lanesServed_beginWaitOrRead h

/-- A lane that serves its queue is served itself, whatever it was. -/
theorem Run.lanesServed_serveLane {c : Cfg} {n : LaneNo} {r : Run}
    (hr : ∀ m, m ≠ n → (r.lane m).state = .idle → (r.lane m).queue = []) : (r.serveLane c n).lanesServed := by
  unfold Run.serveLane
  split
  · refine lanesServed_beginPoll (lanesServed_of_lanes (Run.modProbe_lanes ..) ?_)
    intro m hm
    rw [Run.modLane_lane] at hm ⊢
    split at hm
    · cases hm
    · next h => rw [if_neg h]; exact hr m h hm
  · next h =>
    intro m hm
    by_cases hn : m = n
    · subst hn
      cases hq : (r.lane m).queue with
      | nil => rfl
      | cons p ps => exact absurd hq (h p ps hm)
    · exact hr m hn hm

/-- A lane that is changed and serves its queue again. -/
theorem Run.lanesServed_thenServe {c : Cfg} {n : LaneNo} {f : Lane → Lane} {r : Run} (hr : r.lanesServed) :
    ((r.modLane n f).serveLane c n).lanesServed := by
  refine lanesServed_serveLane fun m hm => ?_
  rw [Run.modLane_lane, if_neg hm]
  exact hr m

theorem Run.lanesServed_freeLane {c : Cfg} {n : LaneNo} {r : Run} (hr : r.lanesServed) : (r.freeLane c n).lanesServed :=
  lanesServed_thenServe hr

theorem Run.lanesServed_handOutcome {c : Cfg} {p : Probe} {o : PollResult} {r : Run} (hr : r.lanesServed) :
    (r.handOutcome c p o).lanesServed :=
  lanesServed_of_lanes (Run.handOutcome_lanes ..) hr

theorem Run.lanesServed_endPoll {c : Cfg} {n : LaneNo} {p : Probe} {o : PollResult} {r : Run} (hr : r.lanesServed) :
    (r.endPoll c n p o).lanesServed :=
  lanesServed_freeLane (lanesServed_of_lanes (Run.modProbe_lanes ..) (lanesServed_handOutcome hr))

theorem Run.lanesServed_dueEvent {c : Cfg} {p : Probe} {r : Run} (hr : r.lanesServed) : (r.dueEvent c p).lanesServed := by
  unfold Run.dueEvent
  simp only
  split
  · exact lanesServed_of_lanes (by simp) hr
  · exact lanesServed_of_lanes (by simp) hr
  · split
    · exact lanesServed_of_lanes (Run.handOutcome_lanes c p (.failure .laneFailed none) _) hr
    · exact lanesServed_thenServe hr

theorem Run.lanesServed_beginAttempt {c : Cfg} {n : LaneNo} {k : Nat} {r : Run} (hr : r.lanesServed) :
    (r.beginAttempt c n k).lanesServed :=
  lanesServed_spendFree (lanesServed_modLane hr fun h => nomatch h)

theorem Run.lanesServed_abandonLane {n : LaneNo} {r : Run} (hr : r.lanesServed) : (r.abandonLane n).lanesServed :=
  lanesServed_spendFree (lanesServed_modLane hr (hr n))

theorem Run.lanesServed_failLane {c : Cfg} {n : LaneNo} {r : Run} (hr : r.lanesServed) : (r.failLane c n).lanesServed := by
  refine lanesServed_foldl (fun t p ht => ?_) _ ?_
  · refine lanesServed_of_lanes (Run.handOutcome_lanes c p (.failure .laneFailed none) _) ?_
    refine lanesServed_of_lanes (Run.modProbe_lanes ..) (lanesServed_modLane ht fun h => ?_)
    simp [ht n h]
  · exact lanesServed_of_lanes (Run.raise_lanes ..) (lanesServed_modLane hr fun h => nomatch h)

theorem Run.lanesServed_attemptFailed {c : Cfg} {n : LaneNo} {r : Run} (hr : r.lanesServed) :
    (r.attemptFailed c n).lanesServed := by
  unfold Run.attemptFailed
  split
  · exact lanesServed_beginAttempt hr
  · exact lanesServed_failLane hr

theorem Run.lanesServed_attemptSucceeded {c : Cfg} {n : LaneNo} {r : Run} (hr : r.lanesServed) :
    (r.attemptSucceeded c n).lanesServed := by
  refine lanesServed_serveLane fun m hm => ?_
  rw [Run.lane, foldl_lanes (by simp), ← Run.lane, Run.modLane_lane, if_neg hm]
  exact hr m

theorem Run.lanesServed_unqueue {p : Probe} {r : Run} (hr : r.lanesServed) : (r.unqueue p).lanesServed :=
  lanesServed_of_lanes (Run.modProbe_lanes ..) (lanesServed_modLane hr fun h => by simp [hr _ h])

theorem Run.lanesServed_abortPoll {c : Cfg} {n : LaneNo} {r : Run} (hr : r.lanesServed) : (r.abortPoll c n).lanesServed := by
  unfold Run.abortPoll
  split
  · simp only
    split
    · exact lanesServed_freeLane (lanesServed_of_lanes rfl hr)
    · exact lanesServed_freeLane (lanesServed_of_lanes rfl hr)
    · exact lanesServed_modLane (lanesServed_of_lanes rfl hr) (hr n)
    · exact lanesServed_modLane (lanesServed_of_lanes rfl hr) (hr n)
  all_goals exact hr

theorem Run.lanesServed_dropProbes {c : Cfg} {i : Sled} {r : Run} (hr : r.lanesServed) : (r.dropProbes c i).lanesServed := by
  have h := lanesServed_unqueue (p := probeB i) (lanesServed_unqueue (p := probeA i) hr)
  unfold Run.dropProbes
  simp only
  refine lanesServed_foldl (fun t p ht => lanesServed_of_lanes (Run.modProbe_lanes ..) ht) _ ?_
  split
  · exact lanesServed_abortPoll h
  · exact h

/-- On SET_MODE CONFIG every queue is emptied first, so the lanes are served whatever they were. -/
theorem Run.lanesServed_stopLanes (c : Cfg) (r : Run) : (r.stopLanes c).lanesServed :=
  lanesServed_foldl (fun _ _ ht => lanesServed_abortPoll ht) _ fun n _ => by simp [Run.lane]

theorem Run.lanesServed_followAlert {c : Cfg} {i : Sled} {r : Run} (hr : r.lanesServed) : (r.followAlert c i).lanesServed := by
  have offers : ∀ t : Run, t.lanesServed → (t.offerReady c i).lanesServed := by
    intro t ht
    unfold Run.offerReady
    split
    · split
      · unfold Run.readyAssertion
        split
        · exact lanesServed_endPoll ht
        all_goals exact lanesServed_beginRead ht
      · exact ht
    · exact ht
  unfold Run.followAlert
  split
  · unfold Run.assertingEdge
    simp only
    split
    · exact lanesServed_of_lanes (by simp) hr
    · exact offers _ hr
    · exact hr
  · unfold Run.deassertingEdge
    simp only
    split
    · exact lanesServed_of_lanes (by simp) hr
    all_goals exact hr
  all_goals exact hr

theorem Run.lanesServed_firstDue {c : Cfg} {p : Probe} {r : Run} (hr : r.lanesServed) : (r.firstDue c p).lanesServed :=
  lanesServed_dueEvent (lanesServed_of_lanes (Run.modProbe_lanes ..) hr)

theorem Run.lanesServed_startAdmission {c : Cfg} {i : Sled} {r : Run} (hr : r.lanesServed) :
    (r.startAdmission c i).lanesServed := by
  unfold Run.startAdmission
  simp only
  refine lanesServed_of_lanes (Run.post_lanes ..) (lanesServed_followAlert ?_)
  refine lanesServed_foldl (fun t p ht => lanesServed_firstDue ht) _ (lanesServed_spendFree ?_)
  exact lanesServed_of_lanes (Run.serve_lanes ..) hr

theorem Run.lanesServed_teardown {c : Cfg} {i : Sled} {r : Run} (hr : r.lanesServed) : (r.teardown c i).lanesServed := by
  unfold Run.teardown
  simp only
  refine lanesServed_of_lanes ((Run.post_lanes ..).trans ((Run.modTherm_lanes ..).trans (Run.modAlert_lanes ..))) ?_
  exact lanesServed_dropProbes hr

/-! ## The drive of SCL and SDA -/

theorem pullAfter_append (a b : List PinStep) : pullAfter (a ++ b) = b.foldl Pull.take (pullAfter a) := List.foldl_append ..

/-- A stop leaves both pins released, whatever came before it (R107). -/
theorem pullAfter_stop (course : List PinStep) : pullAfter (course ++ BusStep.stop.pins) = .none := by
  simp [pullAfter_append, BusStep.pins, Pull.take, Pull.none]

theorem State.lanePull_of_quiet {s : State} {n : LaneNo} (h : s.inReset = true ∨ (s.run.lane n).quiet = true)
    (course : List PinStep) : s.lanePull n course = .none := by
  unfold State.lanePull
  rcases h with h | h <;> simp [h]

theorem State.lanePull_of_working {s : State} {n : LaneNo} (h1 : s.inReset = false) (h2 : (s.run.lane n).quiet = false)
    (course : List PinStep) : s.lanePull n course = pullAfter course := by
  simp [State.lanePull, h1, h2]

/-! ## What a lane reads on its pins -/

/-- A wait ends at the first reading that meets its condition. -/
theorem awaitReading_append {met : Reading → Bool} {held : List Reading} (h : ∀ x ∈ held, met x = false) (rest : List Reading) :
    awaitReading met (held ++ rest) = awaitReading met rest := by
  induction held with
  | nil => rfl
  | cons x xs ih =>
    have hx := h x (by simp)
    simp only [List.cons_append, awaitReading, hx]
    exact ih fun y hy => h y (by simp [hy])

/-- A wait whose condition no reading meets goes on. -/
theorem awaitReading_eq_none {met : Reading → Bool} {held : List Reading} (h : ∀ x ∈ held, met x = false) :
    awaitReading met held = none := by
  simpa [awaitReading] using awaitReading_append h []

/-- Pin steps are taken one part after the other. -/
theorem readSteps_append (a b : List PinStep) (l : List Reading) :
    readSteps (a ++ b) l = (readSteps a l).bind fun t => (readSteps b t.2).map fun u => (t.1 ++ u.1, u.2) := by
  induction a generalizing l with
  | nil => simp [readSteps]
  | cons x xs ih =>
    have wait (o : Option (List Reading)) :
        o.bind (readSteps (xs ++ b))
          = (o.bind (readSteps xs)).bind fun t => (readSteps b t.2).map fun u => (t.1 ++ u.1, u.2) := by
      cases o with
      | none => rfl
      | some l => exact ih l
    cases x with
    | sampleSda =>
      cases l with
      | nil => rfl
      | cons y ys =>
        simp only [List.cons_append, readSteps, ih]
        cases readSteps xs ys with
        | none => rfl
        | some t =>
          change ((readSteps b t.2).map _).map _ = (readSteps b t.2).map _
          cases readSteps b t.2 <;> rfl
    | waitSclHigh | waitSdaHigh | waitBusFree => exact wait _
    | sclLow | sclRelease | sdaLow | sdaRelease | halfPeriod => exact ih l

/-- A bit takes one sample of SDA, after the wait for SCL. -/
theorem readSteps_bitSteps (release : Bool) {held : List Reading} (h : ∀ x ∈ held, x.scl = .low) (m : Pin) (x : Reading)
    (later : List Reading) :
    readSteps (bitSteps release) (held ++ { scl := .high, sda := m } :: x :: later) = some ([x.sda], later) := by
  have wait := awaitReading_append (met := fun x => x.scl == .high) (held := held) (fun y hy => by simp [h y hy])
    ({ scl := .high, sda := m } :: x :: later)
  cases release <;> simp [bitSteps, readSteps, wait, awaitReading]

end Sys2Proof.Machine
end

