-- ==== Sys2Proof/Laws/PerInstr.lean ====
section
/-! SUPPORT. What holds of each command as syntax: the frame that spells it, where one does, can be sent. -/

namespace Sys2Proof.Laws.RequestFrame

open Sys2Proof Sys2Proof.Machine

/-- A command that can exist and that a frame spells is spelled by a frame whose LEN is in range (R162). -/
def Statement (c : Instr) : Prop :=
  c.wf = true → ∀ f, frameOf c = some f → f.payload.length ≤ maxPayload

/-- No frame spells an event. -/
theorem of_event {c : Instr} (h : frameOf c = none) : Statement c := by
  intro _ f hf
  simp [h] at hf

/-- A frame with a given payload, where being well-formed says that it fits. -/
theorem of_payload {c : Instr} {f : Frame} (h : frameOf c = some f) (hp : c.wf = true → payloadFits f.payload = true) :
    Statement c := by
  intro hw g hg
  rw [h] at hg
  cases hg
  simpa [payloadFits] using hp hw

theorem powerOn : Statement .powerOn := of_event rfl
theorem rstNLow : Statement .rstNLow := of_event rfl
theorem resetRelease (rate : Pin) : Statement (.resetRelease rate) := of_event rfl
theorem frameReceived (b : Byte) : Statement (.frameReceived b) := of_event rfl
theorem frameLengthDiscard (b : Byte) : Statement (.frameLengthDiscard b) := of_event rfl
theorem linkGapExpiry : Statement .linkGapExpiry := of_event rfl
theorem frameSent : Statement .frameSent := of_event rfl
theorem unknownRequest (tag : Byte) (type : Byte) (payload : List Byte) : Statement (.unknownRequest tag type payload) := of_payload rfl fun h => (Bool.and_eq_true _ _ ▸ h).1
theorem identify (tag : Byte) (payload : List Byte) : Statement (.identify tag payload) := of_payload rfl id
theorem queryPart (tag : Byte) (payload : List Byte) : Statement (.queryPart tag payload) := of_payload rfl id
theorem setModeRun (tag : Byte) : Statement (.setModeRun tag) := of_payload rfl fun _ => rfl
theorem setModeConfig (tag : Byte) : Statement (.setModeConfig tag) := of_payload rfl fun _ => rfl
theorem setModeSafe (tag : Byte) (payload : List Byte) : Statement (.setModeSafe tag payload) := of_payload rfl fun h => (Bool.and_eq_true _ _ ▸ h).1
theorem reset (tag : Byte) (payload : List Byte) : Statement (.reset tag payload) := of_payload rfl id
theorem writeGlobals (tag : Byte) (payload : List Byte) : Statement (.writeGlobals tag payload) := of_payload rfl id
theorem readGlobals (tag : Byte) (payload : List Byte) : Statement (.readGlobals tag payload) := of_payload rfl id
theorem writeLevels (tag : Byte) (payload : List Byte) : Statement (.writeLevels tag payload) := of_payload rfl id
theorem readLevels (tag : Byte) (payload : List Byte) : Statement (.readLevels tag payload) := of_payload rfl id
theorem writeSled (tag : Byte) (payload : List Byte) : Statement (.writeSled tag payload) := of_payload rfl id
theorem readSled (tag : Byte) (payload : List Byte) : Statement (.readSled tag payload) := of_payload rfl id
theorem writeProbe (tag : Byte) (payload : List Byte) : Statement (.writeProbe tag payload) := of_payload rfl id
theorem readProbe (tag : Byte) (payload : List Byte) : Statement (.readProbe tag payload) := of_payload rfl id
theorem writeScript (tag : Byte) (payload : List Byte) : Statement (.writeScript tag payload) := of_payload rfl id
theorem readScript (tag : Byte) (payload : List Byte) : Statement (.readScript tag payload) := of_payload rfl id
theorem writeRouting (tag : Byte) (payload : List Byte) : Statement (.writeRouting tag payload) := of_payload rfl id
theorem readRouting (tag : Byte) (payload : List Byte) : Statement (.readRouting tag payload) := of_payload rfl id
theorem setNotices (tag : Byte) (payload : List Byte) : Statement (.setNotices tag payload) := of_payload rfl id
theorem setPool (tag : Byte) (payload : List Byte) : Statement (.setPool tag payload) := of_payload rfl id
theorem renewLease (tag : Byte) (payload : List Byte) : Statement (.renewLease tag payload) := of_payload rfl id
theorem setWant (tag : Byte) (payload : List Byte) : Statement (.setWant tag payload) := of_payload rfl id
theorem boost (tag : Byte) (payload : List Byte) : Statement (.boost tag payload) := of_payload rfl id
theorem releaseSled (tag : Byte) (payload : List Byte) : Statement (.releaseSled tag payload) := of_payload rfl id
theorem clearZone (tag : Byte) (payload : List Byte) : Statement (.clearZone tag payload) := of_payload rfl id
theorem resetLane (tag : Byte) (payload : List Byte) : Statement (.resetLane tag payload) := of_payload rfl id
theorem querySled (tag : Byte) (payload : List Byte) : Statement (.querySled tag payload) := of_payload rfl id
theorem queryPool (tag : Byte) (payload : List Byte) : Statement (.queryPool tag payload) := of_payload rfl id
theorem queryProbe (tag : Byte) (payload : List Byte) : Statement (.queryProbe tag payload) := of_payload rfl id
theorem queryLane (tag : Byte) (payload : List Byte) : Statement (.queryLane tag payload) := of_payload rfl id
theorem readAlert (tag : Byte) (payload : List Byte) : Statement (.readAlert tag payload) := of_payload rfl fun h => (Bool.and_eq_true _ _ ▸ h).1
theorem readAlertAndClear (tag : Byte) (sled : Byte) : Statement (.readAlertAndClear tag sled) := of_payload rfl fun _ => rfl
theorem readFaults (tag : Byte) (payload : List Byte) : Statement (.readFaults tag payload) := of_payload rfl id
theorem clearFaults (tag : Byte) (payload : List Byte) : Statement (.clearFaults tag payload) := of_payload rfl id
theorem boundaryEvent (sled : Sled) : Statement (.boundaryEvent sled) := of_event rfl
theorem carrierSectionEnd (sled : Sled) : Statement (.carrierSectionEnd sled) := of_event rfl
theorem leaseExpiry : Statement .leaseExpiry := of_event rfl
theorem presenceLineChange (sled : Sled) (level : Pin) : Statement (.presenceLineChange sled level) := of_event rfl
theorem presenceSettleExpiry (sled : Sled) : Statement (.presenceSettleExpiry sled) := of_event rfl
theorem admitCountExpiry (sled : Sled) : Statement (.admitCountExpiry sled) := of_event rfl
theorem zoneInputChange (z : ZoneNo) (level : Pin) : Statement (.zoneInputChange z level) := of_event rfl
theorem zoneSettleExpiry (z : ZoneNo) : Statement (.zoneSettleExpiry z) := of_event rfl
theorem zoneReleaseExpiry : Statement .zoneReleaseExpiry := of_event rfl
theorem alertLevelAccepted (sled : Sled) : Statement (.alertLevelAccepted sled) := of_event rfl
theorem sustainReached (sled : Sled) : Statement (.sustainReached sled) := of_event rfl
theorem stuckReached (sled : Sled) : Statement (.stuckReached sled) := of_event rfl
theorem hotPersistExpiry (sled : Sled) : Statement (.hotPersistExpiry sled) := of_event rfl
theorem dueEvent (p : Probe) : Statement (.dueEvent p) := of_event rfl
theorem initTransactionEnd (n : LaneNo) : Statement (.initTransactionEnd n) := of_event rfl
theorem notAcknowledge (n : LaneNo) : Statement (.notAcknowledge n) := of_event rfl
theorem settleExpiry (n : LaneNo) : Statement (.settleExpiry n) := of_event rfl
theorem waitExpiry (n : LaneNo) : Statement (.waitExpiry n) := of_event rfl
theorem readTransactionEnd (n : LaneNo) (b0 : Byte) (b1 : Byte) : Statement (.readTransactionEnd n b0 b1) := of_event rfl
theorem transactionTimeout (n : LaneNo) : Statement (.transactionTimeout n) := of_event rfl
theorem abortStopEnd (n : LaneNo) : Statement (.abortStopEnd n) := of_event rfl
theorem recoveryAttemptEnd (n : LaneNo) (sda : Pin) : Statement (.recoveryAttemptEnd n sda) := of_event rfl
theorem recoveryAttemptTimeout (n : LaneNo) : Statement (.recoveryAttemptTimeout n) := of_event rfl
theorem linkByteReceived (b : Byte) : Statement (.linkByteReceived b) := of_event rfl
theorem alertSampleChange (sled : Sled) (level : Pin) : Statement (.alertSampleChange sled level) := of_event rfl

end Sys2Proof.Laws.RequestFrame
end

