-- ==== Sys2Proof/Laws/Requests.lean ====
section
/-! SUPPORT. What a request command does: how its frame is received, and the state after it is taken. -/

namespace Sys2Proof.Machine

open Sys2Proof

/-- A request that can be taken, received: the frame stands at the front, and when it leaves what waited behind it
stays. -/
theorem State.receive_ready {f : Frame} {s : State} (h : Ready f s) :
    (s.receive f).link.rx.head? = some f ∧ (s.receive f).link.canTake = true ∧ (s.receive f).popFrame = s.popFrame := by
  obtain ⟨_, _, h3, h4, h5⟩ := h
  unfold State.receive
  split
  · next hh =>
    have hne : s.link.rx ≠ [] := by intro e; simp [e] at hh
    have : s.link.rx.isEmpty = false := by simp [hne]
    exact ⟨hh, by simp [Link.canTake, this, queueMax, h4, h5], rfl⟩
  · next hh =>
    rcases h3 with h3 | h3
    · simp [State.acceptFrame, h3, queueMax, Link.canTake, h4, h5, State.popFrame]
    · exact absurd h3 hh

/-- A request taken at once: carried out on the state without its frame, answered, and the transmitter goes on. -/
theorem State.request_ready {f : Frame} {s : State} (h : Ready f s) {isReset : Bool} {body : Body} {t : State} {a : Answer}
    (hb : body s.popFrame = (t, a)) :
    s.request f true isReset body
      = .next ({ t with run := t.run.serveIfDue t.cfg }.pushReply
          { frame := replyFrame f a, isReset := isReset && a.status == Status.ok }).finish := by
  obtain ⟨h1, h2, h3⟩ := State.receive_ready h
  have hr : s.inReset = false := h.1
  unfold State.request
  rw [if_neg (by simp), if_neg (by simp [hr])]
  dsimp only
  rw [if_pos ⟨h1, h2⟩]
  unfold State.answer
  rw [h3, hb]

/-- A request taken at once, whose effect is on the configuration and the running part. -/
theorem State.request_replied {f : Frame} {s : State} (h : Ready f s) {body : Body} {c : Cfg} {r : Run} {a : Answer}
    (hb : body s.popFrame = ({ s.popFrame with cfg := c, run := r }, a)) :
    s.request f true false body = .next (s.replied f (put8 a.status.code ++ a.content) c r) := by
  rw [State.request_ready h hb]
  unfold State.finish
  simp only [State.pushReply, Run.serveIfDue_idem]
  rfl

/-- The request path answers a next state for every well-formed command. -/
theorem State.request_next (f : Frame) (isReset : Bool) (body : Body) (s : State) :
    ∃ t, s.request f true isReset body = .next t := by
  unfold State.request
  rw [if_neg (by simp)]
  split
  · exact ⟨_, rfl⟩
  · dsimp only
    split <;> exact ⟨_, rfl⟩

/-- The request path stops for a command that is not well-formed, and for no other. -/
theorem State.request_illFormed (f : Frame) (isReset : Bool) (body : Body) (s : State) :
    s.request f false isReset body = .fault .illFormed := rfl

/-- A request whose frame cannot be taken now: nothing happens but the reception (R164, R165). -/
theorem State.request_waits {f : Frame} {s : State} (hr : s.inReset = false) (isReset : Bool) (body : Body)
    (h : ¬((s.receive f).link.rx.head? = some f ∧ (s.receive f).link.canTake = true)) :
    s.request f true isReset body = .next (s.receive f).finish := by
  unfold State.request
  rw [if_neg (by simp), if_neg (by simp [hr])]
  dsimp only
  rw [if_neg h]

/-! ## Bodies -/

/-- A request of a wrong length (R166). -/
theorem checked_badLength {lengthOk : Nat → Bool} {modeOk : Mode → Bool} {body : List Byte → Body} {p : List Byte}
    (h : lengthOk p.length = false) (s : State) :
    checked lengthOk modeOk body p s = (s, .refuse .badLength) := by simp [checked, h]

/-- A request in a mode that does not accept it (R168). -/
theorem checked_wrongMode {lengthOk : Nat → Bool} {modeOk : Mode → Bool} {body : List Byte → Body} {p : List Byte}
    {s : State} (h : lengthOk p.length = true) (hm : modeOk s.run.mode = false) :
    checked lengthOk modeOk body p s = (s, .refuse .wrongMode) := by simp [checked, h, hm]

/-- A request of a right length in a mode that accepts it goes on to its own checks. -/
theorem checked_passes {lengthOk : Nat → Bool} {modeOk : Mode → Bool} {body : List Byte → Body} {p : List Byte}
    {s : State} (h : lengthOk p.length = true) (hm : modeOk s.run.mode = true) :
    checked lengthOk modeOk body p s = body p s := by simp [checked, h, hm]

/-- The first failing field is reported (R175). -/
theorem withChecks_fails {checks : List Check} {k : Nat} (h : firstFailing checks = some k) (body : Body) (s : State) :
    withChecks checks body s = (s, .badField k) := by simp [withChecks, h]

theorem withChecks_passes {checks : List Check} (h : firstFailing checks = none) (body : Body) (s : State) :
    withChecks checks body s = body s := by simp [withChecks, h]

@[simp] theorem State.popFrame_run (s : State) : s.popFrame.run = s.run := rfl
@[simp] theorem State.popFrame_cfg (s : State) : s.popFrame.cfg = s.cfg := rfl
@[simp] theorem State.popFrame_inReset (s : State) : s.popFrame.inReset = s.inReset := rfl
@[simp] theorem State.popFrame_rate (s : State) : s.popFrame.link.rate = s.link.rate := rfl

end Sys2Proof.Machine
end

