-- ==== Sys2Proof/Tests/Slice0.lean ====
section
/-! SUPPORT. Tests of the model: ill-formed commands, and for the statements states and operands that meet their
hypotheses, with what the command makes of them. -/

namespace Sys2Proof.Tests

open Sys2Proof Sys2Proof.Machine

set_option Elab.async false
set_option synthInstance.maxSize 4000
set_option synthInstance.maxHeartbeats 400000

/-! ## Helpers -/

/-- What a command makes of a state, seen through `f`; nothing where it stops. -/
def sees {α : Type} (c : Instr) (s : State) (f : State → α) : Option α :=
  match exec c s with
  | .next t => some (f t)
  | .fault _ | .refused _ => none

/-- The payload of the last reply that a command leaves in the reply queue. -/
def answers (c : Instr) (s : State) : Option (List Byte) :=
  (sees c s fun t => (t.link.replies.getLast?.map fun o => o.frame.payload)).join

/-- What a command leaves of the running part. -/
def leaves {α : Type} (c : Instr) (s : State) (f : Run → α) : Option α := sees c s fun t => f t.run

def withRun (f : Run → Run) (s : State) : State := { s with run := f s.run }
def withCfg (f : Cfg → Cfg) (s : State) : State := { s with cfg := f s.cfg }
def withLink (f : Link → Link) (s : State) : State := { s with link := f s.link }
def withGlobals (f : Globals → Globals) : State → State := withCfg fun c => { c with globals := f c.globals }
def withSledCfg (i : Sled) (f : SledCfg → SledCfg) : State → State := withCfg fun c => { c with sleds := modAt i f c.sleds }
def withProbeCfg (p : Probe) (f : ProbeCfg → ProbeCfg) : State → State := withCfg fun c => { c with probes := modAt p f c.probes }
def routed (k : Fin 10) (a : Action) : State → State := withCfg fun c => { c with routing := modAt k (fun _ => a) c.routing }
def inMode (m : Mode) : State → State := withRun fun r => { r with mode := m }

/-- A sled in a state with a grant, its floor held where it is in service with a grant. -/
def seated (i : Sled) (k : SledState) (grant : Nat) : State → State :=
  withRun fun r =>
    (r.modLife i fun l => { l with state := k, present := true, prs := .low }).modBooks i fun b =>
      { b with grant := grant, floorReserved := decide (0 < grant) }

def entry (i : Sled) (k : QClass) (held : Bool) : Entry := { sled := i, cls := k, wanted := 0, held := held }

/-- A part in RUN: S0 at its want, S1 short and queued, S2 waiting for its floor, S3 ISOLATED, S4 ADMITTING with its floor, S5
boosted and queued; 60 units free of 200, under a lease. -/
def live : State :=
  withRun (fun r =>
      { (((r.modBooks 5 fun b => { b with loan := 60, boost := .running, boostFrames := 2 }).modLife 2 fun l =>
          { l with awaitA := true }).modLife 4 fun l => { l with awaitA := true }) with
        pool := { size := 200, fallback := 120, leasePeriod := 30000, leaseRemaining := 7, leaseState := .running }
        queue := [entry 2 .floor false, entry 1 (.cls 3) false, entry 5 (.cls 3) true]
        raiseOrder := [0, 1, 3, 4, 5]
        boostList := [5] })
    (inMode .run (seated 0 .tracking 64 (seated 1 .tracking 4 (seated 2 .admitting 0 (seated 3 .isolated 4
      (seated 4 .admitting 4 (seated 5 .tracking 4 State.reset)))))))

/-- A lane with a poll of its first probe in a phase. -/
def polling (k : Phase) (transaction retries : Nat) (s : State) : State :=
  withRun (fun r =>
      (r.modLane 0 fun x =>
        { x with
          state := .busy
          poll := .poll { probe := 0, phase := k, transaction := transaction, retries := retries, timer := none }
          transaction := if k = .init ∨ k = .read then some 25 else none }).modProbe 0 fun x => { x with run := .active })
    s

/-! ## Ill-formed commands -/

def tooLong : List Byte := List.replicate 125 0

theorem test_too_long_payloads_are_ill_formed :
    ∀ c ∈ ([.unknownRequest 0 0x05 tooLong, .identify 0 tooLong, .queryPart 0 tooLong, .setModeSafe 0 tooLong, .reset 0 tooLong,
      .writeGlobals 0 tooLong, .readGlobals 0 tooLong, .writeLevels 0 tooLong, .readLevels 0 tooLong, .writeSled 0 tooLong,
      .readSled 0 tooLong, .writeProbe 0 tooLong, .readProbe 0 tooLong, .writeScript 0 tooLong, .readScript 0 tooLong,
      .writeRouting 0 tooLong, .readRouting 0 tooLong, .setNotices 0 tooLong, .setPool 0 tooLong, .renewLease 0 tooLong,
      .setWant 0 tooLong, .boost 0 tooLong, .releaseSled 0 tooLong, .clearZone 0 tooLong, .resetLane 0 tooLong,
      .querySled 0 tooLong, .queryPool 0 tooLong, .queryProbe 0 tooLong, .queryLane 0 tooLong, .readAlert 0 tooLong,
      .readFaults 0 tooLong, .clearFaults 0 tooLong] : List Instr),
      c.wf = false ∧ sees c State.reset (fun _ => ()) = none := by
  decide +kernel

theorem test_longest_payload_is_well_formed : (Instr.identify 0 (List.replicate 124 0)).wf = true := by decide +kernel

theorem test_request_types_are_not_unknown : (Instr.unknownRequest 0 0x01 []).wf = false ∧ (Instr.unknownRequest 0 0x05 []).wf = true := by
  decide

theorem test_set_mode_has_one_spelling :
    (Instr.setModeSafe 0 [0]).wf = false ∧ (Instr.setModeSafe 0 [1]).wf = false ∧ (Instr.setModeSafe 0 [2]).wf = true := by
  decide

theorem test_read_alert_has_one_spelling :
    (Instr.readAlert 0 [3, 1]).wf = false ∧ (Instr.readAlert 0 [3, 0]).wf = true := by decide

/-! ## The states the tests use -/

theorem test_live_is_sound :
    live.run.queueSound ∧ live.run.booksSound live.cfg ∧ live.atRest ∧ live.run.lanesServed ∧ live.link.ok ∧ live.cfg.legal
      ∧ live.run.clock.inRange live.cfg.globals ∧ live.run.headroom = 60 ∧ live.run.floorsHeld live.cfg = 20 := by
  refine ⟨by decide +kernel, by decide +kernel, by decide +kernel, by decide +kernel, ⟨by decide, by decide, by decide, trivial, by decide⟩, ?_⟩
  decide +kernel

theorem test_reset_is_ready : Ready (frame 7 0x01 []) State.reset ∧ Ready (frame 7 0x20 (List.replicate 8 0)) live := by
  decide +kernel

/-! ## Steps and time -/

theorem test_step_takes_the_front_command :
    { State.reset with pending := [.powerOn, .frameSent] }.pending = .powerOn :: [.frameSent] := rfl

/-- The part's own turn: each of its six cases occurs. -/
theorem test_own_turn_cases :
    let f := frame 1 0x01 []
    let ready := withLink (fun l => { l with rx := [f] }) State.reset
    let due := .boundaryEvent 0
    State.reset.pending = [] ∧ { State.reset with inReset := true }.inReset = true
    ∧ (State.reset.inReset = false ∧ State.reset.link.canTake = false ∧ State.reset.due = [])
    ∧ isDue State.reset due = true ∧ isDue State.reset (.boundaryEvent 1) = false
    ∧ ready.link.canTake = true ∧ ready.link.rx = [f] := by
  decide +kernel

/-- The timebases: a period that ticks nothing, and one in which both dividers wrap, S1's offset comes and the frame goes on. -/
theorem test_refclk_ticks :
    let s := withRun (fun r => { r with clock := { prescaleCount := 15, msCount := 15999, frame := 40, stamp := 7 } }) State.reset
    State.reset.refclk.run.clock = { prescaleCount := 1, msCount := 1, frame := 0, stamp := 0 }
    ∧ s.refclk.run.clock = { prescaleCount := 0, msCount := 0, frame := 41, stamp := 8 }
    ∧ s.refclk.due = [.boundaryEvent 1] := by
  decide +kernel

/-- The frame wraps, and a count that comes to its end is due. -/
theorem test_frame_wraps :
    let s := withRun (fun r => { r with clock := { prescaleCount := 15, msCount := 0, frame := 999, stamp := 0 } }) State.reset
    s.refclk.run.clock.frame = 0 ∧ s.refclk.due = [.boundaryEvent 0] := by
  decide +kernel

/-- A part in RUN in whose next REFCLK period a T-tick and an ms tick fall, at a frame place that is no sled's offset. -/
def ticking (f : Run → Run) : State :=
  withRun (fun r => f { r with clock := { prescaleCount := 15, msCount := 15999, frame := 500, stamp := 0 } }) live

/-- Counts that run fall by one at their tick, and a count that does not run stays. -/
theorem test_refclk_lowers_counts :
    let r := (ticking fun r =>
      { ((((r.modChan 0 fun x => { x with carrier := .admitting, ticks := 3 }).modLife 2 fun l =>
            { l with settle := some 9, admission := some 8 }).modTherm 1 fun t => { t with state := .hot, hotPersist := some 7 }).modAlert 0
            fun a => { a with run := 14 }).modLane 0 fun y =>
            { y with poll := .poll { probe := 0, phase := .wait, transaction := 0, retries := 0, timer := some 6 } } with
        probes := mapAt (fun _ x => { x with due := some 5 }) r.probes }).refclk.run
    (r.chan 0).ticks = 2 ∧ (r.chan 1).ticks = 0 ∧ (r.life 2).settle = some 8 ∧ (r.life 2).admission = some 7
    ∧ (r.therm 1).hotPersist = some 6 ∧ ((r.alert 0).run, (r.alert 1).run) = (15, 1)
    ∧ ((r.pollIn 0 .wait).bind fun q => q.timer) = some 5 ∧ (r.probe 47).due = some 4 ∧ r.pool.leaseRemaining = 6 := by
  decide +kernel

/-- A count's last tick makes its event due, and an event that has not come to its end is not due. -/
theorem test_refclk_makes_expiries_due :
    let poll (k : Phase) (n : Nat) (r : Run) := r.modLane 0 fun y =>
      { y with poll := .poll { probe := 0, phase := k, transaction := 0, retries := 0, timer := some n } }
    (ticking id).refclk.due = [] ∧ (ticking (poll .wait 2)).refclk.due = []
    ∧ ∀ x ∈ ([(fun r => r.modChan 0 fun x => { x with carrier := .holding, ticks := 1 }, .carrierSectionEnd 0),
        (fun r => r.modAlert 0 fun a => { a with pin := .low }, .alertSampleChange 0 .low),
        (fun r => r.modAlert 0 fun a => { a with pin := .low, lastSample := .low, run := 3 }, .alertLevelAccepted 0),
        (fun r => { r with pool := { r.pool with leaseRemaining := 1 } }, .leaseExpiry),
        (fun r => r.modLife 6 fun l => { l with settle := some 1 }, .presenceSettleExpiry 6),
        (fun r => r.modLife 2 fun l => { l with admission := some 1 }, .admitCountExpiry 2),
        (fun r => r.setZone .releasing (some 1), .zoneReleaseExpiry),
        (fun r => r.modTherm 1 fun t => { t with state := .hot, hotPersist := some 1 }, .hotPersistExpiry 1),
        (fun r => r.modProbe 47 fun x => { x with due := some 1 }, .dueEvent 47),
        (poll .settle 1, .settleExpiry 0), (poll .wait 1, .waitExpiry 0),
        (fun r => r.modLane 3 fun y => { y with poll := .aborting, transaction := some 1 }, .transactionTimeout 3),
        (fun r => r.modLane 3 fun y => { y with state := .recover, attempt := some 1 }, .recoveryAttemptTimeout 3)] :
          List ((Run → Run) × Instr)), (ticking x.1).refclk.due = [x.2] := by
  decide +kernel

/-- An invariant is kept by a step that occurs: the premises of the invariants hold together, and the step goes on. -/
theorem test_invariant_premises :
    (∃ t, step { live with pending := [.boundaryEvent 1] } = .next t)
      ∧ (∀ c ∈ ({ live with pending := [.boundaryEvent 1] } : State).pending, c.wf = true) :=
  ⟨⟨_, rfl⟩, by decide⟩

/-- A level changes at its boundary: S0 of a part in RUN loosens by one level once its dwell is 0. -/
theorem test_level_changes_at_its_boundary :
    let s := withRun (fun r => r.modChan 0 fun x => { x with dwell := 1 }) live
    leaves (.boundaryEvent 0) s (fun r => (r.chan 0).active) = some 14
      ∧ leaves (.boundaryEvent 1) s (fun r => (r.chan 0).active) = some 15 := by
  decide +kernel

/-- Only its write changes the configuration. -/
theorem test_configuration_write_occurs : ∃ t, exec .frameSent State.reset = .next t ∧ t.cfg = State.reset.cfg :=
  ⟨_, rfl, rfl⟩

/-! ## Frames and records -/

def fed {α : Type} (bs : List Byte) (s : State) (f : State → α) : Option α :=
  match feed bs s with
  | .next t => some (f t)
  | .fault _ | .refused _ => none

/-- The CRC of the check string of the CRC's polynomial and start value is 0x29B1. -/
theorem test_crc_check_value : crcOf ([0x31, 0x32, 0x33, 0x34, 0x35, 0x36, 0x37, 0x38, 0x39] : List Byte) = 0x29B1#16 := by
  decide +kernel

/-- IDENTIFY's frame, byte by byte: it is received whole, and with a fifth frame or a wrong CRC it is discarded. -/
theorem test_wire_of_identify :
    let f := frame 0x11 0x01 []
    let s := State.reset
    let full := withLink (fun l => { l with rx := [f, f, f, f] }) s
    f.wire.take 4 = [0xC3, 0x02, 0x11, 0x01] ∧ f.wire.length = 6
    ∧ s.inReset = false ∧ s.atRest ∧ full.atRest ∧ s.link.parser = .hunt ∧ f.payload.length ≤ 124
    ∧ (fed f.wire s fun t => t.link.rx) = some [f]
    ∧ (fed f.wire full fun t => t.run.advisory.first) = some (some { cls := .linkFrame, subject := .link, time := 0, detail := 4 })
    ∧ ([0, 0] : List Byte) ≠ crcBytes (f.len :: f.inner) := by
  decide +kernel

theorem test_frames_spell_requests :
    requestOf (frame 5 0x34 [3, 1]) = .readAlertAndClear 5 3 ∧ requestOf (frame 5 0x34 [3, 0]) = .readAlert 5 [3, 0]
    ∧ requestOf (frame 5 0x03 [1]) = .setModeRun 5 ∧ requestOf (frame 5 0x64 []) = .unknownRequest 5 0x64 []
    ∧ frameOf (.boost 5 [1, 2]) = some (frame 5 0x23 [1, 2]) ∧ (Instr.boost 5 [1, 2]).wf = true := by
  decide

/-- Default records are legal and pass their checks, and so does one at the ends of its ranges. -/
theorem test_records_pass :
    let p := { ProbeCfg.default with underLimit := -32768, upperLimit := 65535, address := 127, pollMs := 65535 }
    Globals.default.legal ∧ (∀ i, (Cfg.default.sled i).offset < Globals.default.frameTicks)
    ∧ (SledCfg.default 23).legal 1000 ∧ p.legal
    ∧ (encodeGlobals Globals.default).length = 41 ∧ firstFailing (globalsChecks .default (encodeGlobals Globals.default)) = none
    ∧ (encodeSled 23 (SledCfg.default 23)).length = 41
    ∧ firstFailing (sledChecks .default (encodeSled 23 (SledCfg.default 23))) = none
    ∧ (encodeProbe 47 p).length = 33 ∧ firstFailing (probeChecks (encodeProbe 47 p)) = none
    ∧ decodeProbe (encodeProbe 47 p) = p := by
  decide +kernel

/-! ## Requests: waiting and refusals -/

/-- A request behind another waits, one too many is discarded, and one at the front waits for a place for its reply. -/
theorem test_requests_wait :
    let f := frame 1 0x01 []
    let g := frame 2 0x02 []
    let behind := withLink (fun l => { l with rx := [g] }) State.reset
    let full := withLink (fun l => { l with rx := [g, g, g, g] }) State.reset
    let o : Outgoing := { frame := g, isReset := false }
    let busy := withLink (fun l => { l with replies := [o, o, o, o] }) State.reset
    (Instr.identify 1 []).wf = true ∧ frameOf (.identify 1 []) = some f ∧ State.reset.inReset = false
    ∧ (sees (.identify 1 []) behind fun t => t.link.rx) = some [g, f]
    ∧ leaves (.identify 1 []) full (fun r => r.advisory.laterCount) = some 0
    ∧ leaves (.identify 1 []) full (fun r => r.advisory.first.isSome) = some true
    ∧ (sees (.identify 1 []) busy fun t => (t.link.rx, t.link.replies.length)) = some ([f], 4)
    ∧ (sees (.identify 1 []) (withLink (fun l => { l with resetAccepted := true, rx := [f] }) State.reset) fun t => t.link.rx)
        = some [f] := by
  decide +kernel

theorem test_common_checks :
    answers (.unknownRequest 1 0x05 []) State.reset = some [2]
    ∧ answers (.setWant 1 []) State.reset = some [1]
    ∧ answers (.setWant 1 [99, 0, 0]) State.reset = some [4]
    ∧ answers (.setWant 1 [24, 16, 0]) live = some [3, 0] ∧ answers (.setWant 1 [23, 16, 4]) live = some [3, 1]
    ∧ answers (.readScript 1 [0x02, 0x00, 0]) State.reset = some [3, 0]
    ∧ answers (.readScript 1 [0x01, 0xFF, 2]) State.reset = some [3, 0]
    ∧ answers (.readScript 1 [0x01, 0xFF, 0]) State.reset = some [3, 2]
    ∧ answers (.setModeSafe 1 [3]) State.reset = some [3, 0] ∧ answers (.writeLevels 1 [16, 1, 0]) State.reset = some [3, 0] := by
  decide +kernel

theorem test_refusal_premises :
    let f := frame 1 0x22 [24, 16, 0]
    Ready f live ∧ Ready f State.reset ∧ lengthAllowed (.setWant 1 [24, 16, 0]) = true ∧ acceptedIn (.setWant 1 [24, 16, 0]) .config = false
    ∧ acceptedIn (.setWant 1 [24, 16, 0]) live.run.mode = true ∧ lengthAllowed (.setWant 1 []) = false
    ∧ firstFailing (fieldChecks live.cfg (.setWant 1 [24, 16, 0])) = some 0 ∧ (0x05 : Byte) ∉ requestTypes := by
  decide +kernel

/-! ## Requests: reports -/

theorem test_reports_after_reset :
    answers (.identify 1 []) State.reset = some [0, 0x52, 0x0C, 0x24, 3, 24, 48, 4, 2, 0, 16, 24, 4]
    ∧ answers (.queryPart 1 []) State.reset = some [0, 0, 0, 0, 0, 0, 0, 0, 0, 0, 0, 0, 0, 0, 0, 1, 0, 0, 1, 0]
    ∧ answers (.queryLane 1 [3]) State.reset = some [0, 0, 0, 0, 25, 0, 255, 0, 0, 0, 0, 1, 1]
    ∧ answers (.readFaults 1 []) State.reset = some [0, 0, 0, 0, 0, 0, 0, 0, 0, 0]
    ∧ answers (.readRouting 1 []) State.reset = some [0, 1, 1, 1, 1, 1, 2, 1, 1, 0, 1] := by
  decide +kernel

theorem test_reports_of_the_pool :
    answers (.queryPool 1 []) live
      = some [0, 0, 200, 0, 120, 0, 0, 117, 48, 1, 0, 0, 0, 7, 0, 80, 0, 60, 0, 0, 0, 20, 0, 60, 2, 15, 0, 1, 3, 0, 5, 3, 128] := by
  decide +kernel

theorem test_reports_of_sled_and_probe :
    answers (.querySled 1 [1]) live
      = some [0, 4, 1, 0, 0, 0, 0, 0, 0, 15, 15, 4, 15, 0, 4, 0, 0, 0, 0, 0, 3, 1, 0, 0, 0, 2, 0, 0, 0, 0, 0, 0, 0, 0, 0, 8, 0]
    ∧ answers (.queryProbe 1 [47]) State.reset = some [0, 0, 0, 0, 0, 0, 0, 0, 0, 0] := by
  decide +kernel

/-- READ_ALERT with a clear shows the values and then clears the four measurements. -/
theorem test_read_alert :
    let s := withRun (fun r => r.modAlert 23 fun a => { a with lastWidth := 5, longest := 9, count := 2, total := 14, seen := true }) live
    answers (.readAlertAndClear 1 23) s
      = some [0, 0, 1, 1, 0, 0, 0, 0, 0, 0, 0, 0, 1, 0, 0, 0, 0, 0, 0, 0, 5, 0, 0, 0, 9, 0, 2, 0, 0, 0, 14]
    ∧ leaves (.readAlertAndClear 1 23) s (fun r => ((r.alert 23).lastWidth, (r.alert 23).count, (r.alert 23).seen))
        = some (0, 0, true)
    ∧ answers (.readAlert 1 [0, 0]) State.reset
        = some [0, 0, 1, 1, 0, 0, 0, 0, 0, 0, 0, 0, 0, 0, 0, 0, 0, 0, 0, 0, 0, 0, 0, 0, 0, 0, 0] := by
  decide +kernel

theorem test_faults_are_cleared :
    let s := withRun (fun r => r.raise (routed 9 .safe live).cfg .linkFrame .link 3) live
    s.run.mode = .safe ∧ answers (.readFaults 1 []) s = some [0, 1, 9, 5, 0, 0, 0, 0, 0, 0, 3, 0, 0, 0, 0, 0, 0, 0, 1]
    ∧ leaves (.clearFaults 1 []) s (fun r => (r.severe.first, r.alarm)) = some (none, true) := by
  decide +kernel

theorem test_configuration_reads :
    answers (.readGlobals 1 []) State.reset
      = some [0, 0, 16, 3, 232, 4, 15, 50, 0, 200, 7, 208, 6, 12, 1, 8, 0, 60, 0, 0, 1, 1, 0, 50, 3, 232, 0, 4, 0, 100, 0, 0, 19,
          136, 0, 0, 0, 0, 25, 25, 25, 25]
    ∧ (answers (.readLevels 1 []) State.reset).map (fun p => p.take 4) = some [0, 0, 16, 0]
    ∧ (answers (.readSled 1 [23]) State.reset).map (fun p => p.take 5) = some [0, 23, 1, 3, 175]
    ∧ (answers (.readProbe 1 [47]) State.reset).map (fun p => p.take 5) = some [0, 47, 0, 0, 74]
    ∧ answers (.readScript 1 [0x01, 0xD0, 48]) State.reset = some (0 :: List.replicate 48 0) := by
  decide +kernel

/-! ## Requests: configuration writes -/

theorem test_plain_writes :
    (sees (.writeLevels 1 [15, 200, 3]) State.reset fun t => (t.cfg.levels.get 15, t.cfg.levels.get 14))
        = some (⟨200, 3⟩, ⟨2, 14⟩)
    ∧ (sees (.writeScript 1 [0x01, 0xFF, 0xAB]) State.reset fun t => (t.cfg.script.get 511, t.cfg.script.get 510)) = some (0xAB, 0)
    ∧ (sees (.writeRouting 1 [0, 1, 2, 3, 0, 1, 3, 0, 0, 3]) live fun t => t.cfg.routing.get 2) = some .contain
    ∧ answers (.writeRouting 1 [0, 1, 2, 3, 0, 1, 2, 2, 0, 3]) live = some [3, 6]
    ∧ (sees (.setNotices 1 [1, 0, 1, 0, 1]) live fun t => t.cfg.mask)
        = some { sled := true, pool := false, fault := true, zone := false, mode := true } := by
  decide +kernel

/-- The ends of the ranges: L16, a 0 ADMIT, a third notice value, a pool, a lease and a fallback one too large. -/
theorem test_first_failing_fields :
    answers (.writeLevels 1 [15, 0, 0]) State.reset = some [3, 1] ∧ answers (.writeLevels 1 [15, 1, 0, 1, 0]) State.reset = some [3, 0]
    ∧ answers (.writeRouting 1 [0, 1, 2, 3, 0, 1, 3, 0, 0, 4]) live = some [3, 9] ∧ answers (.setNotices 1 [1, 0, 1, 0, 2]) live = some [3, 4]
    ∧ answers (.setPool 1 (put16 8001 ++ put32 0 ++ put16 0)) live = some [3, 0]
    ∧ answers (.setPool 1 (put16 8000 ++ put32 600001 ++ put16 8001)) live = some [3, 2]
    ∧ answers (.setPool 1 (put16 8000 ++ put32 600000 ++ put16 8001)) live = some [3, 6] := by
  decide +kernel

theorem test_plain_write_premises :
    let v : List Byte := [15, 200, 3]
    let w : List Byte := [0, 1, 2, 3, 0, 1, 3, 0, 0, 3]
    byteAt v 0 + (v.length - 1) / 2 ≤ 16 ∧ 1 ≤ byteAt v 1
    ∧ firstFailing (probeChecks (encodeProbe 47 .default)) = none
    ∧ wordAt ([0x01, 0xFF, 0xAB] : List Byte) 0 + (3 - 2) ≤ 512 ∧ State.reset.run.mode = .config ∧ live.run.mode ≠ .safe
    ∧ (∀ k, k < 10 → byteAt w k ≤ 3) ∧ byteAt w 6 ≠ 2 ∧ byteAt w 7 ≠ 2 ∧ byteAt w 9 ≠ 2
    ∧ (∀ k, k < 5 → byteAt ([1, 0, 1, 0, 1] : List Byte) k ≤ 1)
    ∧ Ready (frame 1 0x12 [15, 200, 3]) State.reset ∧ Ready (frame 1 0x1C [1, 0, 1, 0, 1]) live
    ∧ (sees (.writeProbe 1 (encodeProbe 47 { ProbeCfg.default with enable := true })) State.reset fun t => (t.cfg.probe 47).enable)
        = some true := by
  decide +kernel

/-- WRITE_GLOBALS: a new frame restarts the frame and the carriers, a new ramp loads the dwells, a polarity that makes an enabled
input asserted starts an emergency. -/
theorem test_write_globals :
    let g : Globals := { Globals.default with
      frameTicks := 2000, rampFrames := 9, zoneEnable := tabulate fun _ => true, zonePolarity := tabulate fun _ => .assertHigh }
    let s := withRun (fun r =>
      { r with
        clock := { r.clock with frame := 5, prescaleCount := 3 }
        zone := { r.zone with filters := tabulate fun _ => { pin := .high, accepted := .high, settle := none } } }) State.reset
    firstFailing (globalsChecks s.cfg (encodeGlobals g)) = none ∧ Ready (frame 1 0x10 (encodeGlobals g)) s
    ∧ leaves (.writeGlobals 1 (encodeGlobals g)) s (fun r => (r.clock.frame, r.clock.prescaleCount, (r.chan 7).dwell, r.zone.state))
        = some (0, 0, 9, .emergency)
    ∧ leaves (.writeGlobals 1 (encodeGlobals Globals.default)) s (fun r => (r.clock.frame, (r.chan 7).dwell, r.zone.state))
        = some (5, 4, .normal) := by
  decide +kernel

/-- WRITE_GLOBALS in an EMERGENCY held by Z0 alone: an input turned off ends it when no other holds it and the latch is off, and
a latch taken away ends one that no input holds. -/
theorem test_write_globals_in_emergency :
    let on (z : ZoneNo → Bool) (latch : Bool) : Globals :=
      { Globals.default with zoneEnable := tabulate z, zoneLatch := latch, zoneReleaseMs := 7 }
    let s (old : Globals) := withGlobals (fun _ => old) (withRun (fun r =>
      { r with zone :=
        { state := .emergency, release := none
          filters := tabulate fun z => if z = 0 then { pin := .low, accepted := .low, settle := none }
            else { pin := .high, accepted := .high, settle := none } } }) State.reset)
    let see (old g : Globals) := leaves (.writeGlobals 1 (encodeGlobals g)) (s old) fun r => (r.zone.state, r.zone.release, r.notices.zone)
    see (on (fun _ => true) false) (on (fun z => z = 1) false) = some (.releasing, some 7, true)
    ∧ see (on (fun _ => true) true) (on (fun z => z = 1) true) = some (.emergency, none, true)
    ∧ see (on (fun _ => false) true) (on (fun _ => false) false) = some (.releasing, some 7, true)
    ∧ see (on (fun _ => true) true) (on (fun _ => true) false) = some (.emergency, none, false) := by
  decide +kernel

theorem test_write_sled :
    let off := encodeSled 3 { SledCfg.default 3 with enable := false }
    let on := encodeSled 3 (SledCfg.default 3)
    let gone := withSledCfg 3 (fun x => { x with enable := false }) (withRun (fun r => r.modLife 3 fun l => { l with state := .disabled }) State.reset)
    firstFailing (sledChecks State.reset.cfg off) = none ∧ Ready (frame 1 0x14 off) State.reset
    ∧ leaves (.writeSled 1 off) State.reset (fun r => (r.life 3).state) = some .disabled
    ∧ leaves (.writeSled 1 on) gone (fun r => (r.life 3).state) = some .absent
    ∧ leaves (.writeSled 1 on) State.reset (fun r => (r.life 3).state) = some .absent := by
  decide +kernel

/-! ## Requests: the budget -/

/-- SET_POOL: one unit below the floors held is refused, the floors held themselves are taken by revoking the loan and S0's grant. -/
theorem test_set_pool :
    answers (.setPool 1 (put16 19 ++ put32 0 ++ put16 0)) live = some [9]
    ∧ leaves (.setPool 1 (put16 20 ++ put32 600000 ++ put16 8000)) live
        (fun r => (r.pool, (r.books 0).grant, (r.books 0).draining, (r.books 5).loan, (r.books 5).draining))
        = some ({ size := 20, fallback := 8000, leasePeriod := 600000, leaseRemaining := 600000, leaseState := .running }, 4, 60, 0, 60)
    ∧ leaves (.setPool 1 (put16 300 ++ put32 0 ++ put16 0)) live (fun r => (r.pool.leaseState, (r.books 2).grant, (r.books 1).grant))
        = some (.none, 4, 64)
    ∧ leaves (.setPool 1 (put16 8000 ++ put32 5 ++ put16 0)) State.reset (fun r => (r.pool.size, r.pool.leaseState))
        = some (8000, .none) := by
  decide +kernel

theorem test_set_pool_premises :
    let p := put16 20 ++ put32 600000 ++ put16 8000
    p.length = 8 ∧ wordAt p 0 ≤ 8000 ∧ longAt p 2 ≤ 600000 ∧ wordAt p 6 ≤ 8000 ∧ Ready (frame 1 0x20 p) live ∧ live.run.mode ≠ .config
    ∧ live.run.floorsHeld live.cfg ≤ 20 ∧ 20 < live.run.sumGrants + live.run.sumLoans := by
  decide +kernel

/-- Five TRACKING sleds that want L0: S0 and S1 in class 3 and S6 in class 0 have it, S7 and S8 have it by boosts and wait held. -/
def crowded : State :=
  withRun (fun r =>
      { (([7, 8] : List Sled).foldl (fun r i => r.modBooks i fun b =>
            { b with loan := 60, boost := .running, boostFrames := 9 }) (r.modBooks 6 fun b => { b with cls := 0 })) with
        pool := { r.pool with size := 320 }
        queue := [entry 7 (.cls 3) true, entry 8 (.cls 3) true]
        raiseOrder := [0, 1, 6, 7, 8]
        boostList := [7, 8] })
    (inMode .run (seated 0 .tracking 64 (seated 1 .tracking 64 (seated 6 .tracking 64 (seated 7 .tracking 4
      (seated 8 .tracking 4 State.reset))))))

/-- Revocation: the youngest boost first; then class 3, the newest raise first; those cut short join in the order of the cuts. -/
theorem test_revocation :
    let see (size : Nat) :=
      let r := crowded.run.resizePool crowded.cfg size
      ((r.books 7).boost, (r.books 8).boost, (r.books 0).grant, (r.books 1).grant, (r.books 6).grant, r.queue.map fun e => e.sled)
    crowded.run.booksSound crowded.cfg ∧ crowded.run.queueSound ∧ crowded.run.floorsHeld crowded.cfg = 20
    ∧ see 320 = (.running, .running, 64, 64, 64, [7, 8]) ∧ see 290 = (.running, .rearm, 64, 64, 64, [7, 8])
    ∧ see 190 = (.rearm, .rearm, 64, 52, 64, [7, 8, 1]) ∧ see 100 = (.rearm, .rearm, 24, 4, 64, [7, 8, 1, 0])
    ∧ see 20 = (.rearm, .rearm, 4, 4, 4, [6, 7, 8, 1, 0]) := by
  decide +kernel

/-- A class entry at the front: raised to its want, raised as far as headroom goes, and not raised by less than a step. -/
theorem test_class_entries_are_served :
    let s (size : Nat) : Run := { live.run with queue := [entry 1 (.cls 3) false], pool := { live.run.pool with size := size } }
    let see (size : Nat) :=
      let r := (s size).serve live.cfg
      ((r.books 1).grant, r.queued 1, r.raiseOrder.getLast?)
    (∀ size ∈ [200, 170, 142], (s size).queueSound ∧ (s size).booksSound live.cfg)
    ∧ see 200 = (64, false, some 1) ∧ see 170 = (32, true, some 1) ∧ see 142 = (4, true, some 5) ∧ (s 142).headroom = 2 := by
  decide +kernel

/-- The arbiter: S2's floor is reserved first, then S1 is raised as far as the headroom left goes. -/
theorem test_arbiter_serves :
    let t := live.run.serve live.cfg
    (t.books 2).grant = 4 ∧ (t.books 1).grant = 60 ∧ t.headroom = 0 ∧ t.raiseOrder = [0, 3, 4, 5, 2, 1]
    ∧ t.queue.map (fun e => e.sled) = [1, 5] := by
  decide +kernel

/-- A floor that the service reserves makes its sled ISOLATED under the contain pending mark, TRACKING and queued where nothing is
awaited, and leaves it ADMITTING where a probe is. -/
theorem test_reserved_floor_settles_the_admission :
    let s (contain awaits : Bool) : Run :=
      { live.run.modLife 2 fun l => { l with containPending := contain, awaitA := awaits } with
        pool := { live.run.pool with size := 144 } }
    let see (contain awaits : Bool) :=
      let t := (s contain awaits).serve live.cfg
      ((t.life 2).state, (t.life 2).containPending, (t.books 2).grant, t.queue.map (fun e => e.sled), t.notices.sled.get 2)
    (∀ contain awaits, (s contain awaits).queueSound ∧ (s contain awaits).booksSound live.cfg)
    ∧ see true true = (.isolated, false, 4, [1, 5], true) ∧ see true false = (.isolated, false, 4, [1, 5], true)
    ∧ see false false = (.tracking, false, 4, [1, 5, 2], true) ∧ see false true = (.admitting, false, 4, [1, 5], false) := by
  decide +kernel

/-- The arbiter's stops: the queue's first unheld entry is a FLOOR entry or a class entry that headroom does not cover. -/
theorem test_arbiter_stops :
    let short : Run := { live.run with pool := { live.run.pool with size := 143 } }
    let full : Run := { short with queue := [entry 1 (.cls 3) false], pool := { live.run.pool with size := 140 } }
    short.headroom < floorCost live.cfg 2 ∧ short.queueSound ∧ short.booksSound live.cfg
    ∧ full.headroom ≤ 0 ∧ full.queueSound ∧ full.booksSound live.cfg
    ∧ (short.serve live.cfg).queue = short.queue ∧ (full.serve live.cfg).queue = full.queue := by
  decide +kernel

theorem test_lease_counts_in_safe :
    let s := withRun (fun r => { r with clock := { r.clock with msCount := 15999 } }) (inMode .safe live)
    s.run.mode = .safe ∧ s.run.pool.leaseState = .running ∧ 16000 ≤ s.run.clock.msCount + 1 ∧ s.refclk.run.pool.leaseRemaining = 6 := by
  decide +kernel

/-- The lease's last tick is its expiry: with two ticks left the next one counts and makes nothing due; the last one is due with the
count still at 1. Taken first it lapses the lease; a renewal taken before it has that tick count, and does not expire. -/
theorem test_lease_last_tick :
    let at_ (n : Nat) := (withRun (fun r =>
      { r with clock := { r.clock with msCount := 15999 }, pool := { r.pool with leaseRemaining := n } }) live).refclk
    let renewed := withRun Run.renewLease (at_ 1)
    (at_ 2).due = [] ∧ (at_ 2).run.pool.leaseRemaining = 1
    ∧ (at_ 1).due = [.leaseExpiry] ∧ (at_ 1).run.pool.leaseRemaining = 1 ∧ isDue (at_ 1) .leaseExpiry = true
    ∧ sees .leaseExpiry (at_ 1) (fun t => answers (.renewLease 1 []) { t with due := [] }) = some (some [8])
    ∧ isDue renewed .leaseExpiry = false
    ∧ (step renewed matches .next _) = true ∧ renewed.link.canTake = false
    ∧ (match step renewed with | .next t => (t.due, t.run.pool.leaseRemaining) | _ => ([], 0)) = ([], 29999) := by
  decide +kernel

theorem test_renew_lease :
    let f := frame 1 0x21 []
    let lapsed := withRun (fun r => { r with pool := { r.pool with leaseState := .lapsed } }) live
    Ready f live ∧ leaves (.renewLease 1 []) live (fun r => r.pool.leaseRemaining) = some 30000
    ∧ answers (.renewLease 1 []) lapsed = some [8] ∧ answers (.renewLease 1 []) (inMode .safe live) = some [4]
    ∧ answers (.renewLease 1 []) (inMode .run State.reset) = some [7] := by
  decide +kernel

/-- SET_WANT: a want below the grant cuts into draining, or into the loan of a RUNNING boost; a queued sled that changes class goes
to its back; S2's FLOOR entry takes a new want, which serves it; an empty slot is NOT_PRESENT. -/
theorem test_set_want :
    leaves (.setWant 1 [0, 15, 1]) live (fun r => ((r.books 0).grant, (r.books 0).draining, (r.books 0).cls)) = some (4, 60, 1)
    ∧ leaves (.setWant 1 [5, 3, 0]) live
        (fun r => (r.queue.map fun e => (e.sled, e.cls, e.wanted), (r.books 5).grant, (r.books 5).loan))
        = some ([(2, .floor, 0), (5, .cls 0, 3), (1, .cls 3, 0)], 4, 60)
    ∧ leaves (.setWant 1 [1, 3, 0]) live (fun r => (r.queue.map fun e => e.sled, (r.books 1).grant)) = some ([5], 52)
    ∧ leaves (.setWant 1 [1, 15, 3]) live (fun r => r.queue.map fun e => e.sled) = some [2, 5]
    ∧ leaves (.setWant 1 [2, 9, 0]) live
        (fun r => (r.queue.map fun e => (e.sled, e.cls, e.wanted), (r.books 2).grant, (r.books 1).grant))
        = some ([(1, .cls 3, 0), (5, .cls 3, 0)], 4, 60)
    ∧ answers (.setWant 1 [23, 0, 0]) live = some [6] := by
  decide +kernel

theorem test_set_want_premises :
    Ready (frame 1 0x22 [1, 3, 3]) live ∧ live.run.mode ≠ .config
    ∧ (live.run.life 1).state = .tracking ∧ ¬costAt live.cfg 1 3 ≤ (live.run.books 1).grant
    ∧ (live.run.queue.any fun e => e.sled == 1 && e.cls == .cls 3) = true ∧ (live.run.life 2).state = .admitting := by
  decide +kernel

/-- BOOST: each check has its status; the loan may take the whole headroom and no more. -/
theorem test_boost :
    let wide := withRun (fun r => { r with queue := [entry 1 (.cls 3) false] }) live
    let tight := withRun (fun r => { r with pool := { r.pool with size := 199 } }) wide
    let hot := withRun (fun r => r.modTherm 1 fun t => { t with state := .warm }) wide
    leaves (.boost 1 [1, 255]) wide
        (fun r => ((r.books 1).loan, (r.books 1).boost, (r.books 1).boostFrames, r.boostList, r.headroom, r.queue.map fun e => e.held))
        = some (60, .running, 255, [5, 1], 0, [true])
    ∧ answers (.boost 1 [23, 1]) wide = some [6] ∧ answers (.boost 1 [5, 1]) wide = some [5]
    ∧ answers (.boost 1 [3, 1]) wide = some [7] ∧ answers (.boost 1 [0, 1]) wide = some [7]
    ∧ answers (.boost 1 [1, 1]) tight = some [7] ∧ answers (.boost 1 [1, 1]) hot = some [7]
    ∧ answers (.boost 1 [24, 0]) wide = some [3, 0] ∧ answers (.boost 1 [1, 0]) wide = some [3, 1] := by
  decide +kernel

theorem test_boost_premises :
    let wide := withRun (fun r => { r with queue := [entry 1 (.cls 3) false] }) live
    Ready (frame 1 0x23 [1, 255]) wide ∧ wide.run.mode = .run ∧ (wide.run.books 1).boost = .none
    ∧ wide.run.zone.state ≠ .emergency ∧ (wide.run.therm 1).state = .cool ∧ (wide.run.books 1).grant < costAt wide.cfg 1 0
    ∧ (costAt wide.cfg 1 0 : Int) - (wide.run.books 1).grant ≤ wide.run.headroom := by
  decide +kernel

/-- A new wanted level on an unheld entry triggers the arbiter, a repeated one does not. -/
theorem test_new_want_triggers :
    (live.run.setWant live.cfg 1 3 3).arbiterDue = true ∧ (live.run.setWant live.cfg 1 0 3).arbiterDue = false
    ∧ (live.run.setWant live.cfg 2 3 3).arbiterDue = true
    ∧ (∀ e ∈ live.run.queue, e.sled = 1 → e.wanted ≠ 3) ∧ (∀ e ∈ (live.run.setWant live.cfg 1 3 3).queue, e.sled = 1 → e.held = false) := by
  decide +kernel

/-- An entry stops being held, which triggers the arbiter: by CLEAR_ZONE and the end of an emergency, by RUN from SAFE, at a boost's
end at its boundary, by an evaluation that loosens the ceiling, and by a revocation that cuts a grant below its ceiling. -/
theorem test_unheld_entries_trigger :
    let waits (i : Sled) (f : Run → Run) : Run := f { live.run with queue := [entry i (.cls 3) true] }
    let emergency := waits 1 fun r => { r with zone :=
      { state := .emergency, release := none, filters := tabulate fun _ => { pin := .high, accepted := .low, settle := some 0 } } }
    let oneInput := { live.cfg with globals := { live.cfg.globals with zoneEnable := tabulate fun z => decide (z = 0) } }
    let safe := waits 1 fun r => { r with mode := .safe }
    let boosted := waits 5 fun r => r.modBooks 5 fun b => { b with boostFrames := 1 }
    let warm := waits 1 fun r => (r.modTherm 1 fun t => { t with state := .warm, relax := 7 }).modBooks 1 fun b => { b with grant := 60 }
    let hot := waits 0 fun r => (r.modTherm 0 fun t => { t with state := .hot }).modBooks 0 fun b => { b with grant := 32 }
    (∀ x ∈ [(emergency, emergency.endEmergency live.cfg), (emergency, emergency.settleZone oneInput 0),
        (safe, safe.runFromSafe live.cfg), (boosted, boosted.boundary 5 live.cfg),
        (warm, warm.evaluate live.cfg 1), (hot, hot.resizePool live.cfg 20)],
      x.1.unholds x.2 ∧ x.2.arbiterDue = true)
    ∧ (∀ r ∈ [emergency, safe, boosted, warm, hot], r.arbiterDue = false) ∧ hot.booksSound live.cfg ∧ hot.queueSound := by
  decide +kernel

/-! ## Requests: sleds, zone, lanes -/

theorem test_release_sled :
    let marked := withRun (fun r => r.modLife 2 fun l => { l with containPending := true }) live
    let emergency := withRun (fun r => r.setZone .emergency none) live
    leaves (.releaseSled 1 [3]) live (fun r => ((r.life 3).state, r.queued 3, r.notices.sled.get 3)) = some (.tracking, true, true)
    ∧ leaves (.releaseSled 1 [2]) marked (fun r => ((r.life 2).state, (r.life 2).containPending)) = some (.admitting, false)
    ∧ answers (.releaseSled 1 [2]) live = some [7] ∧ answers (.releaseSled 1 [0]) live = some [7]
    ∧ answers (.releaseSled 1 [3]) emergency = some [7] ∧ answers (.releaseSled 1 [23]) live = some [6]
    ∧ Ready (frame 1 0x28 [3]) live := by
  decide +kernel

theorem test_clear_zone_and_reset_lane :
    let emergency := withRun (fun r => r.setZone .emergency none) live
    let held := withRun (fun r => { r with zone := { r.zone with filters := tabulate fun _ => { pin := .low, accepted := .low, settle := none } } })
      (withGlobals (fun g => { g with zoneEnable := tabulate fun _ => true }) emergency)
    let failed := withRun (fun r => r.modLane 3 fun x => { x with state := .failed, attempts := 3 }) live
    leaves (.clearZone 1 []) emergency (fun r => (r.zone.state, r.zone.release)) = some (.releasing, some 1000)
    ∧ leaves (.clearZone 1 []) (withGlobals (fun g => { g with zoneReleaseMs := 0 }) emergency) (fun r => r.zone.state) = some .normal
    ∧ answers (.clearZone 1 []) held = some [7] ∧ answers (.clearZone 1 []) live = some [7]
    ∧ leaves (.resetLane 1 [3]) failed (fun r => ((r.lane 3).state, (r.lane 3).attempts, (r.lane 3).attempt))
        = some (.recover, 1, some 25)
    ∧ answers (.resetLane 1 [3]) live = some [7] ∧ Ready (frame 1 0x29 []) emergency ∧ Ready (frame 1 0x2A [3]) failed := by
  decide +kernel

/-! ## Requests: modes and the reset -/

/-- A part in CONFIG with S0 and S1 seated, a probe of S0 enabled, and room for one floor. -/
def stand : State :=
  withProbeCfg 0 (fun x => { x with enable := true })
    (withRun (fun r => { r with pool := { r.pool with size := 70, leasePeriod := 5 } })
      (seated 0 .standby 0 (seated 1 .standby 0 State.reset)))

/-- SET_MODE RUN admits: S0 waits for its probe, S1, with none, is TRACKING at once and is raised. -/
theorem test_set_mode_run :
    leaves (.setModeRun 1) stand (fun r => (r.mode, (r.life 0).state, (r.life 1).state, (r.books 1).grant, r.pool.leaseRemaining))
        = some (.run, .admitting, .tracking, 64, 5)
    ∧ leaves (.setModeRun 1) stand (fun r => ((r.probe 0).run, (r.probe 0).due, (r.lane 0).state)) = some (.active, some 1000, .busy)
    ∧ answers (.setModeRun 1) live = some [7] := by
  decide +kernel

theorem test_set_mode_run_premises :
    Ready (frame 1 0x03 [1]) stand ∧ stand.run.mode = .config ∧ validationFault stand.cfg = none ∧ stand.run.queueSound ∧ stand.run.lanesServed
    ∧ (∀ p, (stand.run.probe p).run = .idle) ∧ (∀ n, (stand.run.lane n).state ≠ .failed) ∧ (∀ i, (stand.run.alert i).filtered = false)
    ∧ Ready (frame 1 0x03 [0]) live ∧ Ready (frame 1 0x03 [2]) live := by
  decide +kernel

/-- S0 is admitted on a FAILED lane with its line held asserted: the first due event fails, its PROBE_LOST contains the sled or makes
the mode SAFE, and the edge is counted and evaluated. A READY line's edge ends the WAIT of the poll just begun. -/
theorem test_set_mode_run_on_failed_lanes_and_asserted_lines :
    let s (a : Action) (k : LaneState) (x : AlertRole) (m : ProbeMode) := routed 0 a (withSledCfg 0 (fun y => { y with alertRole := x })
      (withProbeCfg 0 (fun p => { p with lostLimit := 1, mode := m })
        (withRun (fun r => (r.modLane 0 fun y => { y with state := k }).modAlert 0 fun a => { a with accepted := .low }) stand)))
    let see (t : State) := leaves (.setModeRun 1) t fun r => ((r.life 0).state, r.mode, (r.probe 0).health, (r.alert 0).count)
    let lane (t : State) := leaves (.setModeRun 1) t fun r => ((r.lane 0).state, (r.pollIn 0 .read).isSome, (r.probe 0).lastClass)
    Ready (frame 1 0x03 [1]) (s .safe .failed .heat .direct) ∧ validationFault (s .safe .failed .heat .direct).cfg = none
    ∧ (s .safe .failed .heat .direct).run.lanesServed
    ∧ FaultClass.probeLost.index = 0
    ∧ see (s .contain .failed .heat .direct) = some (.isolated, .run, .lost, 1)
    ∧ see (s .safe .failed .none .direct) = some (.admitting, .safe, .lost, 1)
    ∧ leaves (.setModeRun 1) (s .report .idle .heat .direct) (fun r => ((r.therm 0).state, (r.alert 0).filtered)) = some (.warm, true)
    ∧ lane (s .report .idle .ready .ready) = some (.busy, true, none) ∧ lane (s .report .idle .ready .self) = some (.idle, false, some .hot)
    ∧ lane (s .report .failed .ready .self) = some (.failed, false, none) := by
  decide +kernel

/-- Validation: each kind of fault, at its first place. -/
theorem test_validation :
    let c := Cfg.default
    validationFault c = none
    ∧ validationFault { c with levels := modAt 15 (fun e => { e with holdTicks := 0 }) c.levels } = some (.levels, 15)
    ∧ validationFault { c with sleds := modAt 23 (fun x => { x with cost := modAt 15 (fun _ => 9) x.cost }) c.sleds } = some (.costs, 23)
    ∧ validationFault { c with globals := { c.globals with hotCeiling := 5 } } = some (.ceilings, 0)
    ∧ validationFault { c with probes := modAt 47 (fun x => { x with enable := true, upperLimit := 256 }) c.probes } = some (.thresholds, 47)
    ∧ validationFault { c with probes := ([0, 1, 2, 3, 4] : List Probe).foldl (fun v p => modAt p (fun x => { x with enable := true, initCount := 64 }) v) c.probes } = some (.script, 4) := by
  decide +kernel

/-- SAFE is left for RUN once the severe record is clear; a failed validation is answered with its item. -/
theorem test_set_mode_run_otherwise :
    let bad := withGlobals (fun g => { g with hotCeiling := 5 }) stand
    leaves (.setModeRun 1) (inMode .safe live) (fun r => (r.mode, r.cause, r.queue.map fun e => e.held))
        = some (.run, .request, [false, false, true])
    ∧ answers (.setModeRun 1) bad = some [10, 3, 0]
    ∧ leaves (.setModeRun 1) bad (fun r => (r.mode, r.validation)) = some (.config, .failed .ceilings 0)
    ∧ answers (.setModeRun 1) (withRun (fun r => r.raise (routed 9 .safe live).cfg .linkFrame .link 1) live) = some [7] := by
  decide +kernel

theorem test_set_mode_config :
    leaves (.setModeConfig 1) (polling .read 0 0 live)
        (fun r => (r.mode, (r.books 0).grant, r.queue, (r.life 0).state, (r.lane 0).poll, (r.probe 0).run))
        = some (.config, 0, [], .standby, .aborting, .idle)
    ∧ leaves (.setModeConfig 1) (polling .wait 0 0 live) (fun r => ((r.lane 0).state, (r.lane 0).poll)) = some (.idle, .absent)
    ∧ answers (.setModeConfig 1) State.reset = some [7] ∧ answers (.setModeSafe 1 [2]) live = some [7] := by
  decide +kernel

/-- RESET waits for its own reply; the soft reset then keeps the configuration and the pool's settings. -/
theorem test_reset :
    let o : Outgoing := { frame := frame 1 0x84 [0], isReset := true }
    let s := withLink (fun l => { l with tx := some o, resetAccepted := true }) live
    (sees (.reset 1 []) live fun t => (t.link.replies.getLast?, t.link.resetAccepted)) = some (some o, true)
    ∧ (sees .frameSent s fun t => (t.run.mode, t.run.cause, t.run.pool.size, t.run.pool.leaseState, t.link.resetAccepted))
        = some (.config, .softReset, 200, .none, false)
    ∧ (sees .frameSent s fun t => t.link.tx.map fun o => o.frame) = some (some (frame 0 0x64 [0, 1])) ∧ Ready (frame 1 0x04 []) live := by
  decide +kernel

/-- The transmitter: a reply goes before a notice, S3's notice before the pool's, and with neither it is IDLE. -/
theorem test_frame_sent :
    let o : Outgoing := { frame := frame 1 0x81 [0], isReset := false }
    let s := withRun (fun r => { r with notices := { NoticeSet.empty with sled := tabulate fun i => i == 3 || i == 9, pool := true } }) live
    (sees .frameSent (withLink (fun l => { l with replies := [o] }) s) fun t => t.link.tx) = some (some o)
    ∧ (sees .frameSent s fun t => t.link.tx.map fun o => o.frame) = some (some (frame 0 0x60 [3, 5, 0, 0, 15, 15, 0, 4]))
    ∧ (sees .frameSent live fun t => t.link.tx) = some none
    ∧ (sees .frameSent (withLink (fun l => { l with tx := none }) live) fun t => t.link.tx) = some none
    ∧ live.inReset = false ∧ live.run.arbiterDue = false ∧ live.link.tx.isSome = true := by
  decide +kernel

/-- A pin reset and its release with the pins high and the strap low give the state after reset. -/
theorem test_pin_resets :
    let high := withRun (fun r => { r with
      sleds := mapAt (fun _ x => { x with life := { x.life with prs := .high } }) r.sleds }) live
    (sees .rstNLow high fun t => sees (.resetRelease .low) t fun u => (u.run, u.link, u.inReset, u.cfg.globals, u.cfg.sleds))
        = some (some (State.reset.run, State.reset.link, false, Globals.default, Cfg.default.sleds))
    ∧ (sees .powerOn live fun t => (t.inReset, t.link.tx, t.run.mode, (t.run.life 0).settle)) = some (true, none, .config, none)
    ∧ (sees (.resetRelease .high) live fun t => t.run.mode) = some .run := by
  decide +kernel

/-! ## Events of the link -/

/-- The parser, byte by byte: the ends of LEN's range, the last byte of a body, and the check. -/
theorem test_parser :
    let at_ (p : Parser) (gap : Count) := withLink (fun l => { l with parser := p, gap := gap }) State.reset
    let see (b : Byte) (s : State) := sees (.linkByteReceived b) s fun t => (t.link.parser, t.link.gap)
    see 0xC3 State.reset = some (.length, some 3) ∧ see 0x00 State.reset = some (.hunt, none)
    ∧ see 2 (at_ .length (some 1)) = some (.body 2 [], some 3) ∧ see 126 (at_ .length (some 1)) = some (.body 126 [], some 3)
    ∧ see 1 (at_ .length (some 1)) = some (.hunt, none) ∧ see 127 (at_ .length (some 1)) = some (.hunt, none)
    ∧ see 5 (at_ (.body 2 []) (some 1)) = some (.body 2 [5], some 3) ∧ see 6 (at_ (.body 2 [5]) (some 1)) = some (.crcHigh 2 [5, 6], some 3)
    ∧ see 9 (at_ (.crcHigh 2 [5, 6]) (some 1)) = some (.crcLow 2 [5, 6] 9, some 3)
    ∧ see 9 (at_ (.crcLow 2 [5, 6] 9) (some 1)) = some (.hunt, none) ∧ crcBytes [2, 5, 6] ≠ [9, 9] := by
  decide +kernel

theorem test_link_discards :
    let at_ (p : Parser) (gap : Count) := withLink (fun l => { l with parser := p, gap := gap }) State.reset
    let detail (c : Instr) (s : State) := leaves c s fun r => r.advisory.first.map fun f => f.detail
    let c := crcBytes [2, 5, 1]
    detail (.frameLengthDiscard 127) (at_ .length (some 3)) = some (some 2) ∧ detail (.frameLengthDiscard 2) (at_ .length (some 3)) = some none
    ∧ detail .linkGapExpiry (at_ .length (some 0)) = some (some 1) ∧ detail .linkGapExpiry State.reset = some none
    ∧ detail (.frameReceived 0) (at_ (.crcLow 2 [5, 1] 0) (some 3)) = some (some 3)
    ∧ (sees (.frameReceived (c.getD 1 0)) (at_ (.crcLow 2 [5, 1] (c.getD 0 0)) (some 3)) fun t => t.link.rx) = some [frame 5 1 []]
    ∧ (at_ .length (some 3)).atRest ∧ (at_ .length (some 3)).inReset = false := by
  decide +kernel

/-! ## Events of the throttle frame -/

/-- The boundary: a boost step goes to the target at once, a running dwell holds the level, a tighter target is taken at once, and
an ABSENT sled's carrier stays IDLE. -/
theorem test_boundary_levels :
    let s := withRun (fun r => (r.modChan 0 fun x => { x with dwell := 3 }).modChan 5 fun x => { x with dwell := 3, boostStep := true }) live
    let tight := withRun (fun r => r.modChan 3 fun x => { x with active := 2 }) live
    let see (i : Sled) (s : State) := leaves (.boundaryEvent i) s fun r => ((r.chan i).active, (r.chan i).dwell, (r.chan i).carrier)
    see 5 s = some (0, 4, .admitting) ∧ see 0 s = some (15, 2, .admitting) ∧ see 3 tight = some (15, 3, .admitting)
    ∧ see 23 live = some (15, 3, .idle) ∧ (live.run.life 23).state ≠ .disabled := by
  decide +kernel

/-- The books at a boundary: units return, a boost on its last frame drains its loan, one in REARM ends, a grant above a hot sled's
ceiling is reclaimed at the limit. -/
theorem test_boundary_books :
    let s := withRun (fun r =>
      (((r.modBooks 5 fun b => { b with boostFrames := 1, draining := 3 }).modBooks 1 fun b => { b with boost := .rearm }).modBooks 0
        fun b => { b with reclaim := 49 }).modTherm 0 fun t => { t with state := .hot }) live
    leaves (.boundaryEvent 5) s (fun r => ((r.books 5).loan, (r.books 5).draining, (r.books 5).boost, r.boostList)) = some (0, 60, .rearm, [])
    ∧ leaves (.boundaryEvent 1) s (fun r => ((r.books 1).boost, (r.books 1).reclaim)) = some (.none, 0)
    ∧ leaves (.boundaryEvent 0) s (fun r => ((r.books 0).grant, (r.books 0).draining, (r.books 0).reclaim, r.queued 0)) = some (16, 48, 0, true)
    ∧ leaves (.boundaryEvent 5) live (fun r => ((r.books 5).loan, (r.books 5).boostFrames)) = some (60, 1) := by
  decide +kernel

/-- The first boundary after a release counts from 0. -/
theorem test_reclaim_is_counted_afresh :
    let s := withRun (fun r => (r.modBooks 0 fun b => { b with reclaim := 30, recount := true }).modTherm 0 fun t => { t with state := .hot }) live
    leaves (.boundaryEvent 0) s (fun r => ((r.books 0).reclaim, (r.books 0).recount)) = some (1, false)
    ∧ (∀ t ∈ leaves (.releaseSled 1 [3]) live (fun r => (r.books 3).recount), t = true) := by
  decide +kernel

theorem test_carrier_sections :
    let at_ (k : Section) (hold : Nat) :=
      withRun (fun r => r.modChan 7 fun x => { x with carrier := k, ticks := 0, latchedAdmit := 6, latchedHold := hold }) live
    let see (s : State) := leaves (.carrierSectionEnd 7) s fun r => ((r.chan 7).carrier, (r.chan 7).ticks)
    see (at_ .admitting 1) = some (.holding, 1) ∧ see (at_ .admitting 0) = some (.admitting, 6) ∧ see (at_ .holding 1) = some (.admitting, 6)
    ∧ see (at_ .idle 1) = some (.idle, 0) ∧ (at_ .holding 1).atRest := by
  decide +kernel

/-- The lease: the pool falls back to the floors held when they are more, and the fault carries the deficit. -/
theorem test_lease_expiry :
    let s := withRun (fun r => { r with pool := { r.pool with fallback := 10 } }) live
    leaves .leaseExpiry s (fun r => (r.pool.size, r.pool.leaseState, (r.books 0).grant, r.advisory.first.map fun f => f.detail, r.notices.pool))
        = some (20, .lapsed, 4, some 120, true)
    ∧ leaves .leaseExpiry State.reset (fun r => r.pool.leaseState) = some .none ∧ live.run.pool.leaseState = .running := by
  decide +kernel

/-! ## Events of the input pins -/

theorem test_input_changes :
    leaves (.presenceLineChange 23 .low) State.reset (fun r => ((r.life 23).prs, (r.life 23).settle)) = some (.low, some 200)
    ∧ leaves (.presenceLineChange 23 .low) { State.reset with inReset := true } (fun r => ((r.life 23).prs, (r.life 23).settle))
        = some (.low, some 200)
    ∧ leaves (.zoneInputChange 1 .low) live (fun r => ((r.zone.filters.get 1).pin, (r.zone.filters.get 1).settle)) = some (.low, some 50)
    ∧ leaves (.alertSampleChange 0 .low) live (fun r => ((r.alert 0).lastSample, (r.alert 0).run, (r.alert 0).accepted))
        = some (.low, 1, .high)
    ∧ leaves (.alertSampleChange 0 .low) (withGlobals (fun g => { g with alertFilter := 1 }) live)
        (fun r => ((r.alert 0).accepted, (r.alert 0).filtered)) = some (.low, true)
    ∧ ({ State.reset with inReset := true } : State).atRest := by
  decide +kernel

/-- Presence accepted: STANDBY in CONFIG; in RUN the sled is admitted and, with no probe and room for its floor, TRACKING. -/
theorem test_presence_accepted :
    let s (m : Mode) (size : Nat) := withRun (fun r => { r with mode := m, pool := { r.pool with size := size } })
      (withRun (fun r => r.modLife 0 fun l => { l with prs := .low, settle := some 0 }) State.reset)
    let see (t : State) := leaves (.presenceSettleExpiry 0) t fun r => ((r.life 0).state, (r.life 0).admission, (r.books 0).grant)
    see (s .config 4) = some (.standby, none, 0) ∧ see (s .run 4) = some (.tracking, none, 4)
    ∧ see (s .safe 3) = some (.admitting, some 2000, 0)
    ∧ see (withProbeCfg 1 (fun x => { x with enable := true }) (s .run 64)) = some (.admitting, some 2000, 4)
    ∧ see (withRun (fun r => r.modLife 0 fun l => { l with settle := some 0 }) State.reset) = some (.absent, none, 0) := by
  decide +kernel

theorem test_presence_premises :
    let s := withRun (fun r => { r with mode := .run, pool := { r.pool with size := 4 } })
      (withRun (fun r => r.modLife 0 fun l => { l with prs := .low, settle := some 0 }) State.reset)
    s.inReset = false ∧ s.atRest ∧ (s.run.life 0).settle ≠ none ∧ (s.run.life 0).state = .absent ∧ (s.run.life 0).present = false
    ∧ s.run.mode ≠ .config ∧ s.run.queue = [] ∧ s.run.queueSound ∧ s.run.lanesServed ∧ (s.run.lane (laneOfSled 0)).state ≠ .failed ∧ (s.run.probe (probeA 0)).run = .idle
    ∧ (s.run.probe (probeB 0)).run = .idle ∧ (s.run.alert 0).filtered = false
    ∧ (s.run.alert 0).accepted = (s.cfg.sled 0).alertPolarity.deasserted
    ∧ (live.run.life 0).settle ≠ none ∧ (live.run.life 0).present = true := by
  decide +kernel

/-- A sled seated in RUN on a FAILED lane, its line held asserted: its probe fails and is LOST, a sled without its floor is marked,
the edge is counted at the ceiling of its count. -/
theorem test_presence_on_a_failed_lane :
    let s (size : Nat) (k : LaneState) := routed 0 .contain (withProbeCfg 0 (fun p => { p with enable := true, lostLimit := 1 })
      (withRun (fun r => { ((r.modLife 0 fun l => { l with prs := .low, settle := some 0 }).modLane 0 fun y => { y with state := k }).modAlert 0
          fun a => { a with accepted := .low, count := 65535 } with mode := .run, pool := { r.pool with size := size } }) State.reset))
    let see (t : State) := leaves (.presenceSettleExpiry 0) t fun r =>
      ((r.life 0).state, (r.life 0).containPending, (r.probe 0).lastReason, (r.alert 0).count, (r.therm 0).combined)
    (s 4 .failed).run.queueSound ∧ (s 4 .failed).run.lanesServed ∧ (s 4 .failed).atRest ∧ ((s 4 .failed).run.lane 0).poll = .absent
    ∧ see (s 4 .failed) = some (.isolated, false, some .laneFailed, 65535, some .hot)
    ∧ see (s 3 .failed) = some (.admitting, true, some .laneFailed, 65535, some .hot)
    ∧ see (s 4 .idle) = some (.admitting, false, none, 65535, some .warm) := by
  decide +kernel

/-- S6 seated in SAFE behind S2, which waits for its floor: with room for both floors both are held and S6 is TRACKING, short and queued; with room for none S6 waits
behind S2 and before the class entries. -/
theorem test_presence_joins_the_queue :
    let s (size : Nat) := withRun (fun r => { r with pool := { r.pool with size := size } })
      (inMode .safe (withRun (fun r => r.modLife 6 fun l => { l with prs := .low, settle := some 0 }) live))
    let see (size : Nat) := leaves (.presenceSettleExpiry 6) (s size) fun r =>
      ((r.books 2).floorReserved, (r.books 6).floorReserved, r.queue.map fun e => e.sled)
    (s 148).run.queueSound ∧ (s 148).run.headroom = 8
    ∧ see 148 = some (true, true, [1, 5, 6]) ∧ see 143 = some (false, false, [2, 6, 1, 5]) ∧ see 144 = some (true, false, [6, 1, 5]) := by
  decide +kernel

/-- A sled removed in RUN: its units return at once and the poll in progress on one of its probes is aborted. -/
theorem test_removal :
    let s := withRun (fun r => r.modLife 0 fun l => { l with prs := .high }) (polling .read 0 0 live)
    (s.run.life 0).settle ≠ none ∧ (s.run.life 0).present = true ∧ (s.run.life 0).state = .tracking
    ∧ leaves (.presenceSettleExpiry 0) s (fun r => ((r.life 0).state, (r.books 0).grant, r.raiseOrder.contains 0, (r.chan 0).active))
        = some (.absent, 0, false, 15)
    ∧ leaves (.presenceSettleExpiry 0) s (fun r => ((r.lane 0).poll, (r.probe 0).run, r.notices.sled.get 0)) = some (.aborting, .idle, true)
    ∧ leaves (.presenceSettleExpiry 0) s (fun r => ((r.books 1).grant, r.headroom)) = some (64, 60) := by
  decide +kernel

/-- A sled removed while probes wait: a poll in WAIT gives the lane to the first probe that stays; another sled's poll goes on. -/
theorem test_removal_and_the_queue :
    let s (i : Sled) := withRun (fun r =>
      ((r.modLife i fun l => { l with prs := .high, present := true, settle := some 0 }).modLane 0 fun y =>
        { y with queue := [1, 2] }).modProbe 2 fun x => { x with run := .queued }) (polling .wait 0 0 live)
    let see (i : Sled) := leaves (.presenceSettleExpiry i) (s i) fun r =>
      ((r.lane 0).state, (r.pollIn 0 .read).isSome, (r.pollIn 0 .wait).isSome, (r.lane 0).queue, (r.probe 2).run)
    see 0 = some (.busy, true, false, [], .active) ∧ see 1 = some (.busy, false, true, [1], .idle) := by
  decide +kernel

/-! ## Faults, heat and the zone -/

/-- A lane's fault under CONTAIN: TRACKING sleds and an ADMITTING one with its floor are isolated, one without is marked, and a sled
of another lane is left. -/
theorem test_containment_of_a_lane :
    let t := live.run.raise (routed 2 .contain live).cfg .laneStuck (.lane 0) 3
    ([0, 1, 2, 3, 4, 5] : List Sled).map (fun i => (t.life i).state) = [.isolated, .isolated, .admitting, .isolated, .isolated, .isolated]
    ∧ (t.life 2).containPending = true ∧ (t.books 0).grant = 4 ∧ (t.books 0).draining = 60 ∧ t.sleds.get 6 = live.run.sleds.get 6 := by
  decide +kernel

/-- A fault under each action: CONTAIN isolates S1, marks S2, whose floor is not reserved, and leaves the record of the first fault. -/
theorem test_fault_actions :
    let raise (a : Action) (i : Sled) (r : Run) := r.raise (routed 3 a live).cfg .alertStuck (.sled i) 9
    let two := raise .contain 2 (raise .contain 1 live.run)
    let safe := raise .safe 0 live.run
    raise .ignore 1 live.run = live.run
    ∧ (raise .report 1 live.run).advisory.first = some { cls := .alertStuck, subject := .sled 1, time := 0, detail := 9 }
    ∧ (two.life 1).state = .isolated ∧ two.queued 1 = false ∧ (two.life 2).containPending = true
    ∧ two.severe.laterSet = 8 ∧ two.severe.laterCount = 1 ∧ two.alarm = true
    ∧ safe.mode = .safe ∧ safe.cause = .fault ∧ (safe.books 5).boost = .rearm ∧ (safe.queue.map fun e => e.held) = [false, true, true] := by
  decide +kernel

/-- Votes: WARM from probe A, HOT from a LOST probe B, COOL from the line; ANY takes HOT, ALL takes COOL. -/
theorem test_votes :
    let s := withProbeCfg 0 (fun x => { x with enable := true }) (withProbeCfg 1 (fun x => { x with enable := true })
      (withRun (fun r => (r.modProbe 0 fun x => { x with health := .suspect, lastClass := some .warm }).modProbe 1 fun x =>
        { x with health := .lost }) live))
    votesOf s.cfg s.run 0 = [some .warm, some .hot, some .cool] ∧ combinedVote s.cfg s.run 0 = .hot
    ∧ combinedVote (withSledCfg 0 (fun x => { x with combine := .all }) s).cfg s.run 0 = .cool
    ∧ votesOf (withSledCfg 0 (fun x => { x with alertRole := .none }) live).cfg live.run 0 = [none, none, none] := by
  decide +kernel

/-- Evaluations: one HOT vote takes a COOL sled to HOT; the eighth cooler one takes it one step down; S23 is not in service. -/
theorem test_evaluation :
    let alarmed := (live.run.modAlert 0 fun a => { a with filtered := true, sustained := true })
    let hot := live.run.modTherm 0 fun t => { t with state := .hot, relax := 7, hotPersist := some 5 }
    ((alarmed.evaluate live.cfg 0).therm 0)
      = { state := .hot, escalate := 0, relax := 0, hotPersist := some 60000, hotRaised := false, combined := some .hot }
    ∧ ((hot.evaluate live.cfg 0).therm 0).state = .warm ∧ ((hot.evaluate live.cfg 0).therm 0).hotPersist = none
    ∧ ((live.run.evaluate live.cfg 0).therm 0).combined = some .cool ∧ (live.run.life 23).state.inService = false := by
  decide +kernel

theorem test_counts_expire :
    let s := withRun (fun r =>
      ((r.modLife 2 fun l => { l with admission := some 0 }).modTherm 1 fun t => { t with state := .hot, hotPersist := some 0 })) live
    leaves (.admitCountExpiry 2) s (fun r => ((r.life 2).admitTimeout, (r.life 2).admission, r.advisory.first.map fun f => f.detail))
        = some (true, none, some 3)
    ∧ leaves (.hotPersistExpiry 1) s (fun r => ((r.therm 1).hotRaised, (r.life 1).state, r.severe.first.map fun f => f.detail))
        = some (true, .isolated, some 60)
    ∧ leaves (.admitCountExpiry 2) (inMode .config s) (fun r => (r.life 2).admission) = some (some 0)
    ∧ leaves (.hotPersistExpiry 0) s (fun r => (r.therm 0).hotRaised) = some false := by
  decide +kernel

/-- The zone: an input asserted ends S5's boost; deasserted it ends the emergency, unless the latch holds it. -/
theorem test_zone_inputs :
    let s (pin accepted : Pin) (z : ZoneState) := withGlobals (fun g => { g with zoneEnable := tabulate fun _ => true })
      (withRun (fun r => { r with zone :=
        { state := z, release := none
          filters := tabulate fun y =>
            if y = 0 then { pin := pin, accepted := accepted, settle := some 0 } else { pin := .high, accepted := .high, settle := none } } }) live)
    let see (t : State) := leaves (.zoneSettleExpiry 0) t fun r => (r.zone.state, r.zone.release, (r.books 5).boost)
    see (s .low .high .normal) = some (.emergency, none, .rearm) ∧ see (s .high .low .emergency) = some (.releasing, some 1000, .running)
    ∧ see (withGlobals (fun g => { g with zoneLatch := true }) (s .high .low .emergency)) = some (.emergency, none, .running)
    ∧ see (s .high .high .normal) = some (.normal, none, .running)
    ∧ leaves (.zoneSettleExpiry 1) (s .low .high .normal) (fun r => r.zone.state) = some .normal := by
  decide +kernel

theorem test_zone_release :
    let s := withRun (fun r => r.setZone .releasing (some 0)) live
    leaves .zoneReleaseExpiry s (fun r => (r.zone.state, r.zone.release, r.notices.zone)) = some (.normal, none, true)
    ∧ leaves .zoneReleaseExpiry live (fun r => r.notices.zone) = some false := by
  decide +kernel

/-! ## Events of the alert lines -/

/-- Edges: an asserting one is counted and stamped and evaluated as WARM; a deasserting one closes the width; out of service none is made. -/
theorem test_alert_edges :
    let sampled (i : Sled) (pin : Pin) := withRun (fun r => r.modAlert i fun a => { a with lastSample := pin }) live
    let asserted := withRun (fun r => r.modAlert 0 fun a => { a with accepted := .low, filtered := true, width := 12, longest := 3, count := 1 }) live
    leaves (.alertLevelAccepted 0) (sampled 0 .low) (fun r => ((r.alert 0).filtered, (r.alert 0).count, (r.alert 0).lastTime, (r.therm 0).state))
        = some (true, 1, some 0, .warm)
    ∧ leaves (.alertLevelAccepted 0) asserted (fun r => ((r.alert 0).filtered, (r.alert 0).lastWidth, (r.alert 0).longest, (r.alert 0).width))
        = some (false, 12, 12, 0)
    ∧ leaves (.alertLevelAccepted 23) (sampled 23 .low) (fun r => ((r.alert 23).accepted, (r.alert 23).filtered)) = some (.low, false)
    ∧ leaves (.alertLevelAccepted 0) live (fun r => (r.alert 0).run) = some 0 := by
  decide +kernel

/-- A READY line's edge ends the WAIT of its sled's poll: READ in READY mode, the outcome in SELF mode; in READ it is discarded. -/
theorem test_ready_edges :
    let s (m : ProbeMode) (k : Phase) := withSledCfg 0 (fun x => { x with alertRole := .ready }) (withProbeCfg 0
      (fun x => { x with enable := true, mode := m }) (withRun (fun r => r.modAlert 0 fun a => { a with lastSample := .low }) (polling k 0 0 live)))
    let see (t : State) := leaves (.alertLevelAccepted 0) t fun r => ((r.pollIn 0 .read).isSome, (r.lane 0).state, (r.probe 0).lastClass)
    see (s .ready .wait) = some (true, .busy, none) ∧ see (s .self .wait) = some (false, .idle, some .hot)
    ∧ see (s .ready .read) = some (true, .busy, none) := by
  decide +kernel

theorem test_alert_marks :
    let s := withRun (fun r => r.modAlert 0 fun a => { a with accepted := .low, filtered := true, width := 99, total := 99, count := 65535 }) live
    leaves (.sustainReached 0) s
        (fun r => ((r.alert 0).sustained, (r.alert 0).stuck, (r.alert 0).width, (r.alert 0).total, (r.therm 0).state))
        = some (true, false, 100, 100, .hot)
    ∧ leaves (.stuckReached 0) s (fun r => ((r.alert 0).stuck, (r.alert 0).width, r.advisory.first.map fun f => f.detail))
        = some (true, 5000, some 65535)
    ∧ leaves (.sustainReached 0) live (fun r => (r.alert 0).sustained) = some false
    ∧ leaves (.stuckReached 0) (withSledCfg 0 (fun x => { x with alertRole := .none }) s) (fun r => r.advisory.first) = some none := by
  decide +kernel

/-- The ms tick that reaches a mark is owed: its event takes it, or an edge before it closes the width one below; limits that fall
together set both marks. -/
theorem test_alert_marks_and_edges :
    let at_ (w : Nat) := withRun (fun r =>
      { (r.modAlert 0 fun a => { a with accepted := .low, filtered := true, lastSample := .high, width := w, total := w }) with
        clock := { r.clock with msCount := 15999 } }) live
    let s := withGlobals (fun g => { g with stuckMs := 100 }) (at_ 99).refclk
    (at_ 98).refclk.due = [] ∧ ((at_ 98).refclk.run.alert 0).width = 99
    ∧ s.due = [.sustainReached 0] ∧ (s.run.alert 0).width = 99 ∧ (s.run.alert 0).tickOwed = true
    ∧ isDue s (.sustainReached 0) = true
    ∧ leaves (.stuckReached 0) s (fun r => ((r.alert 0).sustained, (r.alert 0).stuck, (r.alert 0).width, (r.alert 0).tickOwed))
        = some (true, true, 100, false)
    ∧ leaves (.alertLevelAccepted 0) s (fun r => ((r.alert 0).lastWidth, (r.alert 0).tickOwed, r.advisory.first.isSome))
        = some (99, false, false) := by
  decide +kernel

/-! ## Events of the sensor lanes -/

/-- Due events: on an IDLE lane the poll starts, on a BUSY one it waits, on a FAILED one it fails, and one that waits already overruns. -/
theorem test_due_events :
    let s (k : LaneState) (x : RunState) := withProbeCfg 0 (fun p => { p with enable := true, initCount := 1, lostLimit := 1 })
      (withRun (fun r => (r.modLane 0 fun y => { y with state := k }).modProbe 0 fun p => { p with due := some 0, run := x, needsInit := true }) live)
    let see (t : State) := leaves (.dueEvent 0) t fun r => ((r.probe 0).run, (r.probe 0).due, (r.probe 0).health, (r.probe 0).overruns)
    see (s .idle .idle) = some (.active, some 1000, .unknown, 0) ∧ see (s .busy .idle) = some (.queued, some 1000, .unknown, 0)
    ∧ see (s .failed .idle) = some (.idle, some 1000, .lost, 0) ∧ see (s .busy .queued) = some (.queued, some 1000, .unknown, 1)
    ∧ leaves (.dueEvent 0) (s .idle .idle) (fun r => ((r.pollIn 0 .init).isSome, (r.lane 0).transaction)) = some (true, some 25)
    ∧ leaves (.dueEvent 0) live (fun r => (r.probe 0).due) = some none := by
  decide +kernel

/-- Phases: the last INIT transaction leads to SETTLE, a not-acknowledge to a retry or a failure, SETTLE to READ in DIRECT mode. -/
theorem test_phases :
    let s (k : Phase) (t n : Nat) := withProbeCfg 0 (fun p => { p with enable := true, initCount := 2, settleMs := 3 }) (polling k t n live)
    let see (c : Instr) (t : State) := leaves c t fun r =>
      match (r.lane 0).poll with
      | .poll p => some (p.phase, p.transaction, p.retries, p.timer)
      | _ => none
    see (.initTransactionEnd 0) (s .init 0 1) = some (some (.init, 1, 0, none))
    ∧ see (.initTransactionEnd 0) (s .init 1 0) = some (some (.settle, 0, 0, some 3))
    ∧ see (.notAcknowledge 0) (s .init 1 1) = some (some (.init, 1, 2, none)) ∧ see (.notAcknowledge 0) (s .init 1 2) = some none
    ∧ see (.notAcknowledge 0) (s .read 0 0) = some (some (.read, 0, 1, none)) ∧ see (.settleExpiry 0) (s .settle 0 0) = some (some (.read, 0, 0, none))
    ∧ see (.waitExpiry 0) (s .wait 0 0) = some none ∧ see (.settleExpiry 0) (s .read 0 0) = some (some (.read, 0, 0, none)) := by
  decide +kernel

/-- What a poll puts on its bus: with `seq` on, rising registers go in one message; a reading of two bytes ends in NACK. -/
theorem test_transactions :
    let c (seq : Bool) := (withProbeCfg 0 (fun p => { p with initCount := 3, seq := seq, address := 0x48, readRegister := 5, format := .u16 })
      (withCfg (fun c => { c with script := tabulate fun k => ([10, 1, 11, 2, 20, 3] : List Byte).getD k.val 0 }) State.reset)).cfg
    initTransactions (c false) 0
      = [[.start, .send 0x90, .send 10, .send 1, .stop], [.start, .send 0x90, .send 11, .send 2, .stop],
         [.start, .send 0x90, .send 20, .send 3, .stop]]
    ∧ initTransactions (c true) 0
        = [[.start, .send 0x90, .send 10, .send 1, .send 2, .repeatedStart, .send 0x90, .send 20, .send 3, .stop]]
    ∧ readTransaction ((c false).probe 0)
        = [.start, .send 0x90, .send 5, .repeatedStart, .send 0x91, .receive true, .receive false, .stop] := by
  decide +kernel

/-- Readings at the thresholds: S16 with swapped bytes, the ends of each class, and one that is implausible. -/
theorem test_readings :
    let s (f : Format) (swap : Bool) := withProbeCfg 0
      (fun p => { p with enable := true, format := f, swap := swap, underLimit := -2, warmOver := 0, hotOver := 256, upperLimit := 257 })
      (polling .read 0 0 live)
    let see (f : Format) (swap : Bool) (a b : Byte) :=
      leaves (.readTransactionEnd 0 a b) (s f swap) fun r => ((r.probe 0).lastClass, (r.probe 0).lastValue, (r.probe 0).lastReason)
    see .s16 false 0xFF 0xFF = some (some .cool, some (-1), none) ∧ see .s16 true 0xFE 0xFF = some (some .cool, some (-2), none)
    ∧ see .u16 false 0x01 0x00 = some (some .hot, some 256, none) ∧ see .u16 true 0x01 0x01 = some (some .hot, some 257, none)
    ∧ see .u8 true 0x00 0xFF = some (some .warm, some 0, none) ∧ see .s16 false 0xFF 0xFD = some (none, none, some .implausible) := by
  decide +kernel

/-- Outcomes: the awaiting probe of S4, whose floor is held, makes it TRACKING; a failure at the limit makes the probe LOST. -/
theorem test_outcomes :
    let c := (withProbeCfg 8 (fun p => { p with enable := true, lostLimit := 1 }) live).cfg
    let t := live.run.handOutcome c 8 (.success .warm (some 70))
    let u := live.run.handOutcome c 8 (.failure .nakRead none)
    live.run.awaits 8 = true ∧ (live.run.life 4).state = .admitting ∧ (live.run.books 4).floorReserved = true
    ∧ (t.life 4).state = .tracking ∧ (t.therm 4).state = .warm ∧ (t.probe 8).lastValue = some 70
    ∧ (u.probe 8).health = .lost ∧ u.advisory.first.map (fun f => f.detail) = some 2 ∧ (u.therm 4).state = .hot ∧ (u.life 4).awaitA = true
    ∧ ((live.run.endPoll c 0 8 (.success .warm none)).lane 0).state = .idle := by
  decide +kernel

/-- Lanes: a timeout starts recovery, the third failed attempt gives up, a success frees the lane and marks its probes. -/
theorem test_lane_recovery :
    let busy := polling .read 0 0 live
    let aborting := withRun (fun r => r.modLane 0 fun y => { y with poll := .aborting }) busy
    let recover (k : Nat) := withRun (fun r =>
      (r.modLane 0 fun y => { y with state := .recover, attempts := k, attempt := some 1, queue := [] })) live
    let waiting := withRun (fun r => (r.modLane 0 fun y => { y with queue := [1] }).modProbe 1 fun x => { x with run := .queued }) (recover 3)
    let see (c : Instr) (t : State) := leaves c t fun r => ((r.lane 0).state, (r.lane 0).attempts, (r.probe 0).lastReason)
    see (.transactionTimeout 0) busy = some (.recover, 1, some .laneAbort) ∧ see (.transactionTimeout 0) aborting = some (.recover, 1, none)
    ∧ see (.abortStopEnd 0) aborting = some (.idle, 0, none) ∧ see (.abortStopEnd 0) busy = some (.busy, 0, none)
    ∧ see (.recoveryAttemptEnd 0 .low) (recover 2) = some (.recover, 3, none) ∧ see (.recoveryAttemptTimeout 0) (recover 2) = some (.recover, 3, none)
    ∧ see (.recoveryAttemptEnd 0 .high) (recover 3) = some (.idle, 0, none) ∧ see (.recoveryAttemptEnd 0 .high) live = some (.idle, 0, none)
    ∧ leaves (.recoveryAttemptTimeout 0) waiting (fun r => ((r.lane 0).state, (r.lane 0).queue, (r.probe 1).lastReason, r.advisory.first.map fun f => f.detail))
        = some (.failed, [], some .laneFailed, some 3)
    ∧ leaves (.recoveryAttemptEnd 0 .high) waiting (fun r => ((r.lane 0).state, (r.probe 1).run, (r.probe 11).needsInit, (r.probe 12).needsInit))
        = some (.busy, .active, true, false) := by
  decide +kernel

/-- A recovery attempt on a bus that frees at once and on one that stays low, and a transaction that an abort cuts short. -/
theorem test_recovery_steps :
    let pulse : List PinStep := [.sclRelease, .waitSclHigh, .halfPeriod, .sampleSda, .sclLow]
    (recoverySteps [.high]).take 6 = .sdaRelease :: pulse ∧ (recoverySteps [.high]).length = 13
    ∧ (recoverySteps (List.replicate 9 .low)).length = 53 ∧ (recoverySteps (List.replicate 8 .low ++ [.high])).length = 53
    ∧ cutShort [.start, .send 0x91, .receive true] = [.start, .send 0x91, .receive false, .stop] := by
  decide +kernel

/-- The readings of a byte and its acknowledge bit, the clock stretched at each bit: the looks at SCL, then the sample of SDA. -/
def clocked (b : Byte) (ninth : Pin) : List Reading :=
  ((List.range 8).map (fun k => lineLevel (b.getMsbD k)) ++ [ninth]).flatMap fun x =>
    [{ scl := .low, sda := .high }, { scl := .high, sda := .low }, { scl := .high, sda := x }]

/-- What a lane hears: a reading of two bytes, whose start waits for a free bus, comes in as those bytes; a not-acknowledge on the
second byte sent ends the transaction; a bus held low on SDA or on SCL never lets it end. -/
theorem test_lane_hears_its_pins :
    let s := withProbeCfg 0 (fun p => { p with format := .u16 }) (polling .read 0 0 live)
    let free : Reading := { scl := .high, sda := .high }
    let start : List Reading := [{ scl := .high, sda := .low }, { scl := .low, sda := .high }, free]
    let stop : List Reading := [{ scl := .high, sda := .low }, { scl := .high, sda := .low }, free]
    let sent := clocked 0x91 .low
    let whole := start ++ sent ++ sent ++ [free] ++ sent ++ clocked 0xA5 .low ++ clocked 0x01 .high
    s.laneHears 0 [] (whole ++ stop) = some (.readTransactionEnd 0 0xA5 0x01)
    ∧ s.laneHears 0 [] whole = none ∧ s.laneHears 0 [] (start ++ sent ++ clocked 0 .high ++ stop) = some (.notAcknowledge 0)
    ∧ (polling .init 0 0 (withProbeCfg 0 (fun p => { p with initCount := 1 }) live)).laneHears 0 []
        (start ++ sent ++ sent ++ sent ++ stop) = some (.initTransactionEnd 0)
    ∧ s.laneHears 0 [] (start ++ List.replicate 200 { scl := .high, sda := .low }) = none
    ∧ s.laneHears 0 [] (List.replicate 200 { scl := .low, sda := .high }) = none ∧ live.laneHears 0 [] whole = none := by
  decide +kernel

/-- What a lane hears in recovery and in an abort: SDA freed at the second pulse, and high at the check; a stop that ends. -/
theorem test_lane_hears_recovery_and_abort :
    let at_ (k : LaneState) (q : InProgress) := withRun (fun r => r.modLane 0 fun y =>
      { y with state := k, poll := q, attempts := 1, attempt := some 5 }) live
    let pulse (sda : Pin) : List Reading := [{ scl := .high, sda := sda }, { scl := .high, sda := sda }]
    let recover (l : List Reading) := (at_ .recover .absent).laneHears 0 [] l
    recover (pulse .low ++ pulse .high ++ pulse .high) = some (.recoveryAttemptEnd 0 .high)
    ∧ recover ((List.replicate 10 (pulse .low)).flatten) = some (.recoveryAttemptEnd 0 .low)
    ∧ recover ((List.replicate 9 (pulse .low)).flatten) = none
    ∧ (at_ .busy .aborting).laneHears 0 [.start, .send 0x90] ([{ scl := .high, sda := .high }] ++ clocked 0x90 .low ++ pulse .high)
        = some (.abortStopEnd 0)
    ∧ (at_ .busy .aborting).laneHears 0 [.start, .send 0x90] ([{ scl := .high, sda := .high }] ++ clocked 0x90 .low) = none := by
  decide +kernel

/-! ## What the part shows -/

/-- The pins of the link and of a lane: a frame's first byte bit by bit, an IDLE transmitter, a lane in a start and one at work on
nothing; a stop bit taken as it is and the wait after it. -/
theorem test_link_and_lane_pins :
    let s := withLink (fun l => { l with tx := some { frame := frame 1 0x81 [0], isReset := false } }) (polling .read 0 0 live)
    (List.range 10).map s.linkTx = [.low, .high, .high, .low, .low, .low, .low, .high, .high, .high]
    ∧ State.reset.inReset = false ∧ (withLink (fun l => { l with tx := none }) live).linkTx 5 = .high
    ∧ s.lanePull 0 [.waitBusFree, .sdaLow, .halfPeriod, .sclLow] = { scl := true, sda := true }
    ∧ s.lanePull 1 [.sdaLow] = { scl := false, sda := false }
    ∧ Receiver.idle.bytes ((lineLevels 0x55).dropLast ++ [.low, .low, .low, .high] ++ lineLevels 7) = [0x55, 7] := by
  decide +kernel

theorem test_targets_and_outputs :
    live.run.grantLevel live.cfg 0 = 0 ∧ live.run.target live.cfg 0 = 0 ∧ live.run.target live.cfg 3 = 15
    ∧ (inMode .safe live).run.target live.cfg 0 = 15 ∧ (inMode .safe live).alarm = true ∧ live.alarm = false
    ∧ (live.run.setZone .emergency none).target (withGlobals (fun g => { g with emergencyLevel := 9 }) live).cfg 0 = 9
    ∧ (live.run.modBooks 0 fun b => { b with grant := 34, loan := 0 }).grantLevel live.cfg 0 = 8
    ∧ live.thr 0 = .low ∧ (withRun (fun r => r.modChan 0 fun x => { x with carrier := .admitting }) live).thr 0 = .high
    ∧ (withSledCfg 0 (fun x => { x with polarity := .admitLow }) live).thr 0 = .high := by
  decide +kernel

end Sys2Proof.Tests
end

section
/-! SUPPORT. The pool lease: what an ms tick does to its count (R29), what a REFCLK period leaves of it and makes due, and the
three answers of RENEW_LEASE (R31). The statement on RENEW_LEASE is settled from these. -/

namespace Sys2Proof.Machine

open Sys2Proof

/-! ## The lease at an ms tick (R29) -/

theorem Run.leaseCounts_iff (r : Run) : r.leaseCounts = true ↔ r.pool.leaseState = .running ∧ r.mode ≠ .config := by
  simp [Run.leaseCounts, Mode.works_iff]

theorem Run.leaseEnds_iff (r : Run) : r.leaseEnds = true ↔ r.leaseCounts = true ∧ r.pool.leaseRemaining ≤ 1 := by
  simp [Run.leaseEnds]

theorem Run.leaseEnds_of_lt {r : Run} (h : 1 < r.pool.leaseRemaining) : r.leaseEnds = false :=
  Bool.eq_false_iff.mpr fun he => Nat.not_le.mpr h (r.leaseEnds_iff.mp he).2

/-- A lease with more than one tick left counts the tick. -/
theorem Run.leaseTick_of_lt {r : Run} (hc : r.leaseCounts = true) (h : 1 < r.pool.leaseRemaining) :
    r.leaseTick = { r.pool with leaseRemaining := r.pool.leaseRemaining - 1 } := by
  simp [Run.leaseTick, hc, Run.leaseEnds_of_lt h]

/-- The last tick is left to its event, LEASE_EXPIRY (assumption 24). -/
theorem Run.leaseTick_of_ends {r : Run} (h : r.leaseEnds = true) : r.leaseTick = r.pool := by
  simp [Run.leaseTick, h]

/-! ## The lease over a REFCLK period -/

theorem divide_ticks_iff (n k : Nat) : (divide n k).2 = true ↔ n ≤ k + 1 := by
  unfold divide
  split <;> simp <;> omega

@[simp] theorem State.refclk_mode (s : State) : s.refclk.run.mode = s.run.mode := by
  unfold State.refclk
  dsimp only
  split <;> split <;> rfl

theorem State.refclk_pool (s : State) :
    s.refclk.run.pool = if Config.refclkPerMs ≤ s.run.clock.msCount + 1 then s.run.leaseTick else s.run.pool := by
  simp only [← divide_ticks_iff]
  unfold State.refclk
  dsimp only
  split <;> split <;> rfl

/-- An ms tick that is the last of the lease makes its expiry due, and leaves the count to it (R29; assumption 24). -/
theorem State.leaseExpiry_mem_refclk_due {s : State} (ht : Config.refclkPerMs ≤ s.run.clock.msCount + 1)
    (he : s.run.leaseEnds = true) : .leaseExpiry ∈ s.refclk.due := by
  have listed : .leaseExpiry ∈ msEvents s.run := by simp [msEvents, he]
  have kept : s.refclk.run.pool = s.run.pool := by
    rw [s.refclk_pool, if_pos ht, Run.leaseTick_of_ends he]
  have due : isDue s.refclk .leaseExpiry = true := by
    show s.refclk.run.leaseEnds = true
    simpa [Run.leaseEnds, Run.leaseCounts, kept] using he
  exact s.mem_refclk_due .leaseExpiry |>.mpr ⟨.inr ⟨(divide_ticks_iff ..).mpr ht, listed⟩, due⟩

/-! ## RENEW_LEASE (R31) -/

theorem renewLeaseBody_of_running {s : State} (h : s.run.pool.leaseState = .running) :
    renewLeaseBody s = ({ s with run := s.run.renewLease }, .ok []) := by simp [renewLeaseBody, h]

theorem renewLeaseBody_of_lapsed {s : State} (h : s.run.pool.leaseState = .lapsed) :
    renewLeaseBody s = (s, .refuse .lapsed) := by simp [renewLeaseBody, h]

theorem renewLeaseBody_of_none {s : State} (h : s.run.pool.leaseState = .none) :
    renewLeaseBody s = (s, .refuse .notAllowed) := by simp [renewLeaseBody, h]

/-- RENEW_LEASE taken at once in RUN answers what its body answers: its empty payload and the mode pass the checks (R166). -/
theorem exec_renewLease_of_run {tag : Byte} {s : State} (hs : Ready (frame tag 0x21 []) s) (hm : s.run.mode = .run)
    {r : Run} {a : Answer} (hb : renewLeaseBody s.popFrame = ({ s.popFrame with run := r }, a)) :
    exec (.renewLease tag []) s = .next (s.replied (frame tag 0x21 []) (put8 a.status.code ++ a.content) s.cfg r) :=
  have passes : runOnly s.popFrame.run.mode = true := by simp [runOnly, hm]
  State.request_replied (c := s.cfg) hs ((checked_passes rfl passes).trans hb)

/-- RENEW_LEASE taken at once outside RUN is answered WRONG_MODE (R31, R168). -/
theorem exec_renewLease_of_ne_run {tag : Byte} {s : State} (hs : Ready (frame tag 0x21 []) s) (hm : s.run.mode ≠ .run) :
    exec (.renewLease tag []) s = .next (s.answered (frame tag 0x21 []) [4]) :=
  have stops : runOnly s.popFrame.run.mode = false := by simp [runOnly, hm]
  State.request_replied (c := s.cfg) (r := s.run) hs (checked_wrongMode rfl stops)

end Sys2Proof.Machine

open Sys2Proof Sys2Proof.Machine

/-- Settles O30: the lease's tick in SAFE by its remaining count, then RENEW_LEASE by mode and lease state. -/
theorem leaseIsRenewed : Obligations.LeaseIsRenewed := by
  unfold Obligations.LeaseIsRenewed
  refine ⟨fun s hm hl ht => ?_, fun s h => Run.leaseEnds_of_lt h, fun tag s hs => ?_⟩
  · have hc : s.run.leaseCounts = true := s.run.leaseCounts_iff.mpr ⟨hl, by simp [hm]⟩
    constructor
    · intro h
      rw [s.refclk_pool, if_pos (show Config.refclkPerMs ≤ _ from ht), Run.leaseTick_of_lt hc h]
    · intro h
      exact State.leaseExpiry_mem_refclk_due ht (s.run.leaseEnds_iff.mpr ⟨hc, h⟩)
  · by_cases hm : s.run.mode = .run
    · rw [if_neg (not_not_intro hm)]
      cases hl : s.run.pool.leaseState with
      | running => exact exec_renewLease_of_run hs hm (renewLeaseBody_of_running hl)
      | lapsed => exact exec_renewLease_of_run (r := s.run) hs hm (renewLeaseBody_of_lapsed hl)
      | none => exact exec_renewLease_of_run (r := s.run) hs hm (renewLeaseBody_of_none hl)
    · rw [if_pos hm]
      exact exec_renewLease_of_ne_run hs hm
end

section
/-! SUPPORT. Votes and evaluations: what the hottest and the coolest of a list are, what an evaluation makes of the thermal
record (R82, R83, R85), and what a change of state hands on (R84). The statements on votes and on evaluations are settled from
these. -/

namespace Sys2Proof.Machine

open Sys2Proof

/-! ## Folds that choose -/

/-- A fold whose step keeps one of its two arguments ends with one of the values it was given. -/
theorem foldl_mem_of_choice {α : Type} {f : α → α → α} (hf : ∀ a b, f a b = a ∨ f a b = b) (a : α) (as : List α) :
    as.foldl f a ∈ a :: as := by
  induction as generalizing a with
  | nil => simp
  | cons b as ih =>
    rcases List.mem_cons.mp (ih (f a b)) with first | later
    · rw [List.foldl_cons, first]
      rcases hf a b with h | h <;> simp [h]
    · exact List.mem_cons_of_mem _ (List.mem_cons_of_mem _ later)

/-- A fold whose step bounds its two arguments ends with a bound of every value it was given. -/
theorem foldl_bounds {α : Type} {le : α → α → Prop} {f : α → α → α} (refl : ∀ a, le a a)
    (trans : ∀ {a b d}, le a b → le b d → le a d) (left : ∀ a b, le a (f a b)) (right : ∀ a b, le b (f a b))
    {a x : α} {as : List α} (hx : x ∈ a :: as) : le x (as.foldl f a) := by
  induction as generalizing a x with
  | nil => simpa [List.mem_singleton.mp hx] using refl a
  | cons b as ih =>
    have front : le (f a b) (as.foldl f (f a b)) := ih List.mem_cons_self
    rcases List.mem_cons.mp hx with rfl | hx
    · exact trans (left x b) front
    · rcases List.mem_cons.mp hx with rfl | hx
      · exact trans (right a x) front
      · exact ih (List.mem_cons_of_mem _ hx)

/-! ## The hottest and the coolest of the votes given (R81) -/

theorem Heat.hotter_choice (a b : Heat) : a.hotter b = a ∨ a.hotter b = b := by
  unfold Heat.hotter; split <;> simp

theorem Heat.cooler_choice (a b : Heat) : a.cooler b = a ∨ a.cooler b = b := by
  unfold Heat.cooler; split <;> simp

theorem Heat.hotter_rank (a b : Heat) : (a.hotter b).rank = max a.rank b.rank := by
  unfold Heat.hotter; split <;> omega

theorem Heat.cooler_rank (a b : Heat) : (a.cooler b).rank = min a.rank b.rank := by
  unfold Heat.cooler; split <;> omega

theorem combineVotes_mem (how : Combine) {votes : List Heat} (h : votes ≠ []) : combineVotes how votes ∈ votes := by
  cases votes with
  | nil => exact absurd rfl h
  | cons v vs =>
    cases how with
    | any => exact foldl_mem_of_choice Heat.hotter_choice v vs
    | all => exact foldl_mem_of_choice Heat.cooler_choice v vs

theorem rank_le_combineVotes_any {votes : List Heat} {w : Heat} (hw : w ∈ votes) : w.rank ≤ (combineVotes .any votes).rank := by
  cases votes with
  | nil => cases hw
  | cons v vs =>
    exact foldl_bounds (le := fun a b : Heat => a.rank ≤ b.rank) (fun _ => Nat.le_refl _) Nat.le_trans
      (fun a b => Heat.hotter_rank a b ▸ Nat.le_max_left ..) (fun a b => Heat.hotter_rank a b ▸ Nat.le_max_right ..) hw

theorem combineVotes_all_rank_le {votes : List Heat} {w : Heat} (hw : w ∈ votes) : (combineVotes .all votes).rank ≤ w.rank := by
  cases votes with
  | nil => cases hw
  | cons v vs =>
    exact foldl_bounds (le := fun a b : Heat => b.rank ≤ a.rank) (fun _ => Nat.le_refl _) (fun h k => Nat.le_trans k h)
      (fun a b => Heat.cooler_rank a b ▸ Nat.min_le_left ..) (fun a b => Heat.cooler_rank a b ▸ Nat.min_le_right ..) hw

/-! ## The votes of a sled (R80, R81) -/

theorem alertVote_of_ne_heat {c : Cfg} (r : Run) {i : Sled} (h : (c.sled i).alertRole ≠ .heat) : alertVote c r i = none := by
  unfold alertVote
  split
  · next hh => exact absurd hh h
  all_goals rfl

theorem alertVote_of_heat {c : Cfg} (r : Run) {i : Sled} (h : (c.sled i).alertRole = .heat) :
    alertVote c r i =
      if (r.alert i).filtered then (if (r.alert i).sustained then some .hot else some .warm) else some .cool := by
  simp only [alertVote, h]

theorem mem_votesGiven (c : Cfg) (r : Run) (i : Sled) (v : Heat) :
    v ∈ (votesOf c r i).filterMap id ↔ some v ∈ votesOf c r i := by simp

theorem votesGiven_eq_nil (c : Cfg) (r : Run) (i : Sled) :
    (votesOf c r i).filterMap id = [] ↔ votesOf c r i = [none, none, none] := by simp [votesOf]

theorem combinedVote_of_none {c : Cfg} {r : Run} {i : Sled} (h : votesOf c r i = [none, none, none]) :
    combinedVote c r i = .cool := by
  rw [combinedVote, (votesGiven_eq_nil c r i).mpr h]
  rfl

theorem combinedVote_mem {c : Cfg} {r : Run} {i : Sled} (h : votesOf c r i ≠ [none, none, none]) :
    some (combinedVote c r i) ∈ votesOf c r i :=
  (mem_votesGiven ..).mp (combineVotes_mem _ (mt (votesGiven_eq_nil c r i).mp h))

theorem rank_le_combinedVote {c : Cfg} {r : Run} {i : Sled} {w : Heat} (h : (c.sled i).combine = .any)
    (hw : some w ∈ votesOf c r i) : w.rank ≤ (combinedVote c r i).rank := by
  rw [combinedVote, h]
  exact rank_le_combineVotes_any ((mem_votesGiven ..).mpr hw)

theorem combinedVote_rank_le {c : Cfg} {r : Run} {i : Sled} {w : Heat} (h : (c.sled i).combine = .all)
    (hw : some w ∈ votesOf c r i) : (combinedVote c r i).rank ≤ w.rank := by
  rw [combinedVote, h]
  exact combineVotes_all_rank_le ((mem_votesGiven ..).mpr hw)

/-! ## One vote counted (R83, R85) -/

/-- The vote is hotter than the state, and it is the last that the escalation waited for (R83). -/
abbrev Thermal.escalates (g : Globals) (v : Heat) (t : Thermal) : Prop :=
  t.state.rank < v.rank ∧ g.escalateCount ≤ t.escalate + 1

/-- The vote is cooler than the state, and it is the last that the relaxation waited for (R83). -/
abbrev Thermal.relaxes (g : Globals) (v : Heat) (t : Thermal) : Prop :=
  v.rank < t.state.rank ∧ g.relaxCount ≤ t.relax + 1

theorem Heat.stepDown_of_lt {v k : Heat} (h : v.rank < k.rank) : k.stepDown = if k = .hot then .warm else .cool := by
  cases k with
  | cool => exact absurd h (Nat.not_lt_zero _)
  | warm => rfl
  | hot => rfl

/-- A vote counted: at most one counter runs, towards the side on which the vote lies, and the state moves when it is full. -/
theorem Thermal.count_eq (g : Globals) (v : Heat) (t : Thermal) :
    t.count g v =
      { t with
        combined := some v
        state := if t.escalates g v then v
          else if t.relaxes g v then (if t.state = .hot then .warm else .cool) else t.state
        escalate := if t.state.rank < v.rank ∧ ¬t.escalates g v then t.escalate + 1 else 0
        relax := if v.rank < t.state.rank ∧ ¬t.relaxes g v then t.relax + 1 else 0 } := by
  unfold Thermal.count
  rcases Nat.lt_trichotomy t.state.rank v.rank with hotter | same | cooler
  · have notCooler : ¬v.rank < t.state.rank := Nat.lt_asymm hotter
    by_cases full : g.escalateCount ≤ t.escalate + 1 <;> simp [Thermal.escalates, Thermal.relaxes, hotter, notCooler, full]
  · simp [Thermal.escalates, Thermal.relaxes, same]
  · have notHotter : ¬t.state.rank < v.rank := Nat.lt_asymm cooler
    by_cases full : g.relaxCount ≤ t.relax + 1 <;>
      simp [Thermal.escalates, Thermal.relaxes, cooler, notHotter, full, Heat.stepDown_of_lt cooler]

/-- An episode of HOT begins with a fresh count and ends with none (R85). -/
theorem Thermal.episode_eq (g : Globals) (old : Heat) (t : Thermal) :
    t.episode g old =
      { t with
        hotPersist := if t.state = .hot ∧ old ≠ .hot then some (g.hotLimitS * 1000)
          else if t.state ≠ .hot ∧ old = .hot then none else t.hotPersist
        hotRaised := if t.state = .hot ∧ old ≠ .hot then false else t.hotRaised } := by
  obtain ⟨state, _, _, _, _, _⟩ := t
  by_cases now : state = .hot <;> by_cases before : old = .hot <;> simp [Thermal.episode, now, before]

/-- The thermal record that an evaluation leaves (R82 to R85). -/
def Thermal.evaluated (g : Globals) (v : Heat) (t : Thermal) : Thermal := (t.count g v).episode g t.state

/-! ## Notices and held flags -/

theorem Run.post_eq (c : Cfg) (k : Notice) (r : Run) : ∃ n, r.post c k = { r with notices := n } := by
  unfold Run.post
  split
  · exact ⟨_, rfl⟩
  · exact ⟨r.notices, rfl⟩

@[simp] theorem Run.post_sleds (c : Cfg) (k : Notice) (r : Run) : (r.post c k).sleds = r.sleds := by
  obtain ⟨n, h⟩ := r.post_eq c k; rw [h]
@[simp] theorem Run.post_mode (c : Cfg) (k : Notice) (r : Run) : (r.post c k).mode = r.mode := by
  obtain ⟨n, h⟩ := r.post_eq c k; rw [h]
@[simp] theorem Run.post_queue (c : Cfg) (k : Notice) (r : Run) : (r.post c k).queue = r.queue := by
  obtain ⟨n, h⟩ := r.post_eq c k; rw [h]
@[simp] theorem Run.post_arbiterDue (c : Cfg) (k : Notice) (r : Run) : (r.post c k).arbiterDue = r.arbiterDue := by
  obtain ⟨n, h⟩ := r.post_eq c k; rw [h]
@[simp] theorem Run.post_entryHeld (c : Cfg) (k : Notice) (r : Run) : (r.post c k).entryHeld c = r.entryHeld c := by
  obtain ⟨n, h⟩ := r.post_eq c k; rw [h]; funext i q; cases q <;> rfl

/-- A SLED notice that is not masked is posted outside CONFIG (R172). -/
theorem Run.post_sled_pending {c : Cfg} {r : Run} (i : Sled) (hm : r.mode ≠ .config) (hk : c.mask.sled = true) :
    (r.post c (.sled i)).notices.sled.get i = true := by
  have allowed : noticeAllowed c r.mode (.sled i) = true := by simp [noticeAllowed, hk, r.mode.works_iff, hm]
  simp [Run.post, allowed, NoticeSet.insert]

@[simp] theorem Run.refreshHeld_sleds (c : Cfg) (r : Run) : (r.refreshHeld c).sleds = r.sleds := rfl
@[simp] theorem Run.refreshHeld_mode (c : Cfg) (r : Run) : (r.refreshHeld c).mode = r.mode := rfl
@[simp] theorem Run.refreshHeld_entryHeld (c : Cfg) (r : Run) : (r.refreshHeld c).entryHeld c = r.entryHeld c := by
  funext i q; cases q <;> rfl

theorem Run.refreshHeld_queue (c : Cfg) (r : Run) :
    (r.refreshHeld c).queue = r.queue.map fun e => { e with held := r.entryHeld c e.sled e.cls } := rfl

/-- The entries keep their places when the held flags are recomputed. -/
theorem Run.refreshHeld_places (c : Cfg) (r : Run) :
    (r.refreshHeld c).queue.map (fun e => (e.sled, e.cls, e.wanted)) = r.queue.map fun e => (e.sled, e.cls, e.wanted) := by
  simp [Run.refreshHeld_queue]

theorem Run.held_of_mem_refreshHeld {c : Cfg} {r : Run} {e : Entry} (he : e ∈ (r.refreshHeld c).queue) :
    e.held = r.entryHeld c e.sled e.cls := by
  obtain ⟨x, -, rfl⟩ := List.mem_map.mp he
  rfl

/-- An entry that goes from held to unheld triggers the arbiter (R42). -/
theorem Run.refreshHeld_arbiterDue_of_unholds {c : Cfg} {r : Run} (h : r.unholds (r.refreshHeld c)) :
    (r.refreshHeld c).arbiterDue = true := by
  obtain ⟨e, he, unheld, -, heldBefore⟩ := h
  obtain ⟨x, hx, rfl⟩ := List.mem_map.mp he
  have goes : (r.queue.any fun e => e.held && !r.entryHeld c e.sled e.cls) = true :=
    List.any_eq_true.mpr ⟨x, hx, by simpa [heldBefore x hx rfl] using unheld⟩
  simp [Run.refreshHeld, goes]

/-! ## The end of a boost (R56) -/

theorem Run.endBoost_sleds (i : Sled) (r : Run) :
    (r.endBoost i).sleds = modAt i (fun x =>
      { x with
        books := { x.books with draining := x.books.draining + x.books.loan, loan := 0, boost := .rearm, boostFrames := 0 } })
      r.sleds := rfl

@[simp] theorem Run.endBoost_life (i j : Sled) (r : Run) : (r.endBoost i).life j = r.life j := by
  simp only [Run.life, Run.endBoost_sleds, modAt_get]; split <;> simp_all
@[simp] theorem Run.endBoost_therm (i j : Sled) (r : Run) : (r.endBoost i).therm j = r.therm j := by
  simp only [Run.therm, Run.endBoost_sleds, modAt_get]; split <;> simp_all
@[simp] theorem Run.endBoost_boost (i : Sled) (r : Run) : ((r.endBoost i).books i).boost = .rearm := by
  simp [Run.books, Run.endBoost_sleds]

/-- The early end of a boost touches its sled's channel and books only. -/
theorem Run.endBoostEarly_sleds_other (r : Run) {i j : Sled} (h : j ≠ i) :
    (r.endBoostEarly i).sleds.get j = r.sleds.get j := by
  unfold Run.endBoostEarly
  split
  · simp [Run.endBoost_sleds, modAt_get_other h]
  · rfl

@[simp] theorem Run.endBoostEarly_mode (i : Sled) (r : Run) : (r.endBoostEarly i).mode = r.mode := by
  unfold Run.endBoostEarly; split <;> rfl
@[simp] theorem Run.endBoostEarly_queue (i : Sled) (r : Run) : (r.endBoostEarly i).queue = r.queue := by
  unfold Run.endBoostEarly; split <;> rfl
@[simp] theorem Run.endBoostEarly_life (i j : Sled) (r : Run) : (r.endBoostEarly i).life j = r.life j := by
  unfold Run.endBoostEarly; split <;> simp
@[simp] theorem Run.endBoostEarly_therm (i j : Sled) (r : Run) : (r.endBoostEarly i).therm j = r.therm j := by
  unfold Run.endBoostEarly; split <;> simp

theorem Run.endBoostEarly_boost (i : Sled) (r : Run) : ((r.endBoostEarly i).books i).boost ≠ .running := by
  unfold Run.endBoostEarly
  split
  · simp
  · next h => simpa using h

/-! ## What a change of thermal state hands on (R84) -/

/-- A sled that leaves COOL loses its boost. -/
def Run.leaveCool (i : Sled) (old : Heat) (r : Run) : Run := if old == .cool then r.endBoostEarly i else r

theorem Run.leaveCool_sleds_other (r : Run) (old : Heat) {i j : Sled} (h : j ≠ i) :
    (r.leaveCool i old).sleds.get j = r.sleds.get j := by
  unfold Run.leaveCool
  split
  · exact r.endBoostEarly_sleds_other h
  · rfl

@[simp] theorem Run.leaveCool_mode (i : Sled) (old : Heat) (r : Run) : (r.leaveCool i old).mode = r.mode := by
  unfold Run.leaveCool; split <;> simp
@[simp] theorem Run.leaveCool_queue (i : Sled) (old : Heat) (r : Run) : (r.leaveCool i old).queue = r.queue := by
  unfold Run.leaveCool; split <;> simp
@[simp] theorem Run.leaveCool_life (i j : Sled) (old : Heat) (r : Run) : (r.leaveCool i old).life j = r.life j := by
  unfold Run.leaveCool; split <;> simp
@[simp] theorem Run.leaveCool_therm (i j : Sled) (old : Heat) (r : Run) : (r.leaveCool i old).therm j = r.therm j := by
  unfold Run.leaveCool; split <;> simp

theorem Run.leaveCool_boost (i : Sled) (r : Run) : ((r.leaveCool i .cool).books i).boost ≠ .running :=
  r.endBoostEarly_boost i

theorem Run.handThermal_of_eq {c : Cfg} {i : Sled} {old : Heat} {r : Run} (h : (r.therm i).state = old) :
    r.handThermal c i old = r := by simp [Run.handThermal, h]

theorem Run.handThermal_of_ne {c : Cfg} {i : Sled} {old : Heat} {r : Run} (h : (r.therm i).state ≠ old) :
    r.handThermal c i old = ((r.leaveCool i old).refreshHeld c).post c (.sled i) := by
  simp [Run.handThermal, Run.leaveCool, h]

/-- Handing on touches no other sled, and of its own neither the lifecycle nor the thermal record. -/
theorem Run.handThermal_frame (c : Cfg) (i : Sled) (old : Heat) (r : Run) :
    (∀ j, j ≠ i → (r.handThermal c i old).sleds.get j = r.sleds.get j)
      ∧ (r.handThermal c i old).life i = r.life i ∧ (r.handThermal c i old).therm i = r.therm i
      ∧ (r.handThermal c i old).mode = r.mode := by
  by_cases h : (r.therm i).state = old
  · simp [Run.handThermal_of_eq h]
  · rw [Run.handThermal_of_ne h]
    refine ⟨fun j hj => ?_, ?_, ?_, by simp⟩
    · simpa using r.leaveCool_sleds_other old hj
    · simpa [Run.life] using r.leaveCool_life i i old
    · simpa [Run.therm] using r.leaveCool_therm i i old

/-! ## An evaluation (R82 to R84) -/

theorem Run.evaluate_of_out {c : Cfg} {r : Run} {i : Sled} (h : (r.life i).state.inService = false) :
    r.evaluate c i = r := by simp [Run.evaluate, h]

section InService

variable {c : Cfg} {r : Run} {i : Sled} (inService : (r.life i).state.inService = true)
include inService

theorem Run.evaluate_of_inService :
    r.evaluate c i
      = (r.modTherm i (Thermal.evaluated c.globals (combinedVote c r i))).handThermal c i (r.therm i).state := by
  rw [Run.evaluate, if_pos inService]
  exact congrArg (Run.handThermal c i _) (Run.modTherm_congr rfl)

theorem Run.evaluate_therm :
    (r.evaluate c i).therm i = (r.therm i).evaluated c.globals (combinedVote c r i) := by
  obtain ⟨-, -, therm, -⟩ := Run.handThermal_frame c i (r.therm i).state
    (r.modTherm i (Thermal.evaluated c.globals (combinedVote c r i)))
  rw [Run.evaluate_of_inService inService, therm, Run.modTherm_therm_self]

theorem Run.evaluate_frame :
    (∀ j, j ≠ i → (r.evaluate c i).sleds.get j = r.sleds.get j) ∧ (r.evaluate c i).life i = r.life i
      ∧ (r.evaluate c i).mode = r.mode := by
  obtain ⟨others, life, -, mode⟩ := Run.handThermal_frame c i (r.therm i).state
    (r.modTherm i (Thermal.evaluated c.globals (combinedVote c r i)))
  rw [Run.evaluate_of_inService inService]
  exact ⟨fun j hj => (others j hj).trans (modAt_get_other hj ..), life.trans (Run.modTherm_life ..), mode⟩

theorem Run.evaluate_of_state_eq (h : ((r.evaluate c i).therm i).state = (r.therm i).state) :
    r.evaluate c i = r.modTherm i fun _ => (r.evaluate c i).therm i := by
  rw [Run.evaluate_therm inService] at h ⊢
  rw [Run.evaluate_of_inService inService, Run.handThermal_of_eq (by simpa using h)]
  exact Run.modTherm_congr rfl

theorem Run.evaluate_of_state_ne (h : ((r.evaluate c i).therm i).state ≠ (r.therm i).state) :
    r.evaluate c i
      = (((r.modTherm i (Thermal.evaluated c.globals (combinedVote c r i))).leaveCool i (r.therm i).state).refreshHeld c).post
          c (.sled i) := by
  rw [Run.evaluate_therm inService] at h
  rw [Run.evaluate_of_inService inService, Run.handThermal_of_ne (by simpa using h)]

theorem Run.evaluate_boost (h : ((r.evaluate c i).therm i).state ≠ (r.therm i).state) (hc : (r.therm i).state = .cool) :
    ((r.evaluate c i).books i).boost ≠ .running := by
  rw [Run.evaluate_of_state_ne inService h, hc]
  simpa [Run.books] using Run.leaveCool_boost i (r.modTherm i (Thermal.evaluated c.globals (combinedVote c r i)))

theorem Run.evaluate_queue (h : ((r.evaluate c i).therm i).state ≠ (r.therm i).state) :
    (r.evaluate c i).queue.map (fun e => (e.sled, e.cls, e.wanted)) = r.queue.map (fun e => (e.sled, e.cls, e.wanted))
      ∧ (∀ e ∈ (r.evaluate c i).queue, e.held = (r.evaluate c i).entryHeld c e.sled e.cls)
      ∧ (r.unholds (r.evaluate c i) → (r.evaluate c i).arbiterDue = true) := by
  rw [Run.evaluate_of_state_ne inService h]
  generalize ht : (r.modTherm i (Thermal.evaluated c.globals (combinedVote c r i))).leaveCool i (r.therm i).state = t
  have queue : t.queue = r.queue := by rw [← ht]; simp
  refine ⟨?_, fun e he => ?_, fun hu => ?_⟩
  · rw [Run.post_queue, Run.refreshHeld_places, queue]
  · rw [Run.post_queue] at he
    rw [Run.post_entryHeld, Run.refreshHeld_entryHeld]
    exact Run.held_of_mem_refreshHeld he
  · rw [Run.post_arbiterDue]
    apply Run.refreshHeld_arbiterDue_of_unholds
    simpa only [Run.unholds, Run.queued, Run.post_queue, queue] using hu

theorem Run.evaluate_notice (h : ((r.evaluate c i).therm i).state ≠ (r.therm i).state) (hm : r.mode ≠ .config)
    (hk : c.mask.sled = true) : (r.evaluate c i).notices.sled.get i = true := by
  rw [Run.evaluate_of_state_ne inService h]
  exact Run.post_sled_pending i (by simpa using hm) hk

end InService

end Sys2Proof.Machine

open Sys2Proof Sys2Proof.Machine

/-- Settles O51: the alert line's vote by its role and level, then the combined vote as a choice of the votes given that bounds
them from above or from below. -/
theorem votesAreFormedAndCombined : Obligations.VotesAreFormedAndCombined := by
  unfold Obligations.VotesAreFormedAndCombined
  intro c r i
  refine ⟨fun p => rfl, alertVote_of_ne_heat r, fun hr hf => ?_, fun hr hf hs => ?_, fun hr hf hs => ?_,
    combinedVote_of_none, combinedVote_mem, fun ha w => rank_le_combinedVote ha, fun ha w => combinedVote_rank_le ha⟩
  · simp [alertVote_of_heat r hr, hf]
  · simp [alertVote_of_heat r hr, hf, hs]
  · simp [alertVote_of_heat r hr, hf, hs]

/-- Settles O52: the thermal record is the count of the vote with its episode of HOT; a state that stays hands nothing on, and
one that changes goes through the end of the boost, the held flags and the notice. -/
theorem evaluationCountsTheVote : Obligations.EvaluationCountsTheVote := by
  unfold Obligations.EvaluationCountsTheVote
  intro c r i t v g u
  refine ⟨Run.evaluate_of_out, fun inService => ?_⟩
  intro hotter cooler escalates relaxes state
  have therm : u.therm i = (t.count g v).episode g t.state := Run.evaluate_therm inService
  rw [Thermal.episode_eq, Thermal.count_eq] at therm
  have moved : (u.therm i).state = state := congrArg Thermal.state therm
  refine ⟨congrArg Thermal.combined therm, moved, congrArg Thermal.escalate therm, congrArg Thermal.relax therm,
    congrArg Thermal.hotPersist therm, congrArg Thermal.hotRaised therm, ?_⟩
  rw [← moved]
  exact ⟨Run.evaluate_of_state_eq inService, Run.evaluate_boost inService, Run.evaluate_queue inService,
    Run.evaluate_notice inService, Run.evaluate_frame inService⟩
end

section
/-! SUPPORT. What IDENTIFY answers: the bytes that are fixed in the part (R169), and the reply to a frame that is taken at once.
The statement on IDENTIFY is settled from these. -/

namespace Sys2Proof.Machine

open Sys2Proof

/-- The fixed values as they stand in the reply: vendor, part and revision, then the capacities, high bytes first (R169). -/
theorem identity_bytes :
    put8 Config.vendorCode ++ put16 Config.partCode ++ put8 Config.revision ++ capacities
      = [0x52, 0x0C, 0x24, 3, 24, 48, 4, 2, 0, 16, 24, 4] := by decide

/-- A request taken at once that passes the common checks and only reports is answered OK with its report (R166, R167). -/
theorem State.request_reports {f : Frame} {s : State} (h : Ready f s) {lengthOk : Nat → Bool} {modeOk : Mode → Bool}
    {p : List Byte} (hl : lengthOk p.length = true) (hm : modeOk s.run.mode = true)
    (content : List Byte → State → List Byte) :
    s.request f true false (checked lengthOk modeOk (fun q => report (content q)) p)
      = .next (s.answered f (put8 Status.ok.code ++ content p s.popFrame)) :=
  have passes : checked lengthOk modeOk (fun q => report (content q)) p s.popFrame
      = (s.popFrame, .ok (content p s.popFrame)) := checked_passes hl hm
  State.request_replied (c := s.cfg) (r := s.run) h passes

/-- IDENTIFY taken at once passes its checks whatever the mode (R168, R169). -/
theorem exec_identify_of_ready {tag : Byte} {s : State} (ready : Ready (frame tag 0x01 []) s) :
    exec (.identify tag []) s = .next (s.answered (frame tag 0x01 []) (put8 Status.ok.code
      ++ (put8 Config.vendorCode ++ put16 Config.partCode ++ put8 Config.revision ++ capacities))) :=
  have inEveryMode : anyMode s.run.mode = true := rfl
  State.request_reports ready (lengthOk := exactly 0) (p := []) rfl inEveryMode _

end Sys2Proof.Machine

open Sys2Proof Sys2Proof.Machine

/-- Settles O19: IDENTIFY passes its checks in every mode and reports the fixed values, whose bytes are as R169 gives them. -/
theorem identifyReportsTheFixedValues : Obligations.IdentifyReportsTheFixedValues := by
  unfold Obligations.IdentifyReportsTheFixedValues
  intro tag s ready
  rw [exec_identify_of_ready ready, identity_bytes]
  rfl
end

section
/-! SUPPORT. What the proofs need of sums, lists and runs of neighbours beside core Lean: the package is built without Mathlib. -/

namespace Sys2Proof.Machine

open Sys2Proof

theorem ite_of_iff {α : Type} {p q : Prop} [Decidable p] [Decidable q] {a b : α} (h : p ↔ q) :
    (if p then a else b) = if q then a else b := by
  by_cases hq : q
  · rw [if_pos hq, if_pos (h.mpr hq)]
  · rw [if_neg hq, if_neg (mt h.mp hq)]

theorem forall_fin_zero {p : Fin 0 → Prop} : (∀ i, p i) ↔ True := iff_true_intro fun i => i.elim0

/-- A fold whose steps all leave its start. -/
theorem foldl_of_fixed {α β : Type} {f : β → α → β} {b : β} (h : ∀ a, f b a = b) (l : List α) : l.foldl f b = b := by
  induction l with
  | nil => rfl
  | cons a l ih => rw [List.foldl_cons, h a, ih]

/-! ## Sums -/

theorem sum_map_add {α : Type} (f g : α → Nat) (l : List α) :
    (l.map fun a => f a + g a).sum = (l.map f).sum + (l.map g).sum := by
  induction l with
  | nil => rfl
  | cons a l ih =>
    simp only [List.map_cons, List.sum_cons, ih]
    omega

theorem sum_map_le {α : Type} {f g : α → Nat} (h : ∀ a, f a ≤ g a) (l : List α) : (l.map f).sum ≤ (l.map g).sum := by
  induction l with
  | nil => exact Nat.le_refl _
  | cons a l ih =>
    have first := h a
    simp only [List.map_cons, List.sum_cons]
    omega

/-- Two sums over a list that agree but for one entry. -/
theorem sum_map_of_other {α : Type} [DecidableEq α] {f g : α → Nat} {i : α} (h : ∀ a, a ≠ i → f a = g a) {l : List α} (nodup : l.Nodup)
    (mem : i ∈ l) : (l.map f).sum + g i = (l.map g).sum + f i := by
  have same {l : List α} (out : i ∉ l) : l.map f = l.map g :=
    List.map_congr_left fun a ha => h a fun e => out (e ▸ ha)
  induction l with
  | nil => cases mem
  | cons a l ih =>
    obtain ⟨new, nodup⟩ := List.nodup_cons.mp nodup
    simp only [List.map_cons, List.sum_cons]
    by_cases first : a = i
    · subst first
      rw [same new]
      omega
    · have rest := ih nodup ((List.mem_cons.mp mem).resolve_left fun e => first e.symm)
      have still := h a first
      omega

theorem sum_map_nonneg {α : Type} (f : α → Nat) (l : List α) : 0 ≤ (l.map fun a => (f a : Int)).sum := by
  induction l with
  | nil => exact Int.le_refl _
  | cons a l ih =>
    simp only [List.map_cons, List.sum_cons]
    omega

theorem sumSleds_zero {f : Sled → Nat} (h : ∀ i, f i = 0) : sumSleds f = 0 := by
  have zero (l : List Sled) : (l.map f).sum = 0 := by
    induction l with
    | nil => rfl
    | cons i l ih => rw [List.map_cons, List.sum_cons, h i, ih]
  exact zero _

theorem sumSleds_le {f g : Sled → Nat} (h : ∀ i, f i ≤ g i) : sumSleds f ≤ sumSleds g := sum_map_le h _

theorem sumSleds_add {f g h : Sled → Nat} (whole : ∀ i, f i + g i = h i) : sumSleds f + sumSleds g = sumSleds h := by
  rw [← funext whole]
  exact (sum_map_add f g _).symm

/-- Two sums that agree but for one sled. -/
theorem sumSleds_of_other {f g : Sled → Nat} {i : Sled} (h : ∀ j, j ≠ i → f j = g j) : sumSleds f + g i = sumSleds g + f i :=
  sum_map_of_other h (List.nodup_finRange 24) (List.mem_finRange i)

/-- Sleds that are all different are at most 24. -/
theorem length_le_of_nodup {l : List Sled} (nodup : l.Nodup) : l.length ≤ 24 := by
  have count : l.length = sumSleds fun i => if i ∈ l then 1 else 0 := by
    induction l with
    | nil => exact (sumSleds_zero fun i => if_neg List.not_mem_nil).symm
    | cons a l ih =>
      obtain ⟨new, nodup⟩ := List.nodup_cons.mp nodup
      have more := sumSleds_of_other (f := fun i => if i ∈ a :: l then 1 else 0) (g := fun i => if i ∈ l then 1 else 0) (i := a)
        fun j other => ite_of_iff (List.mem_cons.trans (or_iff_right other))
      rw [if_pos List.mem_cons_self, if_neg new, ← ih nodup] at more
      rw [List.length_cons]
      omega
  have most := sumSleds_le (f := fun i => if i ∈ l then 1 else 0) (g := fun _ => 1) fun i => by split <;> decide
  rw [← count, show sumSleds (fun _ => 1) = 24 by decide] at most
  exact most

/-! ## Runs of neighbours -/

/-- Every entry of a list stands in the relation to the next one. -/
def chained {α : Type} (R : α → α → Prop) : List α → Prop
  | [] => True
  | [_] => True
  | a :: b :: l => R a b ∧ chained R (b :: l)

theorem chained_get {α : Type} {R : α → α → Prop} {l : List α} (h : chained R l) {j : Nat} {a b : α} (first : l[j]? = some a)
    (second : l[j + 1]? = some b) : R a b := by
  induction l generalizing j with
  | nil => cases first
  | cons x l ih =>
    cases l with
    | nil => cases second
    | cons y l =>
      obtain ⟨here, rest⟩ := h
      cases j with
      | zero =>
        obtain rfl := Option.some.inj first
        obtain rfl := Option.some.inj second
        exact here
      | succ j => exact ih rest first second

end Sys2Proof.Machine
end

section
/-! SUPPORT. What each command does to the configuration and the running part, said once (`Does`): one line per command, with
the conditions under which it acts. Every invariant of a step is derived from it by `exec_preserves` and `step_preserves`. -/

namespace Sys2Proof.Machine

open Sys2Proof

/-! ## The effects of the commands -/

/-- What WRITE_GLOBALS does to the running part: the restart of the frame, the dwells, the zone (R170). -/
def Run.globalsWritten (before : Cfg) (g : Globals) (r : Run) : Run :=
  let r := if before.globals.prescale = g.prescale ∧ before.globals.frameTicks = g.frameTicks then r else r.restartFrame
  let r := if before.globals.rampFrames = g.rampFrames then r else r.loadDwells g.rampFrames
  r.zoneWrite before { before with globals := g }

theorem State.writeGlobals_eq (g : Globals) (s : State) :
    s.writeGlobals g = { s with cfg := { s.cfg with globals := g }, run := s.run.globalsWritten s.cfg g } := rfl

/-- The configuration with sled `i`'s record replaced. -/
def Cfg.withSled (i : Sled) (x : SledCfg) (c : Cfg) : Cfg := { c with sleds := modAt i (fun _ => x) c.sleds }

/-- What WRITE_SLED does to the running part (R72). -/
def Run.sledWritten (before : Cfg) (i : Sled) (x : SledCfg) (r : Run) : Run :=
  if x.enable = (before.sled i).enable then r else r.changeEnable i x.enable

theorem State.writeSled_eq (i : Sled) (x : SledCfg) (s : State) :
    s.writeSled i x = { s with cfg := s.cfg.withSled i x, run := s.run.sledWritten s.cfg i x } := rfl

/-- The running part after a soft reset (R159). -/
def Run.softReset (c : Cfg) (r : Run) : Run :=
  (Run.initial c .softReset r.clock.softReset r.pool.softReset r.prsPins r.alrPins r.zonePins true r.free).post c .mode

/-- `Does c r i c' r'`: on configuration `c` and running part `r`, the command `i` can make `c'` and `r'`, the service of the
arbiter and the notices that the transmitter takes apart. -/
inductive Does (c : Cfg) (r : Run) : Instr → Cfg → Run → Prop
  | keep (i : Instr) : Does c r i c r
  | linkFault (i : Instr) (e : LinkError) : Does c r i c (r.raise c .linkFrame .link e.code)
  | powerOn : Does c r .powerOn .default (r.pinReset false)
  | rstNLow : Does c r .rstNLow .default (r.pinReset false)
  | resetRelease (rate : Pin) : Does c r (.resetRelease rate) .default ((r.pinReset true).post .default .mode)
  | softReset : Does c r .frameSent c (r.softReset c)
  | boundary (i : Sled) (h : r.hasBoundary i = true) : Does c r (.boundaryEvent i) c (r.boundary i c)
  | sectionEnd (i : Sled) : Does c r (.carrierSectionEnd i) c (r.modChan i Channel.sectionEnd)
  | expireLease (h : r.leaseCounts = true) : Does c r .leaseExpiry c (r.expireLease c)
  | setPrs (i : Sled) (l : Pin) : Does c r (.presenceLineChange i l) c (r.setPrs i l)
  | presenceLine (i : Sled) (l : Pin) : Does c r (.presenceLineChange i l) c (r.presenceLine i l c)
  | settlePresence (i : Sled) : Does c r (.presenceSettleExpiry i) c (r.settlePresence c i)
  | admissionExpired (i : Sled) (h : r.admissionCounts i = true) : Does c r (.admitCountExpiry i) c (r.admissionExpired c i)
  | setZonePin (z : ZoneNo) (l : Pin) : Does c r (.zoneInputChange z l) c (r.setZonePin z l)
  | zoneLine (z : ZoneNo) (l : Pin) : Does c r (.zoneInputChange z l) c (r.zoneLine z l c)
  | settleZone (z : ZoneNo) : Does c r (.zoneSettleExpiry z) c (r.settleZone c z)
  | releaseExpired : Does c r .zoneReleaseExpiry c (r.releaseExpired c)
  | setAlr (i : Sled) (l : Pin) : Does c r (.alertSampleChange i l) c (r.setAlr i l)
  | sampleAlert (i : Sled) (l : Pin) : Does c r (.alertSampleChange i l) c (r.sampleAlert c i l)
  | acceptSample (i : Sled) : Does c r (.alertLevelAccepted i) c (r.acceptSample i c)
  | sustain (i : Sled) : Does c r (.sustainReached i) c (r.sustain c i)
  | stick (i : Sled) : Does c r (.stuckReached i) c (r.stick c i)
  | hotExpired (i : Sled) : Does c r (.hotPersistExpiry i) c (r.hotExpired i c)
  | dueEvent (p : Probe) : Does c r (.dueEvent p) c (r.dueEvent c p)
  | initEnds (n : LaneNo) (p : Poll) : Does c r (.initTransactionEnd n) c (r.initEnds c n p)
  | notAcknowledged (n : LaneNo) (k : Reason) (p : Poll) : Does c r (.notAcknowledge n) c (r.notAcknowledged c n k p)
  | settleEnds (n : LaneNo) (p : Poll) : Does c r (.settleExpiry n) c (r.beginWaitOrRead c n p.probe)
  | waitEnds (n : LaneNo) (p : Poll) (o : PollResult) : Does c r (.waitExpiry n) c (r.endPoll c n p.probe o)
  | readEnds (n : LaneNo) (b0 b1 : Byte) (p : Poll) (o : PollResult) :
      Does c r (.readTransactionEnd n b0 b1) c ((r.closeOnLane n).endPoll c n p.probe o)
  | transactionExpired (n : LaneNo) : Does c r (.transactionTimeout n) c (r.transactionExpired n c)
  | abortEnds (n : LaneNo) : Does c r (.abortStopEnd n) c ((r.closeOnLane n).freeLane c n)
  | attemptChecked (n : LaneNo) (l : Pin) : Does c r (.recoveryAttemptEnd n l) c (r.attemptChecked n l c)
  | attemptTimesOut (n : LaneNo) : Does c r (.recoveryAttemptTimeout n) c ((r.abandonLane n).attemptFailed c n)
  | failValidation (t : Byte) (k : ItemKind) (n : Nat) (h : r.mode = .config) :
      Does c r (.setModeRun t) c { r with validation := .failed k n }
  | enterRun (t : Byte) (h : r.mode = .config) (hv : validationFault c = none) : Does c r (.setModeRun t) c (r.enterRun c)
  | runFromSafe (t : Byte) (h : r.mode = .safe) : Does c r (.setModeRun t) c (r.runFromSafe c)
  | toConfig (t : Byte) (h : r.mode ≠ .config) : Does c r (.setModeConfig t) c (r.toConfig c)
  | writeGlobals (t : Byte) (p : List Byte) (h : r.mode = .config) (hl : p.length = 41)
      (hp : firstFailing (globalsChecks c p) = none) :
      Does c r (.writeGlobals t p) { c with globals := decodeGlobals p } (r.globalsWritten c (decodeGlobals p))
  | writeLevels (t : Byte) (p : List Byte) (h : r.mode = .config) (hl : levelsLength p.length = true)
      (hp : firstFailing (levelsChecks p) = none) :
      Does c r (.writeLevels t p) { c with levels := decodeLevels p c.levels } r
  | writeSled (t : Byte) (p : List Byte) (h : r.mode = .config) (hl : p.length = 41)
      (hp : firstFailing (sledChecks c p) = none) :
      Does c r (.writeSled t p) (c.withSled (finAt 24 p 0) (decodeSled p)) (r.sledWritten c (finAt 24 p 0) (decodeSled p))
  | writeProbe (t : Byte) (p : List Byte) (h : r.mode = .config) (hl : p.length = 33)
      (hp : firstFailing (probeChecks p) = none) :
      Does c r (.writeProbe t p) { c with probes := modAt (finAt 48 p 0) (fun _ => decodeProbe p) c.probes } r
  | writeScript (t : Byte) (p : List Byte) (h : r.mode = .config) :
      Does c r (.writeScript t p) { c with script := writeScriptBytes p c.script } r
  | writeRouting (t : Byte) (p : List Byte) (h : r.mode ≠ .safe) (hp : firstFailing (routingChecks p) = none) :
      Does c r (.writeRouting t p) { c with routing := decodeRouting p } r
  | setNotices (t : Byte) (p : List Byte) (h : r.mode ≠ .safe) :
      Does c r (.setNotices t p) { c with mask := decodeMask p } { r with notices := r.notices.keep (decodeMask p) }
  | setPool (t : Byte) (p : List Byte) (h : r.floorsHeld c ≤ (decodePool p).size) :
      Does c r (.setPool t p) c (r.setPool (decodePool p) c)
  | renewLease (t : Byte) (p : List Byte) : Does c r (.renewLease t p) c r.renewLease
  | setWant (t : Byte) (p : List Byte) (i : Sled) (w : Level) (k : Fin 4) (h : r.mode ≠ .config)
      (hi : (r.life i).state.isPresent = true) : Does c r (.setWant t p) c (r.setWant c i w k)
  | startBoost (t : Byte) (p : List Byte) (i : Sled) (n : Nat) (h : r.mode = .run) (hb : (r.books i).boost = .none)
      (hi : (r.life i).state = .tracking) (hg : (r.books i).grant < costAt c i 0)
      (hh : (costAt c i 0 : Int) - (r.books i).grant ≤ r.headroom) : Does c r (.boost t p) c (r.startBoost c i n)
  | release (t : Byte) (p : List Byte) (i : Sled) : Does c r (.releaseSled t p) c (r.release c i)
  | clearZone (t : Byte) (p : List Byte) : Does c r (.clearZone t p) c (r.endEmergency c)
  | resetLane (t : Byte) (p : List Byte) (n : LaneNo) : Does c r (.resetLane t p) c (r.beginAttempt c n 1)
  | queryProbe (t : Byte) (p : List Byte) : Does c r (.queryProbe t p) c r.spendFree
  | clearAlert (t x : Byte) (i : Sled) : Does c r (.readAlertAndClear t x) c (r.modAlert i Alert.clearMeasurements)
  | clearFaults (t : Byte) (p : List Byte) : Does c r (.clearFaults t p) c r.clearFaults

/-! ## From a command to its effect -/

/-- A predicate of the configuration and the running part that neither the notices nor a service of the arbiter touch. -/
structure Settles (P : Cfg → Run → Prop) : Prop where
  notices : ∀ c r n, P c r → P c { r with notices := n }
  serves : ∀ c r, P c r → P c (r.serveIfDue c)

section Preserves

variable {P : Cfg → Run → Prop} (settles : Settles P) {i : Instr}
  (does : ∀ c r c' r', Does c r i c' r' → P c r → P c' r')

include settles in
theorem State.finish_preserves {s : State} (h : P s.cfg s.run) : P s.finish.cfg s.finish.run := by
  obtain ⟨n, hn⟩ := s.finish_run
  rw [hn, s.finish_cfg]
  exact settles.notices _ _ _ (settles.serves _ _ h)

include does in
/-- The reception of a frame raises LINK_FRAME or leaves the running part alone. -/
theorem State.receive_preserves (f : Frame) {s : State} (h : P s.cfg s.run) : P (s.receive f).cfg (s.receive f).run := by
  unfold State.receive State.acceptFrame
  split
  · exact h
  · split
    · exact h
    · exact does _ _ _ _ (.linkFault i .overrun) h

include settles does in
/-- A request preserves what its body's effect preserves. -/
theorem State.request_preserves {f : Frame} {wf isReset : Bool} {body : Body} {s t : State}
    (effect : ∀ u : State, Does u.cfg u.run i (body u).1.cfg (body u).1.run)
    (ht : s.request f wf isReset body = .next t) (h : P s.cfg s.run) : P t.cfg t.run := by
  have received := State.receive_preserves does f h
  unfold State.request at ht
  split at ht
  · cases ht
  · split at ht
    · cases ht; exact h
    · dsimp only at ht
      split at ht <;> cases ht
      · refine State.finish_preserves settles ?_
        exact settles.serves _ _ (does _ _ _ _ (effect (s.receive f).popFrame) received)
      · exact State.finish_preserves settles received

include settles in
theorem State.event_preserves {b : Bool} {g : State → State} {s t : State}
    (effect : b = true → P s.cfg s.run → P (g s).cfg (g s).run) (ht : s.event b g = .next t) (h : P s.cfg s.run) :
    P t.cfg t.run := by
  unfold State.event at ht
  split at ht
  · next hb =>
    cases ht
    exact State.finish_preserves settles (effect (Bool.and_eq_true _ _ ▸ hb).2 h)
  · cases ht; exact h

include settles does in
theorem State.runEvent_preserves {b : Bool} {g : Cfg → Run → Run} {s t : State}
    (effect : b = true → Does s.cfg s.run i s.cfg (g s.cfg s.run)) (ht : s.runEvent b g = .next t) (h : P s.cfg s.run) :
    P t.cfg t.run :=
  State.event_preserves settles (fun hb => does _ _ _ _ (effect hb)) ht h

end Preserves

/-! ## The bodies of the requests -/

/-- The effect of a body that goes through the common checks is that of what follows them, where they pass. -/
theorem Does.checked {i : Instr} {lengthOk : Nat → Bool} {modeOk : Mode → Bool} {body : List Byte → Body} {p : List Byte}
    {u : State} (h : lengthOk p.length = true → modeOk u.run.mode = true →
      Does u.cfg u.run i (body p u).1.cfg (body p u).1.run) :
    Does u.cfg u.run i (checked lengthOk modeOk body p u).1.cfg (checked lengthOk modeOk body p u).1.run := by
  unfold Machine.checked
  split
  · exact .keep i
  · split
    · exact .keep i
    · next hl hm => exact h (by simpa using hl) (by simpa using hm)

theorem Does.withChecks {i : Instr} {checks : List Check} {body : Body} {u : State}
    (h : firstFailing checks = none → Does u.cfg u.run i (body u).1.cfg (body u).1.run) :
    Does u.cfg u.run i (withChecks checks body u).1.cfg (withChecks checks body u).1.run := by
  unfold Machine.withChecks
  split
  · exact .keep i
  · next hc => exact h hc

theorem Does.refuseIf {i : Instr} {cond : State → Bool} {status : Status} {body : Body} {u : State}
    (h : cond u = false → Does u.cfg u.run i (body u).1.cfg (body u).1.run) :
    Does u.cfg u.run i (refuseIf cond status body u).1.cfg (refuseIf cond status body u).1.run := by
  unfold Machine.refuseIf
  split
  · exact .keep i
  · next hc => exact h (by simpa using hc)

theorem Does.setModeRunBody (t : Byte) (u : State) :
    Does u.cfg u.run (.setModeRun t) (setModeRunBody u).1.cfg (setModeRunBody u).1.run := by
  unfold Machine.setModeRunBody
  split
  · exact .keep _
  · next hm =>
    split
    · exact .keep _
    · exact .runFromSafe t hm
  · next hm =>
    split
    · exact .failValidation t _ _ hm
    · next hv => exact .enterRun t hm hv

theorem Does.renewLeaseBody (t : Byte) (p : List Byte) (u : State) :
    Does u.cfg u.run (.renewLease t p) (renewLeaseBody u).1.cfg (renewLeaseBody u).1.run := by
  unfold Machine.renewLeaseBody
  split
  · exact .renewLease t p
  · exact .keep _
  · exact .keep _

/-! ## The link -/

section Link

variable {P : Cfg → Run → Prop} {i : Instr} (does : ∀ c r c' r', Does c r i c' r' → P c r → P c' r')
include does

theorem State.raiseLink_preserves (e : LinkError) {s : State} (h : P s.cfg s.run) :
    P (s.raiseLink e).cfg (s.raiseLink e).run := does _ _ _ _ (.linkFault i e) h

theorem State.takeLinkByte_preserves (b : Byte) {s : State} (h : P s.cfg s.run) :
    P (s.takeLinkByte b).cfg (s.takeLinkByte b).run := by
  unfold State.takeLinkByte
  split
  · split <;> exact h
  · split
    · exact h
    · exact State.raiseLink_preserves does .length (s := s.setParser .hunt none) h
  · split <;> exact h
  · exact h
  · unfold State.checkFrame State.acceptFrame
    split
    · split
      · exact h
      · exact State.raiseLink_preserves does .overrun (s := s.setParser .hunt none) h
    · exact State.raiseLink_preserves does .crc (s := s.setParser .hunt none) h

end Link

theorem State.frameEnds_does (s : State) : Does s.cfg s.run .frameSent s.frameEnds.cfg s.frameEnds.run := by
  unfold State.frameEnds
  split
  · exact .keep _
  · split
    · exact .softReset
    · exact .keep _

/-- An effect on the poll in a phase. -/
theorem Does.withPoll {c : Cfg} {r : Run} {i : Instr} {n : LaneNo} {k : Phase} {effect : Poll → Run → Run}
    (h : ∀ p, Does c r i c (effect p r)) : Does c r i c (r.withPoll n k effect) := by
  unfold Run.withPoll
  split
  · exact h _
  · exact .keep _

end Sys2Proof.Machine
end

section
/-! SUPPORT. Every command acts as `Does` says, and so does every step but for the passing of time. -/

namespace Sys2Proof.Machine

open Sys2Proof

theorem configOnly_eq {m : Mode} (h : configOnly m = true) : m = .config := by simpa [configOnly] using h
theorem runOnly_eq {m : Mode} (h : runOnly m = true) : m = .run := by simpa [runOnly] using h
theorem configOrRun_ne {m : Mode} (h : configOrRun m = true) : m ≠ .safe := by simpa [configOrRun] using h
theorem runOrSafe_ne {m : Mode} (h : runOrSafe m = true) : m ≠ .config := by simpa [runOrSafe] using h
theorem exactly_eq {n k : Nat} (h : exactly n k = true) : k = n := by simpa [exactly] using h

/-- What a BOOST that is not refused found (R53). -/
theorem boostAllowed {i : Sled} {s : State} (hb : boostBusy i s = false) (h : boostBarred i s = false) :
    (s.run.books i).boost = .none ∧ (s.run.life i).state = .tracking ∧ (s.run.books i).grant < costAt s.cfg i 0
      ∧ (costAt s.cfg i 0 : Int) - (s.run.books i).grant ≤ s.run.headroom := by
  simp only [boostBarred, Bool.or_eq_false_iff, decide_eq_false_iff_not, bne_eq_false_iff_eq, Nat.not_le, Int.not_lt] at h
  obtain ⟨⟨⟨⟨-, tracking⟩, -⟩, grant⟩, headroom⟩ := h
  exact ⟨by simpa [boostBusy] using hb, tracking, grant, headroom⟩

section

variable {P : Cfg → Run → Prop} (settles : Settles P) {i : Instr}
  (does : ∀ c r c' r', Does c r i c' r' → P c r → P c' r')

include settles does in
/-- What a command's effect, the service after it and the notices preserve, the command preserves. -/
theorem exec_preserves {s t : State} (ht : exec i s = .next t) (h : P s.cfg s.run) : P t.cfg t.run := by
  have request {f : Frame} {wf isReset : Bool} {body : Body} (e : s.request f wf isReset body = .next t)
      (effect : ∀ u : State, Does u.cfg u.run i (body u).1.cfg (body u).1.run) : P t.cfg t.run :=
    State.request_preserves settles does effect e h
  have onRun {b : Bool} {g : Cfg → Run → Run} (e : s.runEvent b g = .next t)
      (effect : b = true → Does s.cfg s.run i s.cfg (g s.cfg s.run)) : P t.cfg t.run :=
    State.runEvent_preserves settles does effect e h
  have onLink {b : Bool} {g : State → State} (e : s.event b g = .next t)
      (effect : P s.cfg s.run → P (g s).cfg (g s).run) : P t.cfg t.run :=
    State.event_preserves settles (fun _ => effect) e h
  cases i with
  | powerOn => cases ht; exact does _ _ _ _ .powerOn h
  | rstNLow => cases ht; exact does _ _ _ _ .rstNLow h
  | resetRelease rate =>
    simp only [exec, execResetRelease] at ht
    split at ht <;> cases ht
    · exact State.finish_preserves settles (does _ _ _ _ (.resetRelease rate) h)
    · exact h
  | frameReceived b => exact onLink ht (State.takeLinkByte_preserves does b)
  | frameLengthDiscard b => exact onLink ht (State.raiseLink_preserves does .length (s := s.setParser .hunt none))
  | linkGapExpiry =>
    simp only [exec, execLinkGapExpiry] at ht
    exact onLink ht (State.raiseLink_preserves does .truncated (s := s.setParser .hunt none))
  | linkByteReceived b => exact onLink ht (State.takeLinkByte_preserves does b)
  | frameSent => exact onLink ht (does _ _ _ _ (State.frameEnds_does s))
  | unknownRequest tag type payload => exact request ht fun u => .keep _
  | identify tag payload => exact request ht fun u => .checked fun _ _ => .keep _
  | queryPart tag payload => exact request ht fun u => .checked fun _ _ => .keep _
  | setModeRun tag =>
    simp only [exec, execSetModeRun] at ht
    exact request ht fun u => .checked fun _ _ => .setModeRunBody tag u
  | setModeConfig tag =>
    simp only [exec, execSetModeConfig] at ht
    exact request ht fun u => .checked fun _ _ => .refuseIf fun hm => .toConfig tag (by simpa using hm)
  | setModeSafe tag payload => exact request ht fun u => .checked fun _ _ => .withChecks fun _ => .keep _
  | reset tag payload => exact request ht fun u => .checked fun _ _ => .keep _
  | writeGlobals tag payload =>
    exact request ht fun u => .checked fun hl hm => .withChecks fun hp =>
      .writeGlobals tag payload (configOnly_eq hm) (exactly_eq hl) hp
  | readGlobals tag payload => exact request ht fun u => .checked fun _ _ => .keep _
  | writeLevels tag payload =>
    simp only [exec, execWriteLevels] at ht
    exact request ht fun u => .checked fun hl hm => .withChecks fun hp => .writeLevels tag payload (configOnly_eq hm) hl hp
  | readLevels tag payload => exact request ht fun u => .checked fun _ _ => .keep _
  | writeSled tag payload =>
    exact request ht fun u => .checked fun hl hm => .withChecks fun hp =>
      .writeSled tag payload (configOnly_eq hm) (exactly_eq hl) hp
  | readSled tag payload => exact request ht fun u => .checked fun _ _ => .withChecks fun _ => .keep _
  | writeProbe tag payload =>
    exact request ht fun u => .checked fun hl hm => .withChecks fun hp =>
      .writeProbe tag payload (configOnly_eq hm) (exactly_eq hl) hp
  | readProbe tag payload => exact request ht fun u => .checked fun _ _ => .withChecks fun _ => .keep _
  | writeScript tag payload =>
    simp only [exec, execWriteScript] at ht
    refine request ht fun u => .checked fun _ hm => .withChecks fun _ => ?_
    simp only [carryOut]
    exact .writeScript tag payload (configOnly_eq hm)
  | readScript tag payload => exact request ht fun u => .checked fun _ _ => .withChecks fun _ => .keep _
  | writeRouting tag payload =>
    exact request ht fun u => .checked fun _ hm => .withChecks fun hp => .writeRouting tag payload (configOrRun_ne hm) hp
  | readRouting tag payload => exact request ht fun u => .checked fun _ _ => .keep _
  | setNotices tag payload =>
    exact request ht fun u => .checked fun _ hm => .withChecks fun _ => .setNotices tag payload (configOrRun_ne hm)
  | setPool tag payload =>
    simp only [exec, execSetPool] at ht
    exact request ht fun u => .checked fun _ _ => .withChecks fun _ => .refuseIf fun hs =>
      .setPool tag payload (Nat.not_lt.mp (of_decide_eq_false hs))
  | renewLease tag payload => exact request ht fun u => .checked fun _ _ => .renewLeaseBody tag payload u
  | setWant tag payload =>
    exact request ht fun u => .checked fun _ hm => .withChecks fun _ => .refuseIf fun hi =>
      .setWant tag payload _ _ _ (runOrSafe_ne hm) (by simpa using hi)
  | boost tag payload =>
    exact request ht fun u => .checked fun _ hm => .withChecks fun _ => .refuseIf fun _ => .refuseIf fun hb => .refuseIf fun ha =>
      have ⟨boost, tracking, grant, headroom⟩ := boostAllowed hb ha
      .startBoost tag payload _ _ (runOnly_eq hm) boost tracking grant headroom
  | releaseSled tag payload =>
    exact request ht fun u => .checked fun _ _ => .withChecks fun _ => .refuseIf fun _ => .refuseIf fun _ =>
      .release tag payload _
  | clearZone tag payload => exact request ht fun u => .checked fun _ _ => .refuseIf fun _ => .clearZone tag payload
  | resetLane tag payload =>
    exact request ht fun u => .checked fun _ _ => .withChecks fun _ => .refuseIf fun _ => .resetLane tag payload _
  | querySled tag payload => exact request ht fun u => .checked fun _ _ => .withChecks fun _ => .keep _
  | queryPool tag payload => exact request ht fun u => .checked fun _ _ => .keep _
  | queryProbe tag payload => exact request ht fun u => .checked fun _ _ => .withChecks fun _ => .queryProbe tag payload
  | queryLane tag payload => exact request ht fun u => .checked fun _ _ => .withChecks fun _ => .keep _
  | readAlert tag payload => exact request ht fun u => .checked fun _ _ => .withChecks fun _ => .keep _
  | readAlertAndClear tag sled =>
    simp only [exec, execReadAlertAndClear] at ht
    exact request ht fun u => .checked fun _ _ => .withChecks fun _ => .clearAlert tag sled _
  | readFaults tag payload => exact request ht fun u => .checked fun _ _ => .keep _
  | clearFaults tag payload => exact request ht fun u => .checked fun _ _ => .clearFaults tag payload
  | boundaryEvent sled => exact onRun ht fun hb => .boundary sled hb
  | carrierSectionEnd sled =>
    simp only [exec, execCarrierSectionEnd] at ht
    exact onRun ht fun _ => .sectionEnd sled
  | leaseExpiry => exact onRun ht fun hb => .expireLease hb
  | presenceLineChange sled level =>
    simp only [exec, execPresenceLineChange] at ht
    split at ht
    · cases ht; exact does _ _ _ _ (.setPrs sled level) h
    · exact onRun ht fun _ => .presenceLine sled level
  | presenceSettleExpiry sled =>
    simp only [exec, execPresenceSettleExpiry] at ht
    exact onRun ht fun _ => .settlePresence sled
  | admitCountExpiry sled =>
    simp only [exec, execAdmitCountExpiry] at ht
    exact onRun ht fun hb => .admissionExpired sled hb
  | zoneInputChange z level =>
    simp only [exec, execZoneInputChange] at ht
    split at ht
    · cases ht; exact does _ _ _ _ (.setZonePin z level) h
    · exact onRun ht fun _ => .zoneLine z level
  | zoneSettleExpiry z =>
    simp only [exec, execZoneSettleExpiry] at ht
    exact onRun ht fun _ => .settleZone z
  | zoneReleaseExpiry => exact onRun ht fun _ => .releaseExpired
  | alertLevelAccepted sled => exact onRun ht fun _ => .acceptSample sled
  | sustainReached sled =>
    simp only [exec, execSustainReached] at ht
    exact onRun ht fun _ => .sustain sled
  | stuckReached sled =>
    simp only [exec, execStuckReached] at ht
    exact onRun ht fun _ => .stick sled
  | hotPersistExpiry sled => exact onRun ht fun _ => .hotExpired sled
  | dueEvent p =>
    simp only [exec, execDueEvent] at ht
    exact onRun ht fun _ => .dueEvent p
  | initTransactionEnd n =>
    simp only [exec, execInitTransactionEnd] at ht
    exact onRun ht fun _ => .withPoll fun p => .initEnds n p
  | notAcknowledge n =>
    simp only [exec, execNotAcknowledge] at ht
    refine onRun ht fun _ => ?_
    split
    · exact .withPoll fun p => .notAcknowledged n _ p
    · exact .withPoll fun p => .notAcknowledged n _ p
  | settleExpiry n =>
    simp only [exec, execSettleExpiry] at ht
    exact onRun ht fun _ => .withPoll fun p => .settleEnds n p
  | waitExpiry n =>
    simp only [exec, execWaitExpiry] at ht
    exact onRun ht fun _ => .withPoll fun p => .waitEnds n p _
  | readTransactionEnd n b0 b1 =>
    simp only [exec, execReadTransactionEnd] at ht
    exact onRun ht fun _ => .withPoll fun p => .readEnds n b0 b1 p _
  | transactionTimeout n => exact onRun ht fun _ => .transactionExpired n
  | abortStopEnd n =>
    simp only [exec, execAbortStopEnd] at ht
    exact onRun ht fun _ => .abortEnds n
  | recoveryAttemptEnd n sda => exact onRun ht fun _ => .attemptChecked n sda
  | recoveryAttemptTimeout n =>
    simp only [exec, execRecoveryAttemptTimeout] at ht
    exact onRun ht fun _ => .attemptTimesOut n
  | alertSampleChange sled level =>
    simp only [exec, execAlertSampleChange] at ht
    split at ht
    · cases ht; exact does _ _ _ _ (.setAlr sled level) h
    · exact onRun ht fun _ => .sampleAlert sled level

end

/-! ## Steps -/

/-- What a step can be: a command on the state less what it took from a queue, or a turn of the part on its own. -/
theorem step_cases {s t : State} (h : step s = .next t) :
    (∃ i pending due free, exec i { s with pending := pending, due := due, run := { s.run with free := free } } = .next t)
      ∨ t = s ∨ t = s.refclk
      ∨ ∃ i due free, t = State.dropDue i { s with due := due, run := { s.run with free := free } } := by
  unfold step at h
  split at h
  · next i rest hp => exact .inl ⟨i, rest, s.due, s.run.free, h⟩
  · have due {u : State} (free : Nat) (hu : u = { s with run := { s.run with free := free } }) (h : runTurn u.takeDue = .next t) :
        (∃ i due, exec i { s with due := due, run := { s.run with free := free } } = .next t)
          ∨ t = u.refclk ∧ u.due = []
          ∨ ∃ i due, t = State.dropDue i { s with due := due, run := { s.run with free := free } } := by
      subst hu
      unfold State.takeDue at h
      split at h
      · next i rest hd =>
        split at h
        · exact .inl ⟨i, rest, h⟩
        · cases h; exact .inr (.inr ⟨i, rest, rfl⟩)
      · next hd => cases h; exact .inr (.inl ⟨rfl, hd⟩)
    have front {u : State} (free : Nat) (hu : u = { s with run := { s.run with free := free } }) (h : runTurn u.takeFront = .next t) :
        (∃ i, exec i { s with run := { s.run with free := free } } = .next t) ∨ t = u ∧ u.link.canTake = false := by
      subst hu
      unfold State.takeFront at h
      split at h
      · exact .inl ⟨_, h⟩
      · next hr =>
        cases h
        have e : s.link.rx = [] := hr
        exact .inr ⟨rfl, by simp [Link.canTake, e]⟩
    unfold State.ownTurn at h
    split at h
    · cases h; exact .inr (.inl rfl)
    · split at h
      · next take =>
        split at h
        · rcases front s.run.free rfl h with ⟨i, hi⟩ | ⟨rfl, -⟩
          · exact .inl ⟨i, s.pending, s.due, s.run.free, hi⟩
          · exact .inr (.inl rfl)
        · next notEmpty =>
          dsimp only at h
          split at h
          · rcases front (s.run.free + 1) rfl h with ⟨i, hi⟩ | ⟨-, no⟩
            · exact .inl ⟨i, s.pending, s.due, s.run.free + 1, hi⟩
            · exact absurd (no.symm.trans take) (by simp)
          · rcases due (s.run.free + 1) rfl h with ⟨i, d, hi⟩ | ⟨-, hd⟩ | ⟨i, d, hi⟩
            · exact .inl ⟨i, s.pending, d, s.run.free + 1, hi⟩
            · exact absurd (List.isEmpty_iff.mpr hd) notEmpty
            · exact .inr (.inr (.inr ⟨i, d, s.run.free + 1, hi⟩))
      · rcases due s.run.free rfl h with ⟨i, d, hi⟩ | ⟨rfl, -⟩ | ⟨i, d, hi⟩
        · exact .inl ⟨i, s.pending, d, s.run.free, hi⟩
        · exact .inr (.inr (.inl rfl))
        · exact .inr (.inr (.inr ⟨i, d, s.run.free, hi⟩))

/-- What the effects of the commands and the passing of time preserve, every step preserves. -/
theorem step_preserves {P : Cfg → Run → Prop} (settles : Settles P) (does : ∀ c r i c' r', Does c r i c' r' → P c r → P c' r')
    (free : ∀ c r n, P c r → P c { r with free := n })
    (lease : ∀ c r n, P c r → P c { r with pool := { r.pool with leaseRemaining := n } })
    (refclk : ∀ s : State, P s.cfg s.run → P s.cfg s.refclk.run) {s t : State} (ht : step s = .next t)
    (h : P s.cfg s.run) : P t.cfg t.run := by
  rcases step_cases ht with ⟨i, pending, due, n, hi⟩ | rfl | rfl | ⟨i, due, n, rfl⟩
  · exact exec_preserves settles (fun c r => does c r i) hi (free _ _ _ h)
  · exact h
  · have e : s.refclk.cfg = s.cfg := by unfold State.refclk; dsimp only; split <;> split <;> rfl
    rw [e]; exact refclk s h
  · rw [State.dropDue_frame]
    exact lease _ _ _ (free _ _ _ h)

end Sys2Proof.Machine
end

section
/-! SUPPORT. Invariants that follow from the effects of the commands alone: no well-formed command stops, the configuration
changes only by its writes, and every step ends at rest with its lanes served. -/

namespace Sys2Proof.Machine

open Sys2Proof

/-! ## Commands go on -/

/-- A request command is received and answered in the one way of all requests (R164 to R167). -/
theorem exec_eq_request {c : Instr} {f : Frame} (h : frameOf c = some f) :
    ∃ isReset body, ∀ s, exec c s = s.request f c.wf isReset body := by
  cases c <;> first | (cases h; exact ⟨_, _, fun _ => rfl⟩) | cases h

/-- What an event comes to: its effect and the end of the event, nothing, a pin's level and no more, or the reset in force. -/
theorem exec_event_cases {c : Instr} (h : frameOf c = none) (s : State) :
    (∃ u, exec c s = .next (State.finish u)) ∨ exec c s = .next s
      ∨ (∃ r, exec c s = .next { s with run := r } ∧ r.arbiterDue = s.run.arbiterDue ∧ r.notices = s.run.notices)
      ∨ exec c s = .next s.hold := by
  have onEvent (b : Bool) (g : State → State) {p q : Prop} :
      (∃ u, s.event b g = .next (State.finish u)) ∨ s.event b g = .next s ∨ p ∨ q :=
    (s.event_next b g).imp (fun e => ⟨_, e⟩) .inl
  have onRun (b : Bool) (g : Cfg → Run → Run) {p q : Prop} :
      (∃ u, s.runEvent b g = .next (State.finish u)) ∨ s.runEvent b g = .next s ∨ p ∨ q := onEvent ..
  cases c <;> simp only [exec]
  case powerOn => exact .inr (.inr (.inr rfl))
  case rstNLow => exact .inr (.inr (.inr rfl))
  case resetRelease rate =>
    unfold execResetRelease
    split
    · exact .inl ⟨_, rfl⟩
    · exact .inr (.inl rfl)
  case presenceLineChange i l =>
    unfold execPresenceLineChange
    split
    · exact .inr (.inr (.inl ⟨_, rfl, rfl, rfl⟩))
    · exact onRun ..
  case zoneInputChange z l =>
    unfold execZoneInputChange
    split
    · exact .inr (.inr (.inl ⟨_, rfl, rfl, rfl⟩))
    · exact onRun ..
  case alertSampleChange i l =>
    unfold execAlertSampleChange
    split
    · exact .inr (.inr (.inl ⟨_, rfl, rfl, rfl⟩))
    · exact onRun ..
  all_goals first | exact onRun .. | exact onEvent .. | cases h

/-- An event always goes on. -/
theorem exec_event_next {c : Instr} (h : frameOf c = none) (s : State) : ∃ t, exec c s = .next t := by
  rcases exec_event_cases h s with ⟨_, e⟩ | e | ⟨_, e, -⟩ | e <;> exact ⟨_, e⟩

/-- An event is well-formed as it stands. -/
theorem wf_of_event {c : Instr} (h : frameOf c = none) : c.wf = true := by
  cases c <;> first | rfl | cases h

/-! ## The configuration -/

/-- The commands that can change the configuration. -/
def configures : Instr → Bool
  | .powerOn | .rstNLow | .resetRelease _ | .writeGlobals _ _ | .writeLevels _ _ | .writeSled _ _ | .writeProbe _ _
  | .writeScript _ _ | .writeRouting _ _ | .setNotices _ _ => true
  | _ => false

theorem Does.cfg_eq {c c' : Cfg} {r r' : Run} {i : Instr} (h : Does c r i c' r') (hi : configures i = false) : c' = c := by
  cases h <;> first | exact nomatch (show true = false from hi) | rfl

theorem exec_cfg {i : Instr} {s t : State} (hi : configures i = false) (h : exec i s = .next t) : t.cfg = s.cfg :=
  exec_preserves (P := fun c _ => c = s.cfg) ⟨fun _ _ _ => id, fun _ _ => id⟩
    (fun _ _ _ _ d hc => (d.cfg_eq hi).trans hc) h rfl

/-! ## The lanes -/

theorem Run.lanesServed_initial (c : Cfg) (k : Cause) (cl : Clock) (po : Pool) (prs alr : Sled → Pin) (zone : ZoneNo → Pin)
    (b : Bool) (n : Nat) : (Run.initial c k cl po prs alr zone b n).lanesServed := by
  intro m _; simp [Run.initial, Run.lane, Lane.initial]

end Sys2Proof.Machine

open Sys2Proof Sys2Proof.Machine

/-- Settles O4: a command is an event, which always goes on, or a request, which stops exactly where it is ill-formed. -/
theorem commandsStopOnlyWhenIllFormed : Obligations.CommandsStopOnlyWhenIllFormed := by
  unfold Obligations.CommandsStopOnlyWhenIllFormed
  intro c s
  cases hf : frameOf c with
  | none => exact ⟨fun _ => exec_event_next hf s, fun hw => by rw [wf_of_event hf] at hw; cases hw⟩
  | some f =>
    obtain ⟨isReset, body, request⟩ := exec_eq_request hf
    rw [request]
    exact ⟨fun hw => hw ▸ State.request_next f isReset body s, fun hw => hw ▸ State.request_illFormed f isReset body s⟩

/-- Settles O11: of the effects of the commands only the configuration writes and the pin resets give another configuration. -/
theorem configurationChangesOnlyByItsWrites : Obligations.ConfigurationChangesOnlyByItsWrites := by
  unfold Obligations.ConfigurationChangesOnlyByItsWrites
  intro c s t h
  split <;> first | trivial | exact exec_cfg (by cases c <;> first | rfl | simp_all) h
end

section
/-! SUPPORT. One REFCLK period, field by field (R1 to R4): what a T-tick and an ms tick leave of each record, and what is due. -/

namespace Sys2Proof.Machine

open Sys2Proof

/-! ## Ticks -/

/-- Whether the next REFCLK period brings a T-tick. -/
abbrev State.tTicks (s : State) : Prop := s.cfg.globals.prescale ≤ s.run.clock.prescaleCount + 1

/-- Whether the next REFCLK period brings an ms tick. -/
abbrev State.msTicks (s : State) : Prop := 16000 ≤ s.run.clock.msCount + 1

theorem divide_count (n k : Nat) : (divide n k).1 = if n ≤ k + 1 then 0 else k + 1 := by
  unfold divide
  split <;> split <;> first | rfl | omega

theorem State.tTicks_iff (s : State) : (divide s.cfg.globals.prescale s.run.clock.prescaleCount).2 = true ↔ s.tTicks :=
  divide_ticks_iff ..

theorem State.msTicks_iff (s : State) : (divide Config.refclkPerMs s.run.clock.msCount).2 = true ↔ s.msTicks :=
  divide_ticks_iff ..

/-- A count after a period in which it runs (R2). -/
abbrev State.fell (s : State) (n : Count) : Count := if s.msTicks then n.map (· - 1) else n

theorem Count.down_eq (n : Count) : n.down = n.map (· - 1) := by
  match n with
  | none => rfl
  | some 0 => rfl
  | some (k + 1) => rfl

theorem Count.expired_iff (n : Count) : n.expired = true ↔ n = some 0 := by simp [Count.expired]

/-- One period: the dividers, then the ticks they make, then the list of what is due. -/
theorem State.refclk_eq (s : State) :
    ∃ due, s.refclk = { s with
      due := due
      link := { s.link with gap := s.fell s.link.gap }
      run :=
        (let r := { s.run with clock := { s.run.clock with
            prescaleCount := if s.tTicks then 0 else s.run.clock.prescaleCount + 1
            msCount := if s.msTicks then 0 else s.run.clock.msCount + 1 } }
         let r := if s.tTicks then r.tTick s.cfg else r
         if s.msTicks then r.msTick s.cfg else r).spendFree } := by
  have ht := s.tTicks_iff
  have hm := s.msTicks_iff
  refine ⟨s.refclk.due, ?_⟩
  by_cases t : s.tTicks <;> by_cases m : s.msTicks <;>
    · simp only [State.refclk, ht, hm, t, m, if_true, if_false, divide_count, State.fell, State.msTick, Count.down_eq]
      simp only [State.msTicks] at m
      simp only [m, Config.refclkPerMs, if_true, if_false]

/-! ## The records after a period -/

theorem Channel.tick_eq (x : Channel) : x.tick = { x with ticks := if x.carrier ≠ .idle then x.ticks - 1 else x.ticks } := by
  unfold Channel.tick
  by_cases h : x.carrier = .idle
  · rw [if_pos (by simp [h]), if_neg (not_not_intro h)]
  · rw [if_neg (by simp [h]), if_pos h]

theorem Alert.tick_eq (a : Alert) :
    a.tick = { a with run := if a.pin = a.lastSample ∧ a.run < 15 then a.run + 1 else a.run } := by
  unfold Alert.tick satSucc
  by_cases h : a.pin = a.lastSample <;> by_cases k : a.run < 15 <;> simp [h, k]

theorem Alert.msTick_eq (g : Globals) (a : Alert) :
    a.msTick g = { a with width := (a.msTick g).width, total := (a.msTick g).total, tickOwed := (a.msTick g).tickOwed } := by
  unfold Alert.msTick
  split
  · split <;> rfl
  · rfl

theorem SledRun.msTick_eq (g : Globals) (works : Bool) (x : SledRun) :
    x.msTick g works =
      { x with
        life := { x.life with
          settle := x.life.settle.map (· - 1)
          admission := if x.life.state = .admitting ∧ works = true then x.life.admission.map (· - 1) else x.life.admission }
        therm := { x.therm with
          hotPersist := if x.therm.state = .hot ∧ works = true then x.therm.hotPersist.map (· - 1) else x.therm.hotPersist }
        alert := x.alert.msTick g } := by
  unfold SledRun.msTick
  simp only [Count.down_eq, Bool.and_eq_true, beq_iff_eq]

theorem Lane.msTick_eq (y : Lane) :
    y.msTick = { y with
      transaction := y.transaction.map (· - 1)
      attempt := y.attempt.map (· - 1)
      poll := match y.poll with
        | .poll q => .poll { q with timer := q.timer.map (· - 1) }
        | .absent => .absent
        | .aborting => .aborting } := by
  unfold Lane.msTick
  simp only [Count.down_eq] <;> cases y.poll <;> rfl

theorem Zone.msTick_eq (z : Zone) :
    z.msTick = { z with
      release := if z.state = .releasing then z.release.map (· - 1) else z.release
      filters := z.msTick.filters } := by
  unfold Zone.msTick
  by_cases h : z.state = .releasing <;> simp [h, Count.down_eq]

/-- A sled's records after a period. -/
theorem State.refclk_sled (s : State) (i : Sled) :
    s.refclk.run.sleds.get i =
      let x := if s.tTicks then
        { s.run.sleds.get i with chan := (s.run.sleds.get i).chan.tick, alert := (s.run.sleds.get i).alert.tick }
        else s.run.sleds.get i
      if s.msTicks then x.msTick s.cfg.globals s.run.mode.works else x := by
  obtain ⟨due, h⟩ := s.refclk_eq
  rw [h]
  by_cases t : s.tTicks <;> by_cases m : s.msTicks <;> simp [t, m, Run.msTick, Run.tTick, Run.spendFree]

/-- Where a count does not run at a period, it stays. -/
theorem State.fell_of_not {s : State} (h : ¬s.msTicks) (n : Count) : s.fell n = n := if_neg h

theorem State.fell_of {s : State} (h : s.msTicks) (n : Count) : s.fell n = n.map (· - 1) := if_pos h

/-- A sled's records after a period, count by count; the widths of an assertion are those of the ms tick. -/
theorem State.refclk_sled_counts (s : State) (i : Sled) :
    let x := s.run.sleds.get i
    let a := s.refclk.run.alert i
    s.refclk.run.sleds.get i =
        { x with
          chan := { x.chan with ticks := if s.tTicks ∧ x.chan.carrier ≠ .idle then x.chan.ticks - 1 else x.chan.ticks }
          life :=
            { x.life with
              settle := s.fell x.life.settle
              admission :=
                if x.life.state = .admitting ∧ s.run.mode ≠ .config then s.fell x.life.admission else x.life.admission }
          therm :=
            { x.therm with
              hotPersist :=
                if x.therm.state = .hot ∧ s.run.mode ≠ .config then s.fell x.therm.hotPersist else x.therm.hotPersist }
          alert :=
            { x.alert with
              run := if s.tTicks ∧ x.alert.pin = x.alert.lastSample ∧ x.alert.run < 15 then x.alert.run + 1 else x.alert.run
              width := a.width, total := a.total, tickOwed := a.tickOwed } }
      ∧ (¬s.msTicks → a.width = x.alert.width ∧ a.total = x.alert.total ∧ a.tickOwed = x.alert.tickOwed) := by
  intro x a
  have ha : a = (s.refclk.run.sleds.get i).alert := rfl
  have sled := s.refclk_sled i
  dsimp only at sled
  constructor
  · by_cases t : s.tTicks <;> by_cases m : s.msTicks
    all_goals
      simp only [t, m, if_true, if_false, SledRun.msTick_eq, Channel.tick_eq, Alert.tick_eq, Mode.works_iff] at sled
      rw [ha, sled]
      simp only [t, State.fell_of, State.fell_of_not, m, not_false_eq_true, true_and, false_and, if_false, ite_self]
    · rw [Alert.msTick_eq]
    · simp [x]
    · rw [Alert.msTick_eq]
    · rfl
  · intro m
    rw [ha, sled, if_neg m]
    by_cases t : s.tTicks
    · rw [if_pos t]
      simp [Alert.tick_eq, x]
    · rw [if_neg t]
      exact ⟨rfl, rfl, rfl⟩

theorem State.refclk_lane (s : State) (n : LaneNo) :
    s.refclk.run.lane n = { s.run.lane n with
      transaction := s.fell (s.run.lane n).transaction
      attempt := s.fell (s.run.lane n).attempt
      poll := match (s.run.lane n).poll with
        | .poll q => .poll { q with timer := s.fell q.timer }
        | .absent => .absent
        | .aborting => .aborting } := by
  have lane : s.refclk.run.lane n = if s.msTicks then (s.run.lane n).msTick else s.run.lane n := by
    obtain ⟨due, h⟩ := s.refclk_eq
    rw [h]
    by_cases t : s.tTicks <;> by_cases m : s.msTicks <;> simp [t, m, Run.msTick, Run.tTick, Run.spendFree, Run.lane]
  rw [lane]
  generalize s.run.lane n = y
  obtain ⟨state, queue, poll, transaction, attempt, attempts, timeouts, recoveries, clock, scl, sda⟩ := y
  by_cases m : s.msTicks
  · rw [if_pos m, Lane.msTick_eq]
    simp only [State.fell_of m]
  · rw [if_neg m]
    simp only [State.fell_of_not m]
    cases poll <;> rfl

theorem State.refclk_probe (s : State) (p : Probe) :
    s.refclk.run.probe p
      = { s.run.probe p with due := if s.run.mode ≠ .config then s.fell (s.run.probe p).due else (s.run.probe p).due } := by
  obtain ⟨due, h⟩ := s.refclk_eq
  rw [h]
  by_cases w : s.run.mode = .config <;> by_cases t : s.tTicks <;> by_cases m : s.msTicks <;>
    simp [t, m, w, Mode.works_iff, Run.msTick, Run.tTick, Run.spendFree, Run.probe, State.fell, Count.down_eq]

theorem State.refclk_filter (s : State) (z : ZoneNo) :
    s.refclk.run.zone.filters.get z
      = { s.run.zone.filters.get z with settle := s.fell (s.run.zone.filters.get z).settle } := by
  obtain ⟨due, h⟩ := s.refclk_eq
  rw [h]
  by_cases t : s.tTicks <;> by_cases m : s.msTicks <;>
    simp [t, m, Run.msTick, Run.tTick, Run.spendFree, State.fell, Zone.msTick, Count.down_eq]

/-- The lease's tick, in the words of R29. -/
theorem Run.leaseTick_eq (r : Run) :
    r.leaseTick = { r.pool with
      leaseRemaining := if (r.pool.leaseState = .running ∧ r.mode ≠ .config) ∧ 1 < r.pool.leaseRemaining
        then r.pool.leaseRemaining - 1 else r.pool.leaseRemaining } := by
  unfold Run.leaseTick
  by_cases hc : r.leaseCounts = true <;> by_cases h : 1 < r.pool.leaseRemaining
  · rw [Run.leaseEnds_of_lt h, if_pos (by simp [hc]), if_pos ⟨r.leaseCounts_iff.mp hc, h⟩]
  · rw [r.leaseEnds_iff.mpr ⟨hc, Nat.not_lt.mp h⟩, if_neg (by simp), if_neg (fun k => h k.2)]
  · rw [if_neg (by simp [hc]), if_neg (fun k => hc (r.leaseCounts_iff.mpr k.1))]
  · rw [if_neg (by simp [hc]), if_neg (fun k => h k.2)]

/-- Everything of the running part that is no vector of records, after a period. -/
theorem State.refclk_run (s : State) :
    s.refclk.run =
      { s.run with
        clock :=
          { prescaleCount := if s.tTicks then 0 else s.run.clock.prescaleCount + 1
            msCount := if s.msTicks then 0 else s.run.clock.msCount + 1
            frame := if s.tTicks then (if s.run.clock.frame + 1 < s.cfg.globals.frameTicks then s.run.clock.frame + 1 else 0)
              else s.run.clock.frame
            stamp := if s.msTicks then s.run.clock.stamp + 1 else s.run.clock.stamp }
        pool := { s.run.pool with
          leaseRemaining :=
            if s.msTicks ∧ (s.run.pool.leaseState = .running ∧ s.run.mode ≠ .config) ∧ 1 < s.run.pool.leaseRemaining
            then s.run.pool.leaseRemaining - 1 else s.run.pool.leaseRemaining }
        zone := { s.run.zone with
          release := if s.run.zone.state = .releasing then s.fell s.run.zone.release else s.run.zone.release
          filters := s.refclk.run.zone.filters }
        sleds := s.refclk.run.sleds, lanes := s.refclk.run.lanes, probes := s.refclk.run.probes
        free := s.refclk.run.free } := by
  obtain ⟨due, h⟩ := s.refclk_eq
  rw [h]
  by_cases t : s.tTicks <;> by_cases m : s.msTicks
  all_goals simp only [t, m, if_true, if_false, true_and, false_and, State.fell, ite_self, Run.msTick, Run.tTick, Run.spendFree,
    nextFrame]
  · rw [Zone.msTick_eq, Run.leaseTick_eq]
  · rw [Zone.msTick_eq, Run.leaseTick_eq]

end Sys2Proof.Machine
end

section
/-! SUPPORT. What a period makes due (R4): the events of its ticks whose condition then holds. -/

namespace Sys2Proof.Machine

open Sys2Proof

theorem State.refclk_mem_due_of_t {s : State} {e : Instr} (ht : e ∈ tEvents s.refclk.run) (hm : e ∉ msEvents s.run) :
    e ∈ s.refclk.due ↔ s.tTicks ∧ isDue s.refclk e = true := by
  rw [State.mem_refclk_due, s.tTicks_iff, s.msTicks_iff]
  simp [ht, hm]

theorem State.refclk_mem_due_of_ms {s : State} {e : Instr} (ht : e ∉ tEvents s.refclk.run) (hm : e ∈ msEvents s.run) :
    e ∈ s.refclk.due ↔ s.msTicks ∧ isDue s.refclk e = true := by
  rw [State.mem_refclk_due, s.tTicks_iff, s.msTicks_iff]
  simp [ht, hm]

theorem State.refclk_not_due {s : State} {e : Instr} (h : isDue s.refclk e = false) : e ∉ s.refclk.due := by
  rw [State.mem_refclk_due, h]
  simp

@[simp] theorem State.refclk_cfg (s : State) : s.refclk.cfg = s.cfg := by
  obtain ⟨due, h⟩ := s.refclk_eq
  rw [h]

theorem mem_tEvents (r : Run) (e : Instr) :
    e ∈ tEvents r ↔ ∃ i, e = .carrierSectionEnd i ∨ e = .boundaryEvent i ∨ e = .alertSampleChange i (r.alert i).pin
      ∨ e = .alertLevelAccepted i := by
  simp [tEvents, allSleds]

theorem Run.pollIn_expired {r : Run} {n : LaneNo} {k : Phase} :
    ((r.pollIn n k).map fun p => p.timer.expired).getD false = true
      ↔ ∃ q, (r.lane n).poll = .poll q ∧ q.phase = k ∧ q.timer = some 0 := by
  cases h : r.pollIn n k with
  | none =>
    have none_of {q : Poll} (hq : (r.lane n).poll = .poll q) (hk : q.phase = k) : False := by
      rw [Run.pollIn_eq_some.mpr ⟨hq, hk⟩] at h; cases h
    simpa using fun q hq hk => (none_of hq hk).elim
  | some p =>
    obtain ⟨hp, hk⟩ := Run.pollIn_eq_some.mp h
    constructor
    · exact fun he => ⟨p, hp, hk, p.timer.expired_iff.mp he⟩
    · rintro ⟨q, hq, -, ht⟩
      cases hp.symm.trans hq
      exact p.timer.expired_iff.mpr ht

/-- The lease's expiry is due at the tick that is the last of the count (R29). -/
theorem State.leaseExpiry_mem_due_iff (s : State) :
    .leaseExpiry ∈ s.refclk.due
      ↔ s.msTicks ∧ (s.run.pool.leaseState = .running ∧ s.run.mode ≠ .config) ∧ s.run.pool.leaseRemaining ≤ 1 := by
  rw [← s.run.leaseCounts_iff, ← s.run.leaseEnds_iff]
  constructor
  · intro h
    rw [State.mem_refclk_due, s.tTicks_iff, s.msTicks_iff, mem_tEvents] at h
    obtain ⟨⟨-, i, hi⟩ | ⟨hm, hl⟩, -⟩ := h
    · rcases hi with hi | hi | hi | hi <;> cases hi
    · exact ⟨hm, by simpa [msEvents] using hl⟩
  · exact fun ⟨hm, he⟩ => State.leaseExpiry_mem_refclk_due hm he

end Sys2Proof.Machine

open Sys2Proof Sys2Proof.Machine

/-- Settles O3: the dividers and the counts record by record, then what is due event by event. -/
theorem refclkAdvancesTheTimebases : Obligations.RefclkAdvancesTheTimebases := by
  unfold Obligations.RefclkAdvancesTheTimebases
  intro s t r₀ r k g tTicks msTicks works leaseRuns fell
  have mode : r.mode = s.run.mode := s.refclk_mode
  have works_iff : t.run.mode.works = true ↔ works := by rw [show t.run.mode = s.run.mode from mode]; exact Mode.works_iff _
  have filters := s.refclk_filter
  have cfg : t.cfg = s.cfg := s.refclk_cfg
  refine ⟨?_, s.refclk_run, filters, s.refclk_sled_counts, s.refclk_lane, s.refclk_probe, fun e => ?_⟩
  · obtain ⟨due, h⟩ := s.refclk_eq
    show s.refclk = { s with link := _, run := s.refclk.run, due := s.refclk.due }
    rw [h]
  · have onT (ht : e ∈ tEvents r) (hm : e ∉ msEvents s.run) {p : Prop} (h : isDue t e = true ↔ p) :
        e ∈ t.due ↔ tTicks ∧ p := (State.refclk_mem_due_of_t ht hm).trans (and_congr_right' h)
    have onMs (hm : e ∈ msEvents s.run) (ht : e ∉ tEvents r) {p : Prop} (h : isDue t e = true ↔ p) :
        e ∈ t.due ↔ msTicks ∧ p := (State.refclk_mem_due_of_ms ht hm).trans (and_congr_right' h)
    have never (h : isDue t e = false) : e ∈ t.due ↔ False := iff_of_false (State.refclk_not_due h) id
    have notT {j : Instr} (h : ∀ i l, j ≠ .carrierSectionEnd i ∧ j ≠ .boundaryEvent i ∧ j ≠ .alertSampleChange i l
        ∧ j ≠ .alertLevelAccepted i) : j ∉ tEvents r := by
      rw [mem_tEvents]
      rintro ⟨i, rfl | rfl | rfl | rfl⟩ <;> simp at h
    cases e
    case boundaryEvent i => exact onT (by simp [mem_tEvents]) (by simp [msEvents]) (by simp [isDue, Run.hasBoundary, r, cfg])
    case carrierSectionEnd i => exact onT (by simp [mem_tEvents]) (by simp [msEvents]) (by simp [isDue, Run.carrierRuns, r])
    case alertSampleChange i l =>
      by_cases h : (r.alert i).pin = l
      · exact onT (by simp [mem_tEvents, h]) (by simp [msEvents]) (by simp [isDue, r])
      · exact (never (by simp [isDue, r] at h ⊢; simp [h])).trans (iff_of_false id fun k => h k.2.1)
    case alertLevelAccepted i =>
      exact onT (by simp [mem_tEvents]) (by simp [msEvents]) (by simp [isDue, Run.alertMoves, r, cfg, g, and_assoc])
    case leaseExpiry => exact s.leaseExpiry_mem_due_iff
    case presenceSettleExpiry i => exact onMs (by simp [msEvents, allSleds]) (notT (by simp)) (Count.expired_iff _)
    case admitCountExpiry i =>
      refine onMs (by simp [msEvents, allSleds]) (notT (by simp)) ?_
      simp only [isDue, Run.admissionCounts, Bool.and_eq_true, beq_iff_eq, Count.expired_iff, works_iff]
      constructor
      · exact fun ⟨⟨⟨k, _⟩, w⟩, h⟩ => ⟨k, w, h⟩
      · exact fun ⟨k, w, h⟩ => ⟨⟨⟨k, Option.isSome_iff_exists.mpr ⟨0, h⟩⟩, w⟩, h⟩
    case zoneSettleExpiry z =>
      exact onMs (by match z with | 0 => simp [msEvents] | 1 => simp [msEvents]) (notT (by simp)) (Count.expired_iff _)
    case zoneReleaseExpiry =>
      refine onMs (by simp [msEvents]) (notT (by simp)) ?_
      simp only [isDue, Run.releaseCounts, Bool.and_eq_true, beq_iff_eq, Count.expired_iff]
      constructor
      · exact fun ⟨⟨k, _⟩, h⟩ => ⟨k, h⟩
      · exact fun ⟨k, h⟩ => ⟨⟨k, Option.isSome_iff_exists.mpr ⟨0, h⟩⟩, h⟩
    case sustainReached i =>
      exact onMs (by simp [msEvents, allSleds]) (notT (by simp)) (by simp [isDue, Run.canSustain, r, cfg, g, and_assoc])
    case stuckReached i =>
      exact onMs (by simp [msEvents, allSleds]) (notT (by simp)) (by simp [isDue, Run.canStick, r, cfg, g, and_assoc])
    case hotPersistExpiry i =>
      refine onMs (by simp [msEvents, allSleds]) (notT (by simp)) ?_
      simp only [isDue, Run.hotCounts, Bool.and_eq_true, beq_iff_eq, Count.expired_iff, works_iff]
      constructor
      · exact fun ⟨⟨⟨k, _⟩, w⟩, h⟩ => ⟨k, w, h⟩
      · exact fun ⟨k, w, h⟩ => ⟨⟨⟨k, Option.isSome_iff_exists.mpr ⟨0, h⟩⟩, w⟩, h⟩
    case dueEvent p =>
      refine onMs (by simp [msEvents, allProbes]) (notT (by simp)) ?_
      simp only [isDue, Bool.and_eq_true, Count.expired_iff, works_iff]
      exact and_comm
    case settleExpiry n => exact onMs (by simp [msEvents, allLanes]) (notT (by simp)) Run.pollIn_expired
    case waitExpiry n => exact onMs (by simp [msEvents, allLanes]) (notT (by simp)) Run.pollIn_expired
    case transactionTimeout n =>
      exact onMs (by simp [msEvents, allLanes]) (notT (by simp)) (by simp [isDue, Count.expired_iff, r])
    case recoveryAttemptTimeout n =>
      refine onMs (by simp [msEvents, allLanes]) (notT (by simp)) ?_
      simp only [isDue, Run.recovering, Bool.and_eq_true, beq_iff_eq, Count.expired_iff]
      constructor
      · exact fun ⟨⟨k, _⟩, h⟩ => ⟨k, h⟩
      · exact fun ⟨k, h⟩ => ⟨⟨k, Option.isSome_iff_exists.mpr ⟨0, h⟩⟩, h⟩
    case linkGapExpiry => exact onMs (by simp [msEvents]) (notT (by simp)) (Count.expired_iff _)
    all_goals exact never rfl
end

section
/-! SUPPORT. What the commands do to the active levels (R13, R16) and to the lanes (R115), effect by effect. -/

namespace Sys2Proof.Machine

open Sys2Proof

/-! ## Active levels -/

theorem Run.Evolves.active {r t : Run} (h : Run.Evolves r t) (j : Sled) : (t.chan j).active = (r.chan j).active := by
  obtain ⟨b, hb⟩ := h.chan j
  rw [hb]

theorem Run.Quiet.active {r t : Run} (h : Run.Quiet r t) (j : Sled) : (t.chan j).active = (r.chan j).active :=
  h.evolves.active j

theorem Run.modChan_active_of_keeps {r : Run} {i : Sled} {f : Channel → Channel} (h : ∀ x, (f x).active = x.active) (j : Sled) :
    ((r.modChan i f).chan j).active = (r.chan j).active := by
  rw [Run.modChan_chan]
  split
  · next e => rw [h, e]
  · rfl

theorem Run.mapSleds_active {r t : Run} {f : Sled → SledRun → SledRun} (ht : t.sleds = mapAt f r.sleds)
    (h : ∀ i x, (f i x).chan.active = x.chan.active) (j : Sled) : (t.chan j).active = (r.chan j).active := by
  simp [Run.chan, ht, h]

theorem Channel.sectionEnd_active (x : Channel) : x.sectionEnd.active = x.active := by
  unfold Channel.sectionEnd
  split
  · rfl
  · split <;> rfl
  · rfl

theorem Run.initial_active (c : Cfg) (k : Cause) (cl : Clock) (po : Pool) (prs alr : Sled → Pin) (zone : ZoneNo → Pin)
    (b : Bool) (n : Nat) (j : Sled) : ((Run.initial c k cl po prs alr zone b n).chan j).active = 15 := by
  simp [Run.initial, Run.chan, SledRun.initial, Channel.initial]

theorem Run.setZone_active (k : ZoneState) (n : Count) (r : Run) (j : Sled) :
    ((r.setZone k n).chan j).active = (r.chan j).active := rfl

theorem Run.endEmergency_active (c : Cfg) (r : Run) (j : Sled) : ((r.endEmergency c).chan j).active = (r.chan j).active := by
  unfold Run.endEmergency
  refine ((Run.Quiet.post ..).trans (.refreshHeld ..)).active j |>.trans ?_
  split <;> rfl

theorem Run.assertZone_active (c : Cfg) (z : ZoneNo) (r : Run) (j : Sled) :
    ((r.assertZone c z).chan j).active = (r.chan j).active := by
  have raised := ((Run.Quiet.raise c .zoneAlarm (.zoneInput z) r.zone.state.code (r.setZone .emergency none)).trans
    (.post c .zone _)).active j
  unfold Run.assertZone
  dsimp only
  split
  · exact raised
  · split
    · exact (((Run.Quiet.endAllBoosts _).trans (.refreshHeld c _)).active j).trans raised
    · exact raised

theorem Run.deassertZone_active (c : Cfg) (r : Run) (j : Sled) :
    ((r.deassertZone c).chan j).active = (r.chan j).active := by
  unfold Run.deassertZone
  split
  · split
    · exact r.endEmergency_active c j
    · exact (Run.Quiet.post c .zone r).active j
  · rfl
  · rfl

theorem Run.zoneFieldChange_active (c d : Cfg) (z : ZoneNo) (r : Run) (j : Sled) :
    ((r.zoneFieldChange c d z).chan j).active = (r.chan j).active := by
  unfold Run.zoneFieldChange
  split
  · exact r.assertZone_active d z j
  · exact r.deassertZone_active d j
  · rfl
  · rfl

theorem Run.zoneWrite_active (c d : Cfg) (r : Run) (j : Sled) : ((r.zoneWrite c d).chan j).active = (r.chan j).active := by
  have fields := (Run.zoneFieldChange_active c d 1 (r.zoneFieldChange c d 0) j).trans (r.zoneFieldChange_active c d 0 j)
  unfold Run.zoneWrite
  dsimp only
  split
  · exact (Run.endEmergency_active ..).trans fields
  · exact fields

theorem Run.globalsWritten_active (c : Cfg) (g : Globals) (r : Run) (j : Sled) :
    ((r.globalsWritten c g).chan j).active = (r.chan j).active := by
  unfold Run.globalsWritten
  dsimp only
  refine (Run.zoneWrite_active ..).trans ?_
  have restart (r : Run) : (r.restartFrame.chan j).active = (r.chan j).active :=
    Run.mapSleds_active (f := fun _ x => { x with chan := Channel.idle x.chan }) rfl (by intros; rfl) j
  have load (n : Nat) (r : Run) : ((r.loadDwells n).chan j).active = (r.chan j).active :=
    Run.mapSleds_active (f := fun _ x => { x with chan := { x.chan with dwell := n } }) rfl (by intros; rfl) j
  split <;> split <;> simp only [restart, load]

theorem Run.settleZone_active (c : Cfg) (z : ZoneNo) (r : Run) (j : Sled) :
    ((r.settleZone c z).chan j).active = (r.chan j).active := by
  unfold Run.settleZone
  dsimp only
  split
  · rfl
  · split
    · exact Run.assertZone_active ..
    · exact Run.deassertZone_active ..

theorem Run.followed_active (c : Cfg) (i : Sled) {f : Alert → Alert} (r : Run) (j : Sled) :
    (((r.modAlert i f).followAlert c i).chan j).active = (r.chan j).active :=
  ((Run.Evolves.followAlert ..).active j).trans (by simp)

theorem Run.acceptAlert_active (c : Cfg) (i : Sled) (r : Run) (j : Sled) :
    ((r.acceptAlert c i).chan j).active = (r.chan j).active := Run.followed_active c i r j

theorem Run.resizePool_active (c : Cfg) (n : Nat) (r : Run) (j : Sled) :
    ((r.resizePool c n).chan j).active = (r.chan j).active :=
  ((Run.Quiet.revoke c { r with pool := { r.pool with size := n } }).trans (.triggerIf ..)).active j

theorem Run.expireLease_active (c : Cfg) (r : Run) (j : Sled) : ((r.expireLease c).chan j).active = (r.chan j).active :=
  (((Run.Quiet.raise ..).trans (.post ..)).active j).trans (Run.resizePool_active c _ r j)

theorem Run.setPool_active (x : PoolSetting) (c : Cfg) (r : Run) (j : Sled) :
    ((r.setPool x c).chan j).active = (r.chan j).active := by
  unfold Run.setPool
  split
  · exact Run.resizePool_active ..
  · rfl

theorem Run.boundary_active_other (c : Cfg) {i j : Sled} (h : j ≠ i) (r : Run) :
    ((r.boundary i c).chan j).active = (r.chan j).active :=
  ((Run.Quiet.boundaryBooks ..).active j).trans (by rw [Run.modChan_chan, if_neg h])

theorem Run.withPoll_quiet {c : Cfg} {n : LaneNo} {p : Poll} (r : Run) : Run.Quiet r (r.initEnds c n p) := by
  unfold Run.initEnds
  split
  · exact ((Run.Quiet.closeOnLane n r).trans (.setPoll ..)).trans (.openOnLane ..)
  · exact .endInit ..

theorem Run.notAcknowledged_quiet (c : Cfg) (n : LaneNo) (k : Reason) (p : Poll) (r : Run) :
    Run.Quiet r (r.notAcknowledged c n k p) := by
  unfold Run.notAcknowledged
  dsimp only
  split
  · exact ((Run.Quiet.closeOnLane n r).trans (.setPoll ..)).trans (.openOnLane ..)
  · exact ((Run.Quiet.closeOnLane n r).trans (.modProbe ..)).trans (.endPoll ..)

theorem Run.transactionExpired_quiet (n : LaneNo) (c : Cfg) (r : Run) : Run.Quiet r (r.transactionExpired n c) := by
  have counted := (Run.Quiet.abandonLane n r).trans (.modLane n (fun x => { x with timeouts := satSucc 65535 x.timeouts }) _)
  unfold Run.transactionExpired
  dsimp only
  refine .trans ?_ ((Run.Quiet.modLane n (fun x => { x with poll := .absent }) _).trans (.beginAttempt c n 1 _))
  split
  · exact (counted.trans (.modProbe ..)).trans (.handOutcome ..)
  · exact counted
  · exact counted

theorem Run.attemptChecked_quiet (n : LaneNo) (l : Pin) (c : Cfg) (r : Run) : Run.Quiet r (r.attemptChecked n l c) := by
  unfold Run.attemptChecked
  dsimp only
  split
  · exact (Run.Quiet.modLane ..).trans (.attemptSucceeded ..)
  · exact (Run.Quiet.modLane ..).trans (.attemptFailed ..)

/-- A removal sets the sled's level to L15 and leaves every other level (R16, R68). -/
theorem Run.teardown_active (c : Cfg) (i : Sled) (r : Run) (j : Sled) :
    ((r.teardown c i).chan j).active = if j = i then 15 else (r.chan j).active := by
  unfold Run.teardown
  dsimp only
  rw [(Run.Quiet.post ..).active j]
  simp only [Run.modTherm_chan, Run.modAlert_chan]
  rw [(Run.Quiet.dropProbes ..).active j, Run.modChan_chan]
  split
  · rfl
  · rw [(Run.Quiet.zeroBooks ..).active j]
    simp

theorem Run.presenceEvent_active (c : Cfg) (i : Sled) (b : Bool) (r : Run) (j : Sled) :
    ((r.presenceEvent c i b).chan j).active = (r.chan j).active
      ∨ ((r.presenceEvent c i b).chan j).active = 15 ∧ i = j := by
  have torn : ((r.teardown c i).chan j).active = (r.chan j).active ∨ ((r.teardown c i).chan j).active = 15 ∧ i = j := by
    rw [Run.teardown_active]
    split
    · next e => exact .inr ⟨rfl, e.symm⟩
    · exact .inl rfl
  unfold Run.presenceEvent
  split
  · split
    · exact .inl ((Run.Evolves.startAdmission ..).active j)
    · exact .inl (by simp)
  all_goals first | exact torn | exact .inl rfl

theorem Run.settlePresence_active (c : Cfg) (i : Sled) (r : Run) (j : Sled) :
    ((r.settlePresence c i).chan j).active = (r.chan j).active
      ∨ ((r.settlePresence c i).chan j).active = 15 ∧ i = j := by
  unfold Run.settlePresence
  dsimp only
  split
  · simpa only [Run.modLife_chan] using Run.presenceEvent_active c i _ (r.modLife i _) j
  · exact .inl (by simp)

theorem Run.enterRun_active (c : Cfg) (r : Run) (j : Sled) : ((r.enterRun c).chan j).active = (r.chan j).active := by
  have admitted (u : Run) : Run.Evolves u (u.admitStandby c) := by
    refine .foldl (fun u i => ?_) _ u
    split
    · exact .startAdmission ..
    · exact .refl u
  exact ((Run.Quiet.post ..).active j).trans ((admitted _).active j)

theorem Run.runFromSafe_active (c : Cfg) (r : Run) (j : Sled) : ((r.runFromSafe c).chan j).active = (r.chan j).active :=
  ((Run.Quiet.refreshHeld ..).trans (.post ..)).active j |>.trans (Run.mapSleds_active rfl (by intros; rfl) j)

/-- SET_MODE CONFIG leaves a level or sets it to L15 (R16, R157). -/
theorem Run.toConfig_active (c : Cfg) (r : Run) (j : Sled) :
    ((r.toConfig c).chan j).active = (r.chan j).active ∨ ((r.toConfig c).chan j).active = 15 := by
  have stopped := (Run.Quiet.stopLanes c ({ r with mode := .config, cause := .request }.clearBooks)).active j
  have cleared : (({ r with mode := .config, cause := .request }.clearBooks).chan j).active = (r.chan j).active :=
    Run.mapSleds_active (r := r)
      (f := fun _ x => { x with books := { Books.initial with wanted := x.books.wanted, cls := x.books.cls } }) rfl (by intros; rfl) j
  have left (t : Run) : ((SledRun.leaveService c.globals.rampFrames (t.sleds.get j)).chan).active = (t.chan j).active
      ∨ ((SledRun.leaveService c.globals.rampFrames (t.sleds.get j)).chan).active = 15 := by
    unfold SledRun.leaveService
    split
    · exact .inr rfl
    · exact .inl rfl
  unfold Run.toConfig
  dsimp only
  rw [(Run.Quiet.post ..).active j]
  simp only [Run.chan, mapAt_get]
  exact (left _).imp_left fun e => e.trans (stopped.trans cleared)

theorem Run.sledWritten_active (c : Cfg) (i : Sled) (x : SledCfg) (r : Run) (j : Sled) :
    ((r.sledWritten c i x).chan j).active = (r.chan j).active := by
  unfold Run.sledWritten Run.changeEnable
  split
  · rfl
  · split
    · simp
    · exact (Run.modChan_active_of_keeps (by intro; rfl) j).trans (by simp)

/-- The commands that can set a level to L15 outside the boundary (R16): a removal, SET_MODE CONFIG and the resets. -/
def forcesLevel (j : Sled) : Instr → Prop
  | .powerOn | .rstNLow | .resetRelease _ | .frameSent | .setModeConfig _ => True
  | .presenceSettleExpiry i => i = j
  | _ => False

theorem Does.active {c c' : Cfg} {r r' : Run} {i : Instr} (h : Does c r i c' r') (j : Sled) :
    (r'.chan j).active = (r.chan j).active ∨ i = .boundaryEvent j ∨ (r'.chan j).active = 15 ∧ forcesLevel j i := by
  have initial (c k cl po prs alr zone b n) (m : Cfg) : (((Run.initial c k cl po prs alr zone b n).post m .mode).chan j).active = 15 :=
    ((Run.Quiet.post ..).active j).trans (Run.initial_active ..)
  cases h with
  | powerOn => exact .inr (.inr ⟨Run.initial_active .., trivial⟩)
  | rstNLow => exact .inr (.inr ⟨Run.initial_active .., trivial⟩)
  | resetRelease rate => exact .inr (.inr ⟨initial .., trivial⟩)
  | softReset => exact .inr (.inr ⟨initial .., trivial⟩)
  | boundary i =>
    by_cases e : j = i
    · exact .inr (.inl (e ▸ rfl))
    · exact .inl (Run.boundary_active_other c e r)
  | settlePresence i => exact (Run.settlePresence_active c i r j).imp_right .inr
  | toConfig t => exact (Run.toConfig_active c r j).imp_right fun e => .inr ⟨e, trivial⟩
  | keep => exact .inl rfl
  | linkFault _ e => exact .inl ((Run.Quiet.raise ..).active j)
  | sectionEnd i => exact .inl (Run.modChan_active_of_keeps Channel.sectionEnd_active j)
  | expireLease => exact .inl (Run.expireLease_active c r j)
  | setPrs i l => exact .inl (by simp [Run.setPrs])
  | presenceLine i l => exact .inl (by simp [Run.presenceLine])
  | admissionExpired i => exact .inl ((Run.Evolves.admissionExpired ..).active j)
  | setZonePin z l => exact .inl rfl
  | zoneLine z l => exact .inl rfl
  | settleZone z => exact .inl (Run.settleZone_active c z r j)
  | releaseExpired => exact .inl ((Run.Quiet.post ..).active j)
  | setAlr i l => exact .inl (by simp [Run.setAlr])
  | sampleAlert i l =>
    unfold Run.sampleAlert
    dsimp only
    split
    · exact .inl ((Run.acceptAlert_active ..).trans (by simp))
    · exact .inl (by simp)
  | acceptSample i => exact .inl ((Run.acceptAlert_active ..).trans (by simp))
  | sustain i => exact .inl ((Run.Evolves.sustain ..).active j)
  | stick i => exact .inl ((Run.Evolves.stick ..).active j)
  | hotExpired i => exact .inl (((Run.Quiet.modTherm i _ r).trans (.raise ..)).active j)
  | dueEvent p => exact .inl ((Run.Quiet.dueEvent ..).active j)
  | initEnds n p => exact .inl ((Run.withPoll_quiet ..).active j)
  | notAcknowledged n k p => exact .inl ((Run.notAcknowledged_quiet ..).active j)
  | settleEnds n p => exact .inl ((Run.Quiet.beginWaitOrRead ..).active j)
  | waitEnds n p o => exact .inl ((Run.Quiet.endPoll ..).active j)
  | readEnds n b0 b1 p o => exact .inl (((Run.Quiet.closeOnLane ..).trans (.endPoll ..)).active j)
  | transactionExpired n => exact .inl ((Run.transactionExpired_quiet ..).active j)
  | abortEnds n => exact .inl (((Run.Quiet.closeOnLane ..).trans (.freeLane ..)).active j)
  | attemptChecked n l => exact .inl ((Run.attemptChecked_quiet ..).active j)
  | attemptTimesOut n => exact .inl (((Run.Quiet.abandonLane ..).trans (.attemptFailed ..)).active j)
  | failValidation => exact .inl rfl
  | enterRun => exact .inl (Run.enterRun_active c r j)
  | runFromSafe => exact .inl (Run.runFromSafe_active c r j)
  | writeGlobals t p => exact .inl (Run.globalsWritten_active ..)
  | writeLevels => exact .inl rfl
  | writeSled t p => exact .inl (Run.sledWritten_active ..)
  | writeProbe => exact .inl rfl
  | writeScript => exact .inl rfl
  | writeRouting => exact .inl rfl
  | setNotices => exact .inl rfl
  | setPool t p => exact .inl (Run.setPool_active ..)
  | renewLease => exact .inl rfl
  | setWant t p i w k => exact .inl ((Run.Quiet.setWant ..).active j)
  | startBoost t p i n => exact .inl ((Run.Quiet.startBoost ..).active j)
  | release t p i => exact .inl ((Run.Quiet.release ..).active j)
  | clearZone => exact .inl (Run.endEmergency_active ..)
  | resetLane t p n => exact .inl ((Run.Quiet.beginAttempt ..).active j)
  | queryProbe => exact .inl rfl
  | clearAlert t x i => exact .inl (by simp)
  | clearFaults => exact .inl rfl

/-! ## Lanes -/

theorem Run.lanesServed_followed {c : Cfg} {i : Sled} {f : Alert → Alert} {r : Run} (h : r.lanesServed) :
    ((r.modAlert i f).followAlert c i).lanesServed := Run.lanesServed_followAlert (Run.lanesServed_of_lanes rfl h)

@[simp] theorem Run.endEmergency_lanes (c : Cfg) (r : Run) : (r.endEmergency c).lanes = r.lanes := by
  unfold Run.endEmergency
  dsimp only
  split <;> simp [Run.setZone]

@[simp] theorem Run.assertZone_lanes (c : Cfg) (z : ZoneNo) (r : Run) : (r.assertZone c z).lanes = r.lanes := by
  unfold Run.assertZone
  dsimp only
  split
  · simp [Run.setZone]
  · split <;> simp [Run.setZone]

@[simp] theorem Run.deassertZone_lanes (c : Cfg) (r : Run) : (r.deassertZone c).lanes = r.lanes := by
  unfold Run.deassertZone
  split
  · split <;> simp
  · rfl
  · rfl

@[simp] theorem Run.zoneFieldChange_lanes (c d : Cfg) (z : ZoneNo) (r : Run) : (r.zoneFieldChange c d z).lanes = r.lanes := by
  unfold Run.zoneFieldChange
  split <;> simp

theorem Run.globalsWritten_lanes (c : Cfg) (g : Globals) (r : Run) : (r.globalsWritten c g).lanes = r.lanes := by
  have written (d : Cfg) (u : Run) : (u.zoneWrite c d).lanes = u.lanes := by
    unfold Run.zoneWrite
    dsimp only
    split <;> simp
  unfold Run.globalsWritten
  dsimp only
  rw [written]
  split <;> split <;> rfl

theorem Run.settleZone_lanes (c : Cfg) (z : ZoneNo) (r : Run) : (r.settleZone c z).lanes = r.lanes := by
  unfold Run.settleZone
  dsimp only
  split
  · rfl
  · split <;> simp

theorem Run.markSustained_lanes (c : Cfg) (i : Sled) (r : Run) : (r.markSustained c i).lanes = r.lanes := by
  unfold Run.markSustained
  dsimp only
  split <;> simp

theorem Run.markStuck_lanes (c : Cfg) (i : Sled) (r : Run) : (r.markStuck c i).lanes = r.lanes := by
  unfold Run.markStuck
  dsimp only
  split <;> simp

theorem Run.lanesServed_enterRun {c : Cfg} {r : Run} (h : r.lanesServed) : (r.enterRun c).lanesServed := by
  unfold Run.enterRun Run.admitStandby
  refine Run.lanesServed_of_lanes (Run.post_lanes ..) (Run.lanesServed_foldl (fun u i hu => ?_) _ h)
  split
  · exact Run.lanesServed_startAdmission hu
  · exact hu

theorem Run.lanesServed_settlePresence {c : Cfg} {i : Sled} {r : Run} (h : r.lanesServed) :
    (r.settlePresence c i).lanesServed := by
  unfold Run.settlePresence
  dsimp only
  split
  · unfold Run.presenceEvent
    split
    · split
      · exact Run.lanesServed_startAdmission h
      · exact h
    all_goals first | exact Run.lanesServed_teardown h | exact h
  · exact h

theorem Run.lanesServed_initEnds {c : Cfg} {n : LaneNo} {p : Poll} {r : Run} (h : r.lanesServed) :
    (r.initEnds c n p).lanesServed := by
  unfold Run.initEnds
  split
  · exact Run.lanesServed_openOnLane (Run.lanesServed_setPoll (Run.lanesServed_closeOnLane h))
  · exact Run.lanesServed_endInit h

theorem Run.lanesServed_notAcknowledged {c : Cfg} {n : LaneNo} {k : Reason} {p : Poll} {r : Run} (h : r.lanesServed) :
    (r.notAcknowledged c n k p).lanesServed := by
  unfold Run.notAcknowledged
  dsimp only
  split
  · exact Run.lanesServed_openOnLane (Run.lanesServed_setPoll (Run.lanesServed_closeOnLane h))
  · exact Run.lanesServed_endPoll (Run.lanesServed_of_lanes rfl (Run.lanesServed_closeOnLane h))

theorem Run.lanesServed_transactionExpired {n : LaneNo} {c : Cfg} {r : Run} (h : r.lanesServed) :
    (r.transactionExpired n c).lanesServed := by
  have counted : ((r.abandonLane n).modLane n fun x => { x with timeouts := satSucc 65535 x.timeouts }).lanesServed :=
    Run.lanesServed_modLane (Run.lanesServed_abandonLane h) (Run.lanesServed_abandonLane h n)
  unfold Run.transactionExpired
  dsimp only
  have ended : ∀ u : Run, u.lanesServed → (u.enterRecover c n).lanesServed := fun u hu =>
    Run.lanesServed_beginAttempt (Run.lanesServed_modLane hu (hu n))
  apply ended
  split
  · exact Run.lanesServed_handOutcome (Run.lanesServed_of_lanes rfl counted)
  · exact counted
  · exact counted

theorem Run.lanesServed_attemptChecked {n : LaneNo} {l : Pin} {c : Cfg} {r : Run} (h : r.lanesServed) :
    (r.attemptChecked n l c).lanesServed := by
  unfold Run.attemptChecked
  dsimp only
  split
  · exact Run.lanesServed_attemptSucceeded (Run.lanesServed_modLane h (h n))
  · exact Run.lanesServed_attemptFailed (Run.lanesServed_modLane h (h n))

theorem Run.lanesServed_toConfig (c : Cfg) (r : Run) : (r.toConfig c).lanesServed := by
  refine Run.lanesServed_of_lanes ?_ (Run.lanesServed_stopLanes c { r with mode := .config, cause := .request }.clearBooks)
  unfold Run.toConfig
  dsimp only
  rw [Run.post_lanes]

theorem Run.sledWritten_lanes (c : Cfg) (i : Sled) (x : SledCfg) (r : Run) : (r.sledWritten c i x).lanes = r.lanes := by
  unfold Run.sledWritten Run.changeEnable
  split
  · rfl
  · split <;> rfl

/-- Every effect of a command keeps the lanes served (R115). -/
theorem Does.lanesServed {c c' : Cfg} {r r' : Run} {i : Instr} (h : Does c r i c' r') (hr : r.lanesServed) : r'.lanesServed := by
  have same {t : Run} (e : t.lanes = r.lanes) : t.lanesServed := Run.lanesServed_of_lanes e hr
  cases h with
  | powerOn => exact Run.lanesServed_initial _ _ _ _ _ _ _ _ _
  | rstNLow => exact Run.lanesServed_initial _ _ _ _ _ _ _ _ _
  | resetRelease rate => exact Run.lanesServed_of_lanes (Run.post_lanes ..) (Run.lanesServed_initial _ _ _ _ _ _ _ _ _)
  | softReset => exact Run.lanesServed_of_lanes (Run.post_lanes ..) (Run.lanesServed_initial _ _ _ _ _ _ _ _ _)
  | boundary i => exact same (by simp [Run.boundary])
  | settlePresence i => exact Run.lanesServed_settlePresence hr
  | toConfig t => exact Run.lanesServed_toConfig c r
  | keep => exact hr
  | linkFault _ e => exact same (by simp)
  | expireLease => exact same (by simp [Run.expireLease])
  | admissionExpired i => exact same (by simp [Run.admissionExpired])
  | settleZone z => exact same (Run.settleZone_lanes c z r)
  | releaseExpired => exact same (by simp [Run.releaseExpired, Run.setZone])
  | sampleAlert i l =>
    unfold Run.sampleAlert
    dsimp only
    split
    · exact Run.lanesServed_followed hr
    · exact hr
  | acceptSample i => exact Run.lanesServed_followed hr
  | sustain i =>
    unfold Run.sustain
    dsimp only
    split
    · exact same ((Run.markStuck_lanes ..).trans (Run.markSustained_lanes ..))
    · exact same (Run.markSustained_lanes ..)
  | stick i =>
    unfold Run.stick
    dsimp only
    split
    · exact same ((Run.markSustained_lanes ..).trans (Run.markStuck_lanes ..))
    · exact same (Run.markStuck_lanes ..)
  | hotExpired i => exact same (by simp [Run.hotExpired])
  | dueEvent p => exact Run.lanesServed_dueEvent hr
  | initEnds n p => exact Run.lanesServed_initEnds hr
  | notAcknowledged n k p => exact Run.lanesServed_notAcknowledged hr
  | settleEnds n p => exact Run.lanesServed_beginWaitOrRead hr
  | waitEnds n p o => exact Run.lanesServed_endPoll hr
  | readEnds n b0 b1 p o => exact Run.lanesServed_endPoll (Run.lanesServed_closeOnLane hr)
  | transactionExpired n => exact Run.lanesServed_transactionExpired hr
  | abortEnds n => exact Run.lanesServed_freeLane (Run.lanesServed_closeOnLane hr)
  | attemptChecked n l => exact Run.lanesServed_attemptChecked hr
  | attemptTimesOut n => exact Run.lanesServed_attemptFailed (Run.lanesServed_abandonLane hr)
  | enterRun => exact Run.lanesServed_enterRun hr
  | runFromSafe => exact same (by simp [Run.runFromSafe])
  | writeGlobals t p => exact same (Run.globalsWritten_lanes ..)
  | writeSled t p => exact same (Run.sledWritten_lanes ..)
  | setPool t p =>
    unfold Run.setPool
    split
    · exact same (by simp)
    · exact hr
  | setWant t p i w k => exact same (by simp)
  | startBoost t p i n => exact same (by simp)
  | release t p i => exact same (by simp)
  | clearZone => exact same (by simp)
  | resetLane t p n => exact Run.lanesServed_beginAttempt hr
  | sectionEnd | setPrs | presenceLine | setZonePin | zoneLine | setAlr | failValidation | writeLevels | writeProbe | writeScript
  | writeRouting | setNotices | renewLease | queryProbe | clearAlert | clearFaults => exact hr

theorem Run.lanesServed_refclk {s : State} (h : s.run.lanesServed) : s.refclk.run.lanesServed := by
  intro n
  rw [s.refclk_lane n]
  exact h n

/-! ## At rest -/

theorem State.atRest_of_request {f : Frame} {wf isReset : Bool} {body : Body} {s t : State}
    (ht : s.request f wf isReset body = .next t) (h : s.atRest) : t.atRest := by
  unfold State.request at ht
  split at ht
  · cases ht
  · split at ht
    · cases ht; exact h
    · dsimp only at ht
      split at ht <;> cases ht <;> exact State.finish_atRest _

theorem NoticeSet.first_empty : NoticeSet.empty.first = none := by decide

theorem State.hold_atRest (s : State) : s.hold.atRest := ⟨rfl, .inr ⟨rfl, .inr NoticeSet.first_empty⟩⟩

/-- Every command ends at rest (R43, R171). -/
theorem exec_atRest {c : Instr} {s t : State} (ht : exec c s = .next t) (h : s.atRest) : t.atRest := by
  cases hf : frameOf c with
  | some f =>
    obtain ⟨isReset, body, request⟩ := exec_eq_request hf
    exact State.atRest_of_request ((request s).symm.trans ht) h
  | none =>
    rcases exec_event_cases hf s with ⟨u, e⟩ | e | ⟨r, e, hd, hn⟩ | e <;> rw [e] at ht <;> cases ht
    · exact State.finish_atRest u
    · exact h
    · exact ⟨hd.trans h.1, by simpa only [hn] using h.2⟩
    · exact s.hold_atRest

theorem State.refclk_atRest {s : State} (h : s.atRest) : s.refclk.atRest := by
  have run := s.refclk_run
  have due : s.refclk.run.arbiterDue = s.run.arbiterDue := (congrArg Run.arbiterDue run).trans rfl
  have notices : s.refclk.run.notices = s.run.notices := (congrArg Run.notices run).trans rfl
  obtain ⟨_, e⟩ := s.refclk_eq
  have tx : s.refclk.link.tx = s.link.tx := by rw [e]
  have replies : s.refclk.link.replies = s.link.replies := by rw [e]
  have accepted : s.refclk.link.resetAccepted = s.link.resetAccepted := by rw [e]
  exact ⟨due.trans h.1, by simpa only [tx, replies, accepted, notices] using h.2⟩

end Sys2Proof.Machine
end

open Sys2Proof Sys2Proof.Machine

section
/-- Settles O12: a period leaves every level, and each effect of a command leaves it or is one of those of R13 and R16. -/
theorem levelChangesOnlyAtItsBoundary : Obligations.LevelChangesOnlyAtItsBoundary := by
  unfold Obligations.LevelChangesOnlyAtItsBoundary
  refine ⟨fun s i => ?_, fun c s t i h => ?_⟩
  · have sled := (s.refclk_sled_counts i).1
    exact congrArg (fun x => x.chan.active) sled
  · let kept (r : Run) := (r.chan i).active = (s.run.chan i).active
    have effect := exec_preserves (i := c)
      (P := fun _ r => kept r ∨ c = .boundaryEvent i ∨ (r.chan i).active = 15 ∧ forcesLevel i c)
      ⟨fun _ _ _ => id, fun d r h => by simpa only [kept, (Run.Quiet.serveIfDue d r).active i] using h⟩
      (fun _ _ _ _ d h => by
        rcases d.active i with same | boundary | forced
        · simpa only [kept, same] using h
        · exact .inr (.inl boundary)
        · exact .inr (.inr forced)) h (.inl rfl)
    refine effect.imp_right (Or.imp_right fun ⟨level, forced⟩ => ⟨level, ?_⟩)
    cases c <;> exact forced

/-- Settles O9: every event ends with the arbiter served and the transmitter at work, and every effect keeps the lanes served. -/
theorem everyStepEndsAtRest : Obligations.EveryStepEndsAtRest := by
  unfold Obligations.EveryStepEndsAtRest
  intro s t h
  constructor
  · intro rest
    rcases step_cases h with ⟨i, pending, due, n, hi⟩ | rfl | rfl | ⟨i, due, n, rfl⟩
    · exact exec_atRest hi rest
    · exact rest
    · exact State.refclk_atRest rest
    · rw [State.dropDue_frame]
      exact rest
  · exact step_preserves (P := fun _ r => r.lanesServed)
      ⟨fun _ _ _ => id, fun _ _ => Run.lanesServed_of_lanes (Run.serveIfDue_lanes ..)⟩
      (fun _ _ _ _ _ d => d.lanesServed) (fun _ _ _ => id) (fun _ _ _ => id) (fun _ => Run.lanesServed_refclk) h
end

section
/-! SUPPORT. The state after a reset meets the invariants: the default configuration is legal, and a running part as a reset
leaves it holds no units, has an empty queue and no sled in service. -/

namespace Sys2Proof.Machine

open Sys2Proof

/-! ## The default configuration (Table 80) -/

theorem Globals.default_legal : Globals.default.legal := by
  refine ⟨by decide, by decide, by decide, by decide, by decide, by decide, by decide, by decide, by decide, by decide,
    by decide, by decide, by decide, by decide, fun n => ?_⟩
  simp [Globals.default]

theorem Cfg.default_legal : Cfg.default.legal := by
  refine ⟨Globals.default_legal, fun k => ?_, fun i => ⟨?_, fun k => ?_⟩, fun p => ?_, by decide, by decide, by decide⟩
  · have hk := k.isLt
    simp only [Cfg.default, tabulate_get, LevelEntry.legal]
    omega
  · have hi := i.isLt
    simp only [Cfg.default, tabulate_get, SledCfg.default, Globals.default]
    omega
  · simp only [Cfg.default, tabulate_get, SledCfg.default]
    omega
  · simp only [Cfg.default, tabulate_get]
    decide

/-! ## The running part after a reset -/

/-- A running part without a sled in service: no units, no entries, in CONFIG. -/
structure Run.AtReset (c : Cfg) (r : Run) : Prop where
  mode : r.mode = .config
  queue : r.queue = []
  state : ∀ i, (r.life i).state = if (c.sled i).enable then .absent else .disabled
  books : ∀ i, r.books i = .initial

theorem Run.initial_atReset (c : Cfg) (k : Cause) (cl : Clock) (po : Pool) (prs alr : Sled → Pin) (zone : ZoneNo → Pin)
    (b : Bool) (n : Nat) : Run.AtReset c (Run.initial c k cl po prs alr zone b n) where
  mode := rfl
  queue := rfl
  state i := by simp only [Run.initial, Run.life, tabulate_get]; rfl
  books i := by simp [Run.initial, Run.books, SledRun.initial]

theorem Run.AtReset.post {c : Cfg} {r : Run} (h : r.AtReset c) (d : Cfg) (k : Notice) : (r.post d k).AtReset c := by
  obtain ⟨n, e⟩ := r.post_eq d k
  rw [e]
  exact ⟨h.mode, h.queue, h.state, h.books⟩

theorem Run.AtReset.notInService {c : Cfg} {r : Run} (h : r.AtReset c) (i : Sled) : (r.life i).state.inService = false := by
  rw [h.state i]
  split <;> rfl

theorem Run.AtReset.queueSound {c : Cfg} {r : Run} (h : r.AtReset c) : r.queueSound := by
  refine ⟨by simp [h.queue], by simp [h.queue], by simp [h.queue], fun _ => ⟨h.queue, h.notInService⟩⟩

theorem Run.AtReset.booksSound {c : Cfg} {r : Run} (h : r.AtReset c) : r.booksSound c := by
  have out (i : Sled) {k : SledState} (hk : k.inService = true) : (r.life i).state ≠ k := fun e => by
    have := h.notInService i
    rw [e, hk] at this
    cases this
  refine ⟨fun hm => absurd h.mode hm, fun i he => by simp [h.state, he], fun i _ => by simp [h.books, Books.initial],
    fun i hi => absurd hi (out i rfl), fun i hi => ?_, fun i => by simp [h.books, Books.initial],
    fun i => by simp [h.books, Books.initial], fun i => by simp [h.books, Books.initial], ?_⟩
  · rcases hi with hi | hi
    · exact absurd hi (out i rfl)
    · exact absurd hi (out i rfl)
  · have grants : r.sumGrants = 0 := sumSleds_zero fun i => by simp [h.books, Books.initial]
    have loans : r.sumLoans = 0 := sumSleds_zero fun i => by simp [h.books, Books.initial]
    simp [grants, loans]

end Sys2Proof.Machine

open Sys2Proof Sys2Proof.Machine

/-- Settles O10: the default records are in range, and the running part is as every reset leaves it. -/
theorem resetMeetsEveryInvariant : Obligations.ResetMeetsEveryInvariant := by
  unfold Obligations.ResetMeetsEveryInvariant
  have run : State.reset.run.AtReset State.reset.cfg := Run.initial_atReset ..
  have link : State.reset.link.ok :=
    ⟨Nat.zero_le 4, Nat.zero_le 4, fun f hf => absurd hf List.not_mem_nil, trivial, by simp [State.reset, Link.initial]⟩
  exact ⟨link, Cfg.default_legal, by decide, run.queueSound, run.booksSound, ⟨rfl, .inl rfl⟩,
    Run.lanesServed_initial _ _ _ _ _ _ _ _ _, rfl, rfl⟩
end

section
/-! SUPPORT. The records of Tables 76 and 77 and their bytes: numbers and codes at an offset in both directions, then record
by record what its checks ask, what it decodes to, and its bytes. -/

namespace Sys2Proof.Machine

open Sys2Proof

/-! ## Numbers at an offset (R175) -/

theorem byteAt_le (p : List Byte) (k : Nat) : byteAt p k ≤ 255 := Nat.le_of_lt_succ (p.getD k 0).isLt

theorem wordAt_le (p : List Byte) (k : Nat) : wordAt p k ≤ 65535 := by
  have h1 := byteAt_le p k
  have h2 := byteAt_le p (k + 1)
  unfold wordAt
  omega

theorem longAt_lt (p : List Byte) (k : Nat) : longAt p k < 4294967296 := by
  have h1 := wordAt_le p k
  have h2 := wordAt_le p (k + 2)
  unfold longAt
  omega

/-- The number that a byte carries. -/
theorem byte_value {n : Nat} (h : n ≤ 255) : (BitVec.ofNat 8 n).toNat = n := by simp; omega

/-- The number that two bytes carry, the high one first. -/
theorem word_value {n : Nat} (h : n ≤ 65535) :
    (BitVec.ofNat 8 (n / 256)).toNat * 256 + (BitVec.ofNat 8 n).toNat = n := by simp; omega

/-- The number that four bytes carry, the high one first. -/
theorem long_value {n : Nat} (h : n < 4294967296) :
    ((BitVec.ofNat 8 (n / 16777216)).toNat * 256 + (BitVec.ofNat 8 (n / 65536)).toNat) * 65536
      + ((BitVec.ofNat 8 (n / 256)).toNat * 256 + (BitVec.ofNat 8 n).toNat) = n := by simp; omega

/-- The figure that four bytes carry in two's complement. -/
theorem signed_value {v : Int} (h : thresholdLegal v) :
    (BitVec.ofNat 32 (((BitVec.ofNat 8 ((BitVec.ofInt 32 v).toNat / 16777216)).toNat * 256
        + (BitVec.ofNat 8 ((BitVec.ofInt 32 v).toNat / 65536)).toNat) * 65536
      + ((BitVec.ofNat 8 ((BitVec.ofInt 32 v).toNat / 256)).toNat * 256
        + (BitVec.ofNat 8 (BitVec.ofInt 32 v).toNat).toNat))).toInt = v := by
  obtain ⟨low, high⟩ := h
  rw [long_value (BitVec.ofInt 32 v).isLt, BitVec.ofNat_toNat, BitVec.setWidth_eq, BitVec.toInt_ofInt]
  exact Int.bmod_eq_of_le (by omega) (by omega)

theorem put8_byteAt (p : List Byte) (k : Nat) : put8 (byteAt p k) = [p.getD k 0] := by
  simp [put8, byteAt]

theorem put16_wordAt (p : List Byte) (k : Nat) : put16 (wordAt p k) = [p.getD k 0, p.getD (k + 1) 0] := by
  have low : (p.getD (k + 1) 0).toNat < 256 := (p.getD (k + 1) 0).isLt
  have high : (p.getD k 0).toNat < 256 := (p.getD k 0).isLt
  simp only [put16, wordAt, byteAt, List.cons.injEq, and_true]
  constructor <;> apply BitVec.eq_of_toNat_eq <;> rw [BitVec.toNat_ofNat] <;> omega

theorem put32_longAt (p : List Byte) (k : Nat) :
    put32 (longAt p k) = [p.getD k 0, p.getD (k + 1) 0, p.getD (k + 2) 0, p.getD (k + 3) 0] := by
  have h0 : (p.getD k 0).toNat < 256 := (p.getD k 0).isLt
  have h1 : (p.getD (k + 1) 0).toNat < 256 := (p.getD (k + 1) 0).isLt
  have h2 : (p.getD (k + 2) 0).toNat < 256 := (p.getD (k + 2) 0).isLt
  have h3 : (p.getD (k + 3) 0).toNat < 256 := (p.getD (k + 3) 0).isLt
  simp only [put32, longAt, wordAt, byteAt, List.cons.injEq, and_true, Nat.add_assoc, Nat.reduceAdd]
  refine ⟨?_, ?_, ?_, ?_⟩ <;> apply BitVec.eq_of_toNat_eq <;> rw [BitVec.toNat_ofNat] <;> omega

theorem putSigned32_signedAt (p : List Byte) (k : Nat) :
    putSigned32 (signedAt p k) = [p.getD k 0, p.getD (k + 1) 0, p.getD (k + 2) 0, p.getD (k + 3) 0] := by
  rw [putSigned32, signedAt, BitVec.ofInt_toInt, BitVec.toNat_ofNat, Nat.mod_eq_of_lt (longAt_lt p k), put32_longAt]

/-- A payload is its bytes, one after the other. -/
theorem eq_bytes_of_length {p : List Byte} {n : Nat} (h : p.length = n) : (List.range n).map (fun k => p.getD k 0) = p := by
  subst h
  refine List.ext_getElem (by simp) fun k h1 h2 => ?_
  rw [List.getElem_map, List.getElem_range, List.getD_eq_getElem?_getD, List.getElem?_eq_getElem h2, Option.getD_some]

/-! ## Codes at an offset (Table 75) -/

theorem flag_code {n : Nat} (h : n ≤ 1) : (if (n == 1) = true then 1 else 0) = n := by
  rcases Nat.le_one_iff_eq_zero_or_eq_one.mp h with rfl | rfl <;> rfl

theorem putFlag_byteAt {p : List Byte} {k : Nat} (h : byteAt p k ≤ 1) : putFlag (byteAt p k == 1) = [p.getD k 0] := by
  rw [putFlag, flag_code h, put8_byteAt]

theorem flag_value (b : Bool) : ((BitVec.ofNat 8 (if b = true then 1 else 0)).toNat == 1) = b := by cases b <;> rfl

theorem Polarity.code_ofCode {n : Nat} (h : n ≤ 1) : (Polarity.ofCode n).code = n := by
  rcases Nat.le_one_iff_eq_zero_or_eq_one.mp h with rfl | rfl <;> rfl

theorem DrivePolarity.code_ofCode {n : Nat} (h : n ≤ 1) : (DrivePolarity.ofCode n).code = n := by
  rcases Nat.le_one_iff_eq_zero_or_eq_one.mp h with rfl | rfl <;> rfl

theorem Combine.code_ofCode {n : Nat} (h : n ≤ 1) : (Combine.ofCode n).code = n := by
  rcases Nat.le_one_iff_eq_zero_or_eq_one.mp h with rfl | rfl <;> rfl

theorem LaneSpeed.code_ofCode {n : Nat} (h : n ≤ 1) : (LaneSpeed.ofCode n).code = n := by
  rcases Nat.le_one_iff_eq_zero_or_eq_one.mp h with rfl | rfl <;> rfl

theorem AlertRole.code_ofCode {n : Nat} (h : n ≤ 2) : (AlertRole.ofCode n).code = n := by
  match n, h with
  | 0, _ | 1, _ | 2, _ => rfl

theorem Heat.code_ofCode {n : Nat} (h : n ≤ 2) : (Heat.ofCode n).code = n := by
  match n, h with
  | 0, _ | 1, _ | 2, _ => rfl

theorem ProbeMode.code_ofCode {n : Nat} (h : n ≤ 2) : (ProbeMode.ofCode n).code = n := by
  match n, h with
  | 0, _ | 1, _ | 2, _ => rfl

theorem Format.code_ofCode {n : Nat} (h : n ≤ 2) : (Format.ofCode n).code = n := by
  match n, h with
  | 0, _ | 1, _ | 2, _ => rfl

theorem Polarity.ofCode_value (x : Polarity) : Polarity.ofCode (BitVec.ofNat 8 x.code).toNat = x := by cases x <;> rfl
theorem DrivePolarity.ofCode_value (x : DrivePolarity) : DrivePolarity.ofCode (BitVec.ofNat 8 x.code).toNat = x := by
  cases x <;> rfl
theorem Combine.ofCode_value (x : Combine) : Combine.ofCode (BitVec.ofNat 8 x.code).toNat = x := by cases x <;> rfl
theorem LaneSpeed.ofCode_value (x : LaneSpeed) : LaneSpeed.ofCode (BitVec.ofNat 8 x.code).toNat = x := by cases x <;> rfl
theorem AlertRole.ofCode_value (x : AlertRole) : AlertRole.ofCode (BitVec.ofNat 8 x.code).toNat = x := by cases x <;> rfl
theorem Heat.ofCode_value (x : Heat) : Heat.ofCode (BitVec.ofNat 8 x.code).toNat = x := by cases x <;> rfl
theorem ProbeMode.ofCode_value (x : ProbeMode) : ProbeMode.ofCode (BitVec.ofNat 8 x.code).toNat = x := by cases x <;> rfl
theorem Format.ofCode_value (x : Format) : Format.ofCode (BitVec.ofNat 8 x.code).toNat = x := by cases x <;> rfl

/-- An index that a byte carries. -/
theorem index_value {n : Nat} [NeZero n] (hn : n ≤ 256) (i : Fin n) : Fin.ofNat n (BitVec.ofNat 8 i.val).toNat = i := by
  have hi : i.val ≤ 255 := by omega
  rw [byte_value hi]
  exact Fin.ext (Nat.mod_eq_of_lt i.isLt)

theorem finAt_val {n : Nat} [NeZero n] {p : List Byte} {k : Nat} (h : byteAt p k < n) : (finAt n p k).val = byteAt p k :=
  Nat.mod_eq_of_lt h

theorem put8_finAt {n : Nat} [NeZero n] {p : List Byte} {k : Nat} (h : byteAt p k < n) :
    put8 (finAt n p k).val = [p.getD k 0] := by rw [finAt_val h, put8_byteAt]

/-! ## Checks -/

theorem firstFailing_eq_none_iff (cs : List Check) : firstFailing cs = none ↔ ∀ x ∈ cs, x.2 = true := by
  simp [firstFailing]

end Sys2Proof.Machine
end

section
/-! SUPPORT. What each configuration record's checks ask, what it decodes to, and its bytes (Tables 76 and 77). -/

namespace Sys2Proof.Machine

open Sys2Proof

/-! ## The global record (Table 76) -/

theorem foldl_max_lt (xs : List Nat) (a n : Nat) : xs.foldl Nat.max a < n ↔ a < n ∧ ∀ x ∈ xs, x < n := by
  induction xs generalizing a with
  | nil => simp
  | cons x xs ih =>
    simp only [List.foldl_cons, ih, List.mem_cons, forall_eq_or_imp, ← and_assoc]
    refine and_congr_left fun _ => ?_
    show max a x < n ↔ _
    omega

theorem Cfg.largestOffset_lt_iff (c : Cfg) (n : Nat) (hn : 0 < n) : c.largestOffset < n ↔ ∀ i, (c.sled i).offset < n := by
  simp [Cfg.largestOffset, foldl_max_lt, hn, allSleds]

/-- The codes of a global record that name a level, a polarity, a speed or a flag. -/
def globalsCodes (p : List Byte) : Prop :=
  (byteAt p 5 ≤ 15 ∧ byteAt p 11 ≤ 15 ∧ byteAt p 12 ≤ 15)
    ∧ (byteAt p 17 ≤ 1 ∧ byteAt p 18 ≤ 1 ∧ byteAt p 19 ≤ 1 ∧ byteAt p 20 ≤ 1 ∧ byteAt p 25 ≤ 1)
    ∧ byteAt p 33 ≤ 1 ∧ byteAt p 34 ≤ 1 ∧ byteAt p 35 ≤ 1 ∧ byteAt p 36 ≤ 1

theorem globalsChecks_pass_iff (c : Cfg) (p : List Byte) :
    firstFailing (globalsChecks c p) = none ↔
      (decodeGlobals p).legal ∧ (∀ i, (c.sled i).offset < (decodeGlobals p).frameTicks) ∧ globalsCodes p := by
  have frame : (256 ≤ wordAt p 2 ∧ c.largestOffset < wordAt p 2)
      ↔ (256 ≤ wordAt p 2 ∧ wordAt p 2 ≤ 65535) ∧ ∀ i, (c.sled i).offset < wordAt p 2 := by
    refine ⟨fun ⟨h, hc⟩ => ⟨⟨h, wordAt_le p 2⟩, (c.largestOffset_lt_iff _ (by omega)).mp hc⟩,
      fun ⟨h, hc⟩ => ⟨h.1, (c.largestOffset_lt_iff _ (by omega)).mpr hc⟩⟩
  rw [firstFailing_eq_none_iff]
  simp only [globalsChecks, byteIn, wordIn, longIn, atMost, flagCheck, List.forall_mem_cons, List.not_mem_nil,
    implies_true, and_true, Bool.and_eq_true, decide_eq_true_eq, frame, List.contains_iff_mem, globalsCodes, Globals.legal,
    decodeGlobals, tabulate_get, Fin.forall_fin_succ, Fin.val_zero, Fin.val_succ, Nat.zero_le, true_and, false_imp_iff, forall_fin_zero]
  refine ⟨fun h => ?_, fun h => ?_⟩ <;> simp only [h, and_self, Nat.reduceAdd]

theorem allLanes_flatMap {α : Type} (f : LaneNo → List α) : allLanes.flatMap f = f 0 ++ f 1 ++ f 2 ++ f 3 := by
  simp [allLanes, List.finRange_succ]

theorem encodeGlobals_bytes (g : Globals) : encodeGlobals g =
    [.ofNat 8 (g.prescale / 256), .ofNat 8 g.prescale, .ofNat 8 (g.frameTicks / 256), .ofNat 8 g.frameTicks,
      .ofNat 8 g.rampFrames, .ofNat 8 g.emergencyLevel.val, .ofNat 8 g.reclaimFrames,
      .ofNat 8 (g.presenceSettleMs / 256), .ofNat 8 g.presenceSettleMs,
      .ofNat 8 (g.admitLimitMs / 256), .ofNat 8 g.admitLimitMs, .ofNat 8 g.warmCeiling.val, .ofNat 8 g.hotCeiling.val,
      .ofNat 8 g.escalateCount, .ofNat 8 g.relaxCount, .ofNat 8 (g.hotLimitS / 256), .ofNat 8 g.hotLimitS,
      .ofNat 8 (if g.zoneEnable.get 0 then 1 else 0), .ofNat 8 (if g.zoneEnable.get 1 then 1 else 0),
      .ofNat 8 (g.zonePolarity.get 0).code, .ofNat 8 (g.zonePolarity.get 1).code,
      .ofNat 8 (g.zoneSettleMs / 256), .ofNat 8 g.zoneSettleMs, .ofNat 8 (g.zoneReleaseMs / 256), .ofNat 8 g.zoneReleaseMs,
      .ofNat 8 (if g.zoneLatch then 1 else 0), .ofNat 8 g.alertFilter, .ofNat 8 (g.sustainMs / 256), .ofNat 8 g.sustainMs,
      .ofNat 8 (g.stuckMs / 16777216), .ofNat 8 (g.stuckMs / 65536), .ofNat 8 (g.stuckMs / 256), .ofNat 8 g.stuckMs,
      .ofNat 8 (g.laneSpeed.get 0).code, .ofNat 8 (g.laneSpeed.get 1).code, .ofNat 8 (g.laneSpeed.get 2).code,
      .ofNat 8 (g.laneSpeed.get 3).code, .ofNat 8 (g.laneTimeoutMs.get 0), .ofNat 8 (g.laneTimeoutMs.get 1),
      .ofNat 8 (g.laneTimeoutMs.get 2), .ofNat 8 (g.laneTimeoutMs.get 3)] := by
  unfold encodeGlobals
  simp only [allLanes_flatMap, put8, put16, put32, putFlag, List.cons_append, List.nil_append]

theorem decodeGlobals_encodeGlobals {g : Globals} (h : g.legal) : decodeGlobals (encodeGlobals g) = g := by
  obtain ⟨hpre, hframe, hramp, hrecl, hset, hadm, hesc, hrel, hhot, hzs, hzr, hal, hsus, hstuck, hlane⟩ := h
  have prescale : g.prescale ≤ 65535 := by
    have range : ∀ n ∈ prescales, n ≤ 65535 := by decide
    exact range _ hpre
  rw [encodeGlobals_bytes]
  cases g
  unfold decodeGlobals
  simp only [Globals.mk.injEq, wordAt, longAt, byteAt, List.getD_cons_zero, List.getD_cons_succ]
  refine ⟨word_value prescale, word_value hframe.2, byte_value hramp.2, index_value (by decide) _, byte_value hrecl.2,
    word_value hset.2, word_value hadm.2, index_value (by decide) _, index_value (by decide) _,
    byte_value (Nat.le_trans hesc.2 (by decide)), byte_value hrel.2, word_value (Nat.le_trans hhot.2 (by decide)),
    vector_ext fun z => ?_, vector_ext fun z => ?_, word_value (Nat.le_trans hzs.2 (by decide)),
    word_value (Nat.le_trans hzr (by decide)), flag_value _, byte_value (Nat.le_trans hal.2 (by decide)),
    word_value hsus.2, long_value (Nat.lt_of_le_of_lt hstuck.2 (by decide)), vector_ext fun n => ?_,
    vector_ext fun n => ?_⟩
  · exact (tabulate_get _ z).trans (match z with | 0 => flag_value _ | 1 => flag_value _)
  · exact (tabulate_get _ z).trans (match z with | 0 => Polarity.ofCode_value _ | 1 => Polarity.ofCode_value _)
  · exact (tabulate_get _ n).trans (match n with
      | 0 => LaneSpeed.ofCode_value _ | 1 => LaneSpeed.ofCode_value _ | 2 => LaneSpeed.ofCode_value _
      | 3 => LaneSpeed.ofCode_value _)
  · exact (tabulate_get _ n).trans (match n with
      | 0 => byte_value (hlane 0).2 | 1 => byte_value (hlane 1).2 | 2 => byte_value (hlane 2).2
      | 3 => byte_value (hlane 3).2)

theorem encodeGlobals_decodeGlobals {p : List Byte} (hl : p.length = 41) (h : globalsCodes p) :
    encodeGlobals (decodeGlobals p) = p := by
  obtain ⟨⟨l5, l11, l12⟩, ⟨f17, f18, f19, f20, f25⟩, f33, f34, f35, f36⟩ := h
  refine Eq.trans ?_ (eq_bytes_of_length hl)
  unfold encodeGlobals decodeGlobals
  simp only [allLanes_flatMap, tabulate_get, put16_wordAt, put8_byteAt, put32_longAt, put8_finAt, Nat.lt_succ_of_le,
    putFlag_byteAt, Polarity.code_ofCode, LaneSpeed.code_ofCode, l5, l11, l12, f17, f18, f19, f20, f25, f33, f34, f35, f36,
    Fin.val_zero, Fin.val_one, Fin.val_two, show (3 : LaneNo).val = 3 from rfl, Nat.reduceAdd, List.cons_append, List.nil_append]
  rfl

/-! ## The sled record (Table 77) -/

/-- The codes of a sled record that name a sled, a polarity, a role, a vote or a flag. -/
def sledCodes (p : List Byte) : Prop :=
  byteAt p 0 ≤ 23 ∧ (byteAt p 1 ≤ 1 ∧ byteAt p 4 ≤ 1 ∧ byteAt p 37 ≤ 1 ∧ byteAt p 39 ≤ 1) ∧ byteAt p 38 ≤ 2 ∧ byteAt p 40 ≤ 2

theorem sledChecks_pass_iff (c : Cfg) (p : List Byte) :
    firstFailing (sledChecks c p) = none ↔ (decodeSled p).legal c.globals.frameTicks ∧ sledCodes p := by
  rw [firstFailing_eq_none_iff]
  simp only [sledChecks, wordIn, atMost, flagCheck, List.forall_mem_append, List.forall_mem_cons, List.forall_mem_map,
    List.not_mem_nil, allLevels, List.mem_finRange, true_imp_iff, false_imp_iff, implies_true, and_true, true_and,
    Bool.and_eq_true, decide_eq_true_eq, sledCodes, SledCfg.legal, decodeSled, tabulate_get, Nat.zero_le]
  exact ⟨fun ⟨⟨⟨sled, enable, offset, polarity⟩, costs⟩, asserts, role, combine, lost⟩ =>
      ⟨⟨offset, costs⟩, sled, ⟨enable, polarity, asserts, combine⟩, role, lost⟩,
    fun ⟨⟨offset, costs⟩, sled, ⟨enable, polarity, asserts, combine⟩, role, lost⟩ =>
      ⟨⟨⟨sled, enable, offset, polarity⟩, costs⟩, asserts, role, combine, lost⟩⟩

theorem allLevels_flatMap {α : Type} (f : Level → List α) : allLevels.flatMap f =
    f 0 ++ f 1 ++ f 2 ++ f 3 ++ f 4 ++ f 5 ++ f 6 ++ f 7 ++ f 8 ++ f 9 ++ f 10 ++ f 11 ++ f 12 ++ f 13 ++ f 14 ++ f 15 := by
  simp [allLevels, List.finRange_succ]

theorem encodeSled_bytes (i : Sled) (x : SledCfg) : encodeSled i x =
    [.ofNat 8 i.val, .ofNat 8 (if x.enable then 1 else 0), .ofNat 8 (x.offset / 256), .ofNat 8 x.offset,
      .ofNat 8 x.polarity.code,
      .ofNat 8 (x.cost.get 0 / 256), .ofNat 8 (x.cost.get 0), .ofNat 8 (x.cost.get 1 / 256), .ofNat 8 (x.cost.get 1),
      .ofNat 8 (x.cost.get 2 / 256), .ofNat 8 (x.cost.get 2), .ofNat 8 (x.cost.get 3 / 256), .ofNat 8 (x.cost.get 3),
      .ofNat 8 (x.cost.get 4 / 256), .ofNat 8 (x.cost.get 4), .ofNat 8 (x.cost.get 5 / 256), .ofNat 8 (x.cost.get 5),
      .ofNat 8 (x.cost.get 6 / 256), .ofNat 8 (x.cost.get 6), .ofNat 8 (x.cost.get 7 / 256), .ofNat 8 (x.cost.get 7),
      .ofNat 8 (x.cost.get 8 / 256), .ofNat 8 (x.cost.get 8), .ofNat 8 (x.cost.get 9 / 256), .ofNat 8 (x.cost.get 9),
      .ofNat 8 (x.cost.get 10 / 256), .ofNat 8 (x.cost.get 10), .ofNat 8 (x.cost.get 11 / 256), .ofNat 8 (x.cost.get 11),
      .ofNat 8 (x.cost.get 12 / 256), .ofNat 8 (x.cost.get 12), .ofNat 8 (x.cost.get 13 / 256), .ofNat 8 (x.cost.get 13),
      .ofNat 8 (x.cost.get 14 / 256), .ofNat 8 (x.cost.get 14), .ofNat 8 (x.cost.get 15 / 256), .ofNat 8 (x.cost.get 15),
      .ofNat 8 x.alertPolarity.code, .ofNat 8 x.alertRole.code, .ofNat 8 x.combine.code, .ofNat 8 x.lostVote.code] := by
  unfold encodeSled
  simp only [allLevels_flatMap, put8, put16, putFlag, List.cons_append, List.nil_append]

theorem decodeSled_encodeSled {frameTicks : Nat} (i : Sled) {x : SledCfg} (h : x.legal frameTicks)
    (hf : frameTicks ≤ 65535) : decodeSled (encodeSled i x) = x := by
  obtain ⟨offset, cost⟩ := h
  rw [encodeSled_bytes]
  cases x
  unfold decodeSled
  simp only [SledCfg.mk.injEq, wordAt, byteAt, List.getD_cons_zero, List.getD_cons_succ]
  refine ⟨flag_value _, word_value (Nat.le_trans (Nat.le_of_lt offset) hf), DrivePolarity.ofCode_value _, vector_ext fun k => ?_, Polarity.ofCode_value _,
    AlertRole.ofCode_value _, Combine.ofCode_value _, Heat.ofCode_value _⟩
  have carried (k : Level) := word_value (Nat.le_trans (cost k) (by decide : 1023 ≤ 65535))
  refine (tabulate_get _ k).trans ?_
  match k with
  | 0 | 1 | 2 | 3 | 4 | 5 | 6 | 7 | 8 | 9 | 10 | 11 | 12 | 13 | 14 | 15 => exact carried _
  | ⟨n + 16, past⟩ => omega

theorem encodeSled_decodeSled {p : List Byte} (hl : p.length = 41) (h : sledCodes p) :
    encodeSled (finAt 24 p 0) (decodeSled p) = p := by
  obtain ⟨sled, ⟨f1, f4, f37, f39⟩, r38, r40⟩ := h
  refine Eq.trans ?_ (eq_bytes_of_length hl)
  unfold encodeSled decodeSled
  simp only [allLevels_flatMap, tabulate_get, put16_wordAt, put8_byteAt, put8_finAt, Nat.lt_succ_of_le, putFlag_byteAt,
    DrivePolarity.code_ofCode, Polarity.code_ofCode, AlertRole.code_ofCode, Combine.code_ofCode, Heat.code_ofCode, sled, f1,
    f4, f37, f39, r38, r40, List.cons_append, List.nil_append]
  rfl

/-! ## The probe record (Table 77) -/

/-- The codes of a probe record that name a probe, a mode, a format, a class or a flag. -/
def probeCodes (p : List Byte) : Prop :=
  byteAt p 0 ≤ 47 ∧ byteAt p 2 ≤ 2 ∧ byteAt p 8 ≤ 2 ∧ (1 ≤ byteAt p 32 ∧ byteAt p 32 ≤ 2)
    ∧ byteAt p 1 ≤ 1 ∧ byteAt p 5 ≤ 1 ∧ byteAt p 6 ≤ 1 ∧ byteAt p 9 ≤ 1

theorem Heat.ofCode_ne_cool {n : Nat} (h1 : 1 ≤ n) (h2 : n ≤ 2) : Heat.ofCode n ≠ .cool := by
  match n, h1, h2 with
  | 1, _, _ | 2, _, _ => decide

theorem Heat.code_pos {x : Heat} (h : x ≠ .cool) : 1 ≤ x.code := by
  cases x with
  | cool => contradiction
  | warm | hot => decide

theorem probeChecks_pass_iff (p : List Byte) :
    firstFailing (probeChecks p) = none ↔ (decodeProbe p).legal ∧ probeCodes p := by
  rw [firstFailing_eq_none_iff]
  simp only [probeChecks, byteIn, wordIn, atMost, flagCheck, thresholdCheck, List.forall_mem_cons, List.not_mem_nil,
    false_imp_iff, implies_true, and_true, Bool.and_eq_true, decide_eq_true_eq, probeCodes, ProbeCfg.legal,
    thresholdLegal, decodeProbe]
  refine ⟨fun h => ?_, fun h => ?_⟩
  · simp only [h, and_self, Heat.ofCode_ne_cool, ne_eq, not_false_eq_true]
  · simp only [h, and_self]

theorem encodeProbe_bytes (n : Probe) (x : ProbeCfg) : encodeProbe n x =
    [.ofNat 8 n.val, .ofNat 8 (if x.enable then 1 else 0), .ofNat 8 x.mode.code, .ofNat 8 x.address, .ofNat 8 x.initCount,
      .ofNat 8 (if x.initEvery then 1 else 0), .ofNat 8 (if x.seq then 1 else 0), .ofNat 8 x.readRegister,
      .ofNat 8 x.format.code, .ofNat 8 (if x.swap then 1 else 0)]
    ++ putSigned32 x.underLimit ++ putSigned32 x.warmOver ++ putSigned32 x.hotOver ++ putSigned32 x.upperLimit
    ++ [.ofNat 8 (x.pollMs / 256), .ofNat 8 x.pollMs, .ofNat 8 x.settleMs, .ofNat 8 x.waitMs, .ofNat 8 x.nakRetries,
      .ofNat 8 x.lostLimit, .ofNat 8 x.selfClass.code] := by
  unfold encodeProbe
  simp only [put8, put16, putFlag, List.cons_append, List.nil_append, List.append_assoc]

theorem decodeProbe_encodeProbe (n : Probe) {x : ProbeCfg} (h : x.legal) : decodeProbe (encodeProbe n x) = x := by
  obtain ⟨address, initCount, register, under, warm, hot, upper, poll, settle, wait, retries, lost, _⟩ := h
  rw [encodeProbe_bytes]
  cases x
  unfold decodeProbe
  simp only [ProbeCfg.mk.injEq, putSigned32, put32, List.cons_append, List.nil_append, signedAt, longAt, wordAt, byteAt,
    List.getD_cons_zero, List.getD_cons_succ, Nat.reduceAdd]
  exact ⟨flag_value _, ProbeMode.ofCode_value _, byte_value (Nat.le_trans address (by decide)),
    byte_value (Nat.le_trans initCount (by decide)), flag_value _, flag_value _, byte_value register, Format.ofCode_value _,
    flag_value _, signed_value under, signed_value warm, signed_value hot, signed_value upper, word_value poll.2,
    byte_value settle, byte_value wait.2, byte_value (Nat.le_trans retries (by decide)),
    byte_value (Nat.le_trans lost.2 (by decide)), Heat.ofCode_value _⟩

theorem encodeProbe_decodeProbe {p : List Byte} (hl : p.length = 33) (h : probeCodes p) :
    encodeProbe (finAt 48 p 0) (decodeProbe p) = p := by
  obtain ⟨probe, mode, format, ⟨_, vote⟩, f1, f5, f6, f9⟩ := h
  refine Eq.trans ?_ (eq_bytes_of_length hl)
  unfold encodeProbe decodeProbe
  simp only [put16_wordAt, put8_byteAt, putSigned32_signedAt, put8_finAt, Nat.lt_succ_of_le, putFlag_byteAt,
    ProbeMode.code_ofCode, Format.code_ofCode, Heat.code_ofCode, probe, mode, format, vote, f1, f5, f6, f9,
    List.cons_append, List.nil_append]
  rfl

end Sys2Proof.Machine
end

section
/-! SUPPORT. The codes of an encoded record are in range, so that it passes its own checks (R175). -/

namespace Sys2Proof.Machine

open Sys2Proof

theorem flag_byte (b : Bool) : (BitVec.ofNat 8 (if b = true then 1 else 0)).toNat ≤ 1 := by cases b <;> decide
theorem Polarity.code_byte (x : Polarity) : (BitVec.ofNat 8 x.code).toNat ≤ 1 := by cases x <;> decide
theorem DrivePolarity.code_byte (x : DrivePolarity) : (BitVec.ofNat 8 x.code).toNat ≤ 1 := by cases x <;> decide
theorem Combine.code_byte (x : Combine) : (BitVec.ofNat 8 x.code).toNat ≤ 1 := by cases x <;> decide
theorem LaneSpeed.code_byte (x : LaneSpeed) : (BitVec.ofNat 8 x.code).toNat ≤ 1 := by cases x <;> decide
theorem AlertRole.code_byte (x : AlertRole) : (BitVec.ofNat 8 x.code).toNat ≤ 2 := by cases x <;> decide
theorem Heat.code_byte (x : Heat) : (BitVec.ofNat 8 x.code).toNat ≤ 2 := by cases x <;> decide
theorem ProbeMode.code_byte (x : ProbeMode) : (BitVec.ofNat 8 x.code).toNat ≤ 2 := by cases x <;> decide
theorem Format.code_byte (x : Format) : (BitVec.ofNat 8 x.code).toNat ≤ 2 := by cases x <;> decide

theorem index_byte {n k : Nat} (hn : n ≤ 256) (hk : n = k + 1) (i : Fin n) : (BitVec.ofNat 8 i.val).toNat ≤ k := by
  rw [byte_value (by omega)]
  omega

theorem globalsCodes_encodeGlobals (g : Globals) : globalsCodes (encodeGlobals g) := by
  rw [encodeGlobals_bytes]
  unfold globalsCodes
  simp only [byteAt, List.getD_cons_zero, List.getD_cons_succ]
  exact ⟨⟨index_byte (by decide) rfl _, index_byte (by decide) rfl _, index_byte (by decide) rfl _⟩,
    ⟨flag_byte _, flag_byte _, Polarity.code_byte _, Polarity.code_byte _, flag_byte _⟩, LaneSpeed.code_byte _,
    LaneSpeed.code_byte _, LaneSpeed.code_byte _, LaneSpeed.code_byte _⟩

theorem sledCodes_encodeSled (i : Sled) (x : SledCfg) : sledCodes (encodeSled i x) := by
  rw [encodeSled_bytes]
  unfold sledCodes
  simp only [byteAt, List.getD_cons_zero, List.getD_cons_succ]
  exact ⟨index_byte (by decide) rfl _, ⟨flag_byte _, DrivePolarity.code_byte _, Polarity.code_byte _, Combine.code_byte _⟩,
    AlertRole.code_byte _, Heat.code_byte _⟩

theorem probeCodes_encodeProbe (n : Probe) {x : ProbeCfg} (h : x.selfClass ≠ .cool) : probeCodes (encodeProbe n x) := by
  have vote : 1 ≤ (BitVec.ofNat 8 x.selfClass.code).toNat := by
    cases hx : x.selfClass with
    | cool => exact absurd hx h
    | warm | hot => decide
  rw [encodeProbe_bytes]
  unfold probeCodes
  simp only [byteAt, putSigned32, put32, List.cons_append, List.nil_append, List.getD_cons_zero, List.getD_cons_succ]
  exact ⟨index_byte (by decide) rfl _, ProbeMode.code_byte _, Format.code_byte _, ⟨vote, Heat.code_byte _⟩, flag_byte _,
    flag_byte _, flag_byte _, flag_byte _⟩

theorem finAt_encodeSled (i : Sled) (x : SledCfg) : finAt 24 (encodeSled i x) 0 = i := by
  rw [encodeSled_bytes]
  exact index_value (by decide) i

theorem finAt_encodeProbe (n : Probe) (x : ProbeCfg) : finAt 48 (encodeProbe n x) 0 = n := by
  rw [encodeProbe_bytes]
  simp only [List.cons_append]
  exact index_value (by decide) n

end Sys2Proof.Machine

open Sys2Proof Sys2Proof.Machine

/-- Settles O15: each record's checks ask exactly that its codes are in range and that what it decodes to is legal, and each
number at an offset is the bytes that spell it. -/
theorem recordsRoundTrip : Obligations.RecordsRoundTrip := by
  unfold Obligations.RecordsRoundTrip
  refine ⟨fun c g hg offsets => ?_, fun c p length passes => ?_, fun c i x hx frame => ?_, fun c p length passes => ?_,
    fun n x hx => ?_, fun p length passes => ?_⟩
  · have back := decodeGlobals_encodeGlobals hg
    refine ⟨congrArg List.length (encodeGlobals_bytes g), (globalsChecks_pass_iff c _).mpr ?_, back⟩
    rw [back]
    exact ⟨hg, offsets, globalsCodes_encodeGlobals g⟩
  · obtain ⟨legal, offsets, codes⟩ := (globalsChecks_pass_iff c p).mp passes
    exact ⟨legal, offsets, encodeGlobals_decodeGlobals length codes⟩
  · have back := decodeSled_encodeSled i hx frame
    refine ⟨congrArg List.length (encodeSled_bytes i x), (sledChecks_pass_iff c _).mpr ?_, finAt_encodeSled i x, back⟩
    rw [back]
    exact ⟨hx, sledCodes_encodeSled i x⟩
  · obtain ⟨legal, codes⟩ := (sledChecks_pass_iff c p).mp passes
    exact ⟨legal, encodeSled_decodeSled length codes⟩
  · have back := decodeProbe_encodeProbe n hx
    have vote : x.selfClass ≠ .cool := hx.2.2.2.2.2.2.2.2.2.2.2.2
    refine ⟨congrArg List.length (encodeProbe_bytes n x), (probeChecks_pass_iff _).mpr ?_, finAt_encodeProbe n x, back⟩
    rw [back]
    exact ⟨hx, probeCodes_encodeProbe n vote⟩
  · obtain ⟨legal, codes⟩ := (probeChecks_pass_iff p).mp passes
    exact ⟨legal, encodeProbe_decodeProbe length codes⟩
end

section
/-! SUPPORT. The timebases and the records: which effects touch the clock, and that every write stores a legal record. -/

namespace Sys2Proof.Machine

open Sys2Proof

/-! ## The clock -/

@[simp] theorem Run.post_clock (c : Cfg) (k : Notice) (r : Run) : (r.post c k).clock = r.clock := (Run.Quiet.post ..).clock
@[simp] theorem Run.refreshHeld_clock (c : Cfg) (r : Run) : (r.refreshHeld c).clock = r.clock := (Run.Quiet.refreshHeld ..).clock
@[simp] theorem Run.raise_clock (c : Cfg) (k : FaultClass) (x : Subject) (d : Nat) (r : Run) : (r.raise c k x d).clock = r.clock :=
  (Run.Quiet.raise ..).clock

@[simp] theorem Run.setZone_clock (k : ZoneState) (n : Count) (r : Run) : (r.setZone k n).clock = r.clock := rfl

@[simp] theorem Run.endEmergency_clock (c : Cfg) (r : Run) : (r.endEmergency c).clock = r.clock := by
  unfold Run.endEmergency
  dsimp only
  split <;> simp

@[simp] theorem Run.assertZone_clock (c : Cfg) (z : ZoneNo) (r : Run) : (r.assertZone c z).clock = r.clock := by
  unfold Run.assertZone
  dsimp only
  split
  · simp
  · split
    · simp [(Run.Quiet.endAllBoosts _).clock]
    · simp

@[simp] theorem Run.deassertZone_clock (c : Cfg) (r : Run) : (r.deassertZone c).clock = r.clock := by
  unfold Run.deassertZone
  split
  · split <;> simp
  · rfl
  · rfl

@[simp] theorem Run.zoneWrite_clock (c d : Cfg) (r : Run) : (r.zoneWrite c d).clock = r.clock := by
  have field (z : ZoneNo) (u : Run) : (u.zoneFieldChange c d z).clock = u.clock := by
    unfold Run.zoneFieldChange
    split <;> simp
  unfold Run.zoneWrite
  dsimp only
  split <;> simp [field]

/-- WRITE_GLOBALS restarts the timebases where it changes their divider or the frame (R170). -/
theorem Run.globalsWritten_clock (c : Cfg) (g : Globals) (r : Run) :
    (r.globalsWritten c g).clock = r.clock ∧ c.globals.prescale = g.prescale ∧ c.globals.frameTicks = g.frameTicks
      ∨ (r.globalsWritten c g).clock = r.clock.softReset := by
  unfold Run.globalsWritten
  dsimp only
  rw [Run.zoneWrite_clock]
  have loaded (n : Nat) (u : Run) : (u.loadDwells n).clock = u.clock := rfl
  by_cases same : c.globals.prescale = g.prescale ∧ c.globals.frameTicks = g.frameTicks
  · refine .inl ⟨?_, same⟩
    rw [if_pos same]
    split <;> simp only [loaded]
  · refine .inr ?_
    rw [if_neg same]
    split <;> rfl

@[simp] theorem Run.settleZone_clock (c : Cfg) (z : ZoneNo) (r : Run) : (r.settleZone c z).clock = r.clock := by
  unfold Run.settleZone
  dsimp only
  split
  · rfl
  · split <;> simp

@[simp] theorem Run.acceptAlert_clock (c : Cfg) (i : Sled) (r : Run) : (r.acceptAlert c i).clock = r.clock :=
  (Run.Evolves.followAlert ..).clock

@[simp] theorem Run.resizePool_clock (c : Cfg) (n : Nat) (r : Run) : (r.resizePool c n).clock = r.clock :=
  (Run.Quiet.revoke c { r with pool := { r.pool with size := n } }).clock

theorem Run.teardown_clock (c : Cfg) (i : Sled) (r : Run) : (r.teardown c i).clock = r.clock := by
  unfold Run.teardown
  dsimp only
  rw [Run.post_clock]
  simp only [Run.modTherm_clock, Run.modAlert_clock]
  rw [(Run.Quiet.dropProbes ..).clock, Run.modChan_clock, (Run.Quiet.zeroBooks ..).clock]
  rfl

@[simp] theorem Run.settlePresence_clock (c : Cfg) (i : Sled) (r : Run) : (r.settlePresence c i).clock = r.clock := by
  unfold Run.settlePresence Run.presenceEvent
  dsimp only
  split
  · split
    · split
      · exact (Run.Evolves.startAdmission ..).clock
      · rfl
    all_goals first | exact Run.teardown_clock .. | rfl
  · rfl

theorem Run.Evolves.admitStandby (c : Cfg) (r : Run) : Run.Evolves r (r.admitStandby c) := by
  refine .foldl (fun u i => ?_) _ r
  split
  · exact .startAdmission ..
  · exact .refl u

@[simp] theorem Run.toConfig_clock (c : Cfg) (r : Run) : (r.toConfig c).clock = r.clock := by
  have stopped := (Run.Quiet.stopLanes c ({ r with mode := .config, cause := .request }.clearBooks)).clock
  unfold Run.toConfig
  dsimp only
  rw [Run.post_clock]
  exact stopped

/-- An effect leaves the timebases and what divides them, or is a reset or a frame restart. -/
theorem Does.clock {c c' : Cfg} {r r' : Run} {i : Instr} (h : Does c r i c' r') :
    r'.clock = r.clock ∧ c'.globals.prescale = c.globals.prescale ∧ c'.globals.frameTicks = c.globals.frameTicks
      ∨ r'.clock = .start ∨ r'.clock = r.clock.softReset := by
  have same {t : Run} (e : t.clock = r.clock) :
      t.clock = r.clock ∧ c.globals.prescale = c.globals.prescale ∧ c.globals.frameTicks = c.globals.frameTicks
        ∨ t.clock = .start ∨ t.clock = r.clock.softReset := .inl ⟨e, rfl, rfl⟩
  cases h with
  | powerOn => exact .inr (.inl rfl)
  | rstNLow => exact .inr (.inl rfl)
  | resetRelease rate => exact .inr (.inl (Run.post_clock ..))
  | softReset => exact .inr (.inr (Run.post_clock ..))
  | writeGlobals t p =>
    refine (r.globalsWritten_clock c (decodeGlobals p)).imp ?_ .inr
    exact fun ⟨clock, prescale, frame⟩ => ⟨clock, prescale.symm, frame.symm⟩
  | boundary i => exact same (Run.Quiet.boundaryBooks ..).clock
  | settlePresence i => exact same (by simp)
  | toConfig t => exact same (by simp)
  | linkFault _ e => exact same (by simp)
  | expireLease => exact same (by simp [Run.expireLease])
  | admissionExpired i => exact same (Run.Evolves.admissionExpired ..).clock
  | settleZone z => exact same (by simp)
  | releaseExpired => exact same (by simp [Run.releaseExpired])
  | sampleAlert i l =>
    unfold Run.sampleAlert
    dsimp only
    split
    · exact same (by simp)
    · exact same rfl
  | acceptSample i => exact same (Run.acceptAlert_clock ..)
  | sustain i => exact same (Run.Evolves.sustain ..).clock
  | stick i => exact same (Run.Evolves.stick ..).clock
  | hotExpired i => exact same (by simp [Run.hotExpired])
  | dueEvent p => exact same (Run.Quiet.dueEvent ..).clock
  | initEnds n p => exact same (Run.withPoll_quiet ..).clock
  | notAcknowledged n k p => exact same (Run.notAcknowledged_quiet ..).clock
  | settleEnds n p => exact same (Run.Quiet.beginWaitOrRead ..).clock
  | waitEnds n p o => exact same (Run.Quiet.endPoll ..).clock
  | readEnds n b0 b1 p o => exact same ((Run.Quiet.closeOnLane ..).trans (.endPoll ..)).clock
  | transactionExpired n => exact same (Run.transactionExpired_quiet ..).clock
  | abortEnds n => exact same ((Run.Quiet.closeOnLane ..).trans (.freeLane ..)).clock
  | attemptChecked n l => exact same (Run.attemptChecked_quiet ..).clock
  | attemptTimesOut n => exact same ((Run.Quiet.abandonLane ..).trans (.attemptFailed ..)).clock
  | enterRun => exact same ((Run.Quiet.post ..).clock.trans (Run.Evolves.admitStandby ..).clock)
  | runFromSafe => exact same (by simp [Run.runFromSafe])
  | writeSled t p =>
    refine .inl ⟨?_, rfl, rfl⟩
    unfold Run.sledWritten Run.changeEnable
    split
    · rfl
    · split <;> rfl
  | setPool t p =>
    unfold Run.setPool
    split
    · exact same (by simp)
    · exact same rfl
  | setWant t p i w k => exact same (Run.Quiet.setWant ..).clock
  | startBoost t p i n => exact same (Run.Quiet.startBoost ..).clock
  | release t p i => exact same (Run.Quiet.release ..).clock
  | clearZone => exact same (by simp)
  | resetLane t p n => exact same (Run.Quiet.beginAttempt ..).clock
  | keep | sectionEnd | setPrs | presenceLine | setZonePin | zoneLine | setAlr | failValidation | writeLevels | writeProbe
  | writeScript | writeRouting | setNotices | renewLease | queryProbe | clearAlert | clearFaults => exact .inl ⟨rfl, rfl, rfl⟩

/-! ## The records -/

theorem decodeLevels_legal {p : List Byte} {v : Vector LevelEntry 16} (hp : firstFailing (levelsChecks p) = none)
    (hv : ∀ k, (v.get k).legal) (k : Level) : ((decodeLevels p v).get k).legal := by
  rw [firstFailing_eq_none_iff] at hp
  simp only [levelsChecks, List.forall_mem_cons, List.forall_mem_map, List.mem_range, decide_eq_true_eq] at hp
  obtain ⟨-, -, admits⟩ := hp
  unfold decodeLevels
  rw [mapAt_get]
  dsimp only
  split
  · exact ⟨⟨admits _ (by omega), byteAt_le p _⟩, byteAt_le p _⟩
  · exact hv k

theorem decodeRouting_legal {p : List Byte} (hp : firstFailing (routingChecks p) = none) :
    (decodeRouting p).get 6 ≠ .contain ∧ (decodeRouting p).get 7 ≠ .contain ∧ (decodeRouting p).get 9 ≠ .contain := by
  have contained : ∀ n, Action.ofCode n = .contain → n = 2 := fun n => by
    match n with
    | 0 | 1 | 2 => decide
    | n + 3 => exact nofun
  rw [firstFailing_eq_none_iff] at hp
  simp only [routingChecks, List.forall_mem_map, List.mem_range, Bool.and_eq_true, Bool.not_eq_true', Bool.and_eq_false_iff,
    beq_eq_false_iff_ne] at hp
  have never (k : Fin 10) (hk : k.val = 6 ∨ k.val = 7 ∨ k.val = 9) : (decodeRouting p).get k ≠ .contain := by
    intro e
    rw [decodeRouting, tabulate_get] at e
    rcases (hp k.val k.isLt).2 with other | other
    · exact other (contained _ e)
    · rcases hk with h | h | h <;> simp [h] at other
  exact ⟨never 6 (.inl rfl), never 7 (.inr (.inl rfl)), never 9 (.inr (.inr rfl))⟩

/-- Every effect leaves a legal configuration legal. -/
theorem Does.legal {c c' : Cfg} {r r' : Run} {i : Instr} (h : Does c r i c' r') (hc : c.legal) : c'.legal := by
  have kept := hc
  obtain ⟨globals, levels, sleds, probes, routing⟩ := hc
  cases h with
  | powerOn | rstNLow | resetRelease rate => exact Cfg.default_legal
  | writeGlobals t p _ hl hp =>
    obtain ⟨legal, offsets, -⟩ := (globalsChecks_pass_iff c p).mp hp
    exact ⟨legal, levels, fun i => ⟨offsets i, (sleds i).2⟩, probes, routing⟩
  | writeLevels t p _ hl hp => exact ⟨globals, decodeLevels_legal hp levels, sleds, probes, routing⟩
  | writeSled t p _ hl hp =>
    refine ⟨globals, levels, fun i => ?_, probes, routing⟩
    simp only [Cfg.withSled, modAt_get]
    split
    · exact ((sledChecks_pass_iff c p).mp hp).1
    · exact sleds i
  | writeProbe t p _ hl hp =>
    refine ⟨globals, levels, sleds, fun n => ?_, routing⟩
    simp only [modAt_get]
    split
    · exact ((probeChecks_pass_iff p).mp hp).1
    · exact probes n
  | writeRouting t p _ hp => exact ⟨globals, levels, sleds, probes, decodeRouting_legal hp⟩
  | _ => exact kept

/-- A configuration in range and timebases within it. -/
def inStep (c : Cfg) (r : Run) : Prop := c.legal ∧ r.clock.inRange c.globals

theorem Cfg.legal.prescale_pos {c : Cfg} (h : c.legal) : 0 < c.globals.prescale := by
  have range : ∀ n ∈ prescales, 0 < n := by decide
  exact range _ h.1.1

theorem Does.inStep {c c' : Cfg} {r r' : Run} {i : Instr} (h : Does c r i c' r') (hr : Machine.inStep c r) : Machine.inStep c' r' := by
  obtain ⟨legal, prescale, ms, frame⟩ := hr
  have legal' := h.legal legal
  have prescaled : 0 < c'.globals.prescale := legal'.prescale_pos
  have framed : 256 ≤ c'.globals.frameTicks := legal'.1.2.1.1
  refine ⟨legal', ?_⟩
  rcases h.clock with ⟨clock, hprescale, hframe⟩ | clock | clock
  · rw [clock]
    exact ⟨hprescale ▸ prescale, ms, hframe ▸ frame⟩
  · rw [clock]
    exact ⟨prescaled, by decide, Nat.lt_of_lt_of_le (Nat.zero_lt_succ _) framed⟩
  · rw [clock]
    exact ⟨prescaled, ms, Nat.lt_of_lt_of_le (Nat.zero_lt_succ _) framed⟩

theorem State.refclk_inStep {s : State} (h : inStep s.cfg s.run) : inStep s.cfg s.refclk.run := by
  obtain ⟨legal, prescale, ms, frame⟩ := h
  have prescaled := legal.prescale_pos
  refine ⟨legal, ?_⟩
  rw [s.refclk_run]
  unfold Clock.inRange
  dsimp only
  refine ⟨?_, ?_, ?_⟩
  · split <;> omega
  · split <;> omega
  · split
    · split <;> omega
    · exact frame

end Sys2Proof.Machine

open Sys2Proof Sys2Proof.Machine

/-- Settles O6: every effect of a command leaves a legal configuration and timebases in range, and so does a period. -/
theorem configurationStaysLegal : Obligations.ConfigurationStaysLegal := by
  unfold Obligations.ConfigurationStaysLegal
  intro s t legal clock h
  exact step_preserves (P := inStep)
    ⟨fun _ _ _ => id, fun c r hr => ⟨hr.1, by rw [(Run.Quiet.serveIfDue c r).clock]; exact hr.2⟩⟩
    (fun _ _ _ _ _ d hr => d.inStep hr) (fun _ _ _ => id) (fun _ _ _ => id) (fun _ => State.refclk_inStep) h ⟨legal, clock⟩
end

section
/-! SUPPORT. Requests and the frames that spell them (Table 74; assumption 15). -/

namespace Sys2Proof.Machine

open Sys2Proof

/-- A request and its frame spell each other. -/
def Spells (f : Frame) (c : Instr) : Prop := c.wf = true ∧ frameOf c = some f

theorem payloadFits_iff {p : List Byte} : payloadFits p = true ↔ p.length ≤ 124 := decide_eq_true_iff

theorem setModeOf_spells (t : Byte) {p : List Byte} (h : p.length ≤ 124) : Spells (frame t 0x03 p) (setModeOf t p) := by
  unfold setModeOf
  split
  · next e => subst e; exact ⟨rfl, rfl⟩
  · next h1 =>
    split
    · next e => subst e; exact ⟨rfl, rfl⟩
    · next h0 => exact ⟨Bool.and_eq_true_iff.mpr ⟨payloadFits_iff.mpr h, Bool.and_eq_true_iff.mpr ⟨bne_iff_ne.mpr h0, bne_iff_ne.mpr h1⟩⟩, rfl⟩

theorem readAlertOf_spells (t : Byte) {p : List Byte} (h : p.length ≤ 124) : Spells (frame t 0x34 p) (readAlertOf t p) := by
  have plain (hp : readAlertPlain p = true) : Spells (frame t 0x34 p) (.readAlert t p) :=
    ⟨by simp [Instr.wf, payloadFits, maxPayload, h, hp], rfl⟩
  unfold readAlertOf
  split
  · split
    · next e => subst e; exact ⟨rfl, rfl⟩
    · next hc => exact plain (by simpa [readAlertPlain] using hc)
  · next other =>
    refine plain ?_
    unfold readAlertPlain
    split
    · next i c => exact absurd rfl (other i c)
    · rfl

/-- A frame of each TYPE of Table 74 is spelled by the request that it spells. -/
theorem requestOfType_spells :
    ∀ k ∈ requestTypes, ∀ (t : Byte) (p : List Byte), p.length ≤ 124 → Spells (frame t k p) (requestOfType k.toNat t p) := by
  simp only [requestTypes, List.forall_mem_cons]
  refine ⟨?_, ?_, fun t p => setModeOf_spells t, ?_, ?_, ?_, ?_, ?_, ?_, ?_, ?_, ?_, ?_, ?_, ?_, ?_, ?_, ?_, ?_, ?_, ?_, ?_, ?_,
    ?_, ?_, ?_, ?_, ?_, fun t p => readAlertOf_spells t, ?_, ?_, by simp⟩
  all_goals exact fun _ _ h => ⟨payloadFits_iff.mpr h, rfl⟩

theorem requestOf_spells {f : Frame} (h : f.payload.length ≤ 124) : Spells f (requestOf f) := by
  unfold requestOf
  split
  · next known => exact requestOfType_spells _ (by simpa using known) _ _ h
  · next unknown =>
    exact ⟨Bool.and_eq_true_iff.mpr ⟨payloadFits_iff.mpr h, by simpa using unknown⟩, rfl⟩

/-- The frame of a well-formed request spells it. -/
theorem requestOf_frame {c : Instr} {f : Frame} (hw : c.wf = true) (h : frameOf c = some f) : requestOf f = c := by
  cases c <;> cases h <;> try rfl
  case unknownRequest t k p =>
    simp only [Instr.wf, Bool.and_eq_true, Bool.not_eq_true'] at hw
    exact if_neg (Bool.eq_false_iff.mp hw.2)
  case setModeSafe t p =>
    simp only [Instr.wf, setModeOther, Bool.and_eq_true, bne_iff_ne, ne_eq] at hw
    obtain ⟨-, h0, h1⟩ := hw
    exact (if_neg h1).trans (if_neg h0)
  case readAlert t p =>
    simp only [Instr.wf, Bool.and_eq_true] at hw
    show readAlertOf t p = _
    unfold readAlertOf
    split
    · next i c => exact if_neg (by simpa [readAlertPlain] using hw.2)
    · rfl

end Sys2Proof.Machine

open Sys2Proof Sys2Proof.Machine

/-- Settles O14: by the TYPE of the frame, and by the command. -/
theorem framesSpellTheirRequests : Obligations.FramesSpellTheirRequests := by
  unfold Obligations.FramesSpellTheirRequests
  exact ⟨fun _ _ hw h => requestOf_frame hw h, fun _ h => requestOf_spells h⟩
end

section
/-! SUPPORT. How a request is served (R164 to R168): the checks common to all requests, its field checks, and then its own rule
(`ownRule`), with one equation for all requests (`exec_eq_served`). -/

namespace Sys2Proof.Machine

open Sys2Proof

/-- What a request does once its checks have passed. -/
def ownRule : Instr → Body
  | .identify _ _ => report fun _ => put8 Config.vendorCode ++ put16 Config.partCode ++ put8 Config.revision ++ capacities
  | .queryPart _ _ => report partReport
  | .setModeRun _ => setModeRunBody
  | .setModeConfig _ => refuseIf (fun s => s.run.mode == .config) .notAllowed (carryOutRun Run.toConfig)
  | .setModeSafe _ _ => refuse .notAllowed
  | .reset _ _ => acceptReset
  | .writeGlobals _ p => carryOut (State.writeGlobals (decodeGlobals p))
  | .readGlobals _ _ => report fun s => encodeGlobals s.cfg.globals
  | .writeLevels _ p => carryOut fun s => { s with cfg := { s.cfg with levels := decodeLevels p s.cfg.levels } }
  | .readLevels _ _ => report fun s => encodeLevels s.cfg.levels
  | .writeSled _ p => carryOut (State.writeSled (finAt 24 p 0) (decodeSled p))
  | .readSled _ p => report fun s => encodeSled (finAt 24 p 0) (s.cfg.sled (finAt 24 p 0))
  | .writeProbe _ p => carryOut fun s =>
      { s with cfg := { s.cfg with probes := modAt (finAt 48 p 0) (fun _ => decodeProbe p) s.cfg.probes } }
  | .readProbe _ p => report fun s => encodeProbe (finAt 48 p 0) (s.cfg.probe (finAt 48 p 0))
  | .writeScript _ p => carryOut fun s => { s with cfg := { s.cfg with script := writeScriptBytes p s.cfg.script } }
  | .readScript _ p => report fun s => readScriptBytes p s.cfg.script
  | .writeRouting _ p => carryOut fun s => { s with cfg := { s.cfg with routing := decodeRouting p } }
  | .readRouting _ _ => report fun s => encodeRouting s.cfg.routing
  | .setNotices _ p => carryOut (State.setNotices (decodeMask p))
  | .setPool _ p =>
    refuseIf (fun s => decide ((decodePool p).size < s.run.floorsHeld s.cfg)) .poolTooSmall
      (carryOutRun (Run.setPool (decodePool p)))
  | .renewLease _ _ => renewLeaseBody
  | .setWant _ p =>
    withPresence (finAt 24 p 0) (carryOutRun fun c r => r.setWant c (finAt 24 p 0) (finAt 16 p 1) (finAt 4 p 2))
  | .boost _ p =>
    withPresence (finAt 24 p 0)
      (refuseIf (boostBusy (finAt 24 p 0)) .busy
        (refuseIf (boostBarred (finAt 24 p 0)) .notAllowed
          (carryOutRun fun c r => r.startBoost c (finAt 24 p 0) (byteAt p 1))))
  | .releaseSled _ p =>
    withPresence (finAt 24 p 0)
      (refuseIf (releaseBarred (finAt 24 p 0)) .notAllowed (carryOutRun fun c r => r.release c (finAt 24 p 0)))
  | .clearZone _ _ => refuseIf clearZoneBarred .notAllowed (carryOutRun Run.endEmergency)
  | .resetLane _ p =>
    refuseIf (fun s => (s.run.lane (finAt 4 p 0)).state != .failed) .notAllowed
      (carryOutRun fun c r => r.beginAttempt c (finAt 4 p 0) 1)
  | .querySled _ p => report (sledReport (finAt 24 p 0))
  | .queryPool _ _ => report poolReport
  | .queryProbe _ p => queryProbeBody (finAt 48 p 0)
  | .queryLane _ p => report (laneReport (finAt 4 p 0))
  | .readAlert _ p => report (alertReport (finAt 24 p 0))
  | .readAlertAndClear _ i => readAndClear (finAt 24 [i, 1] 0)
  | .readFaults _ _ => report faultsReport
  | .clearFaults _ _ => carryOutRun fun _ r => r.clearFaults
  | _ => refuse .badType

/-- A request's own rule behind the checks of R166 and R168. -/
def served (c : Instr) : Body := fun u =>
  if lengthAllowed c = false then (u, .refuse .badLength)
  else if acceptedIn c u.run.mode = false then (u, .refuse .wrongMode)
  else withChecks (fieldChecks u.cfg c) (ownRule c) u

/-- Whether a request is RESET, whose reply the soft reset follows. -/
def isResetRequest : Instr → Bool
  | .reset _ _ => true
  | _ => false

theorem request_eq_served {c : Instr} {lengthOk : Nat → Bool} {modeOk : Mode → Bool} {inner : List Byte → Body}
    {p : List Byte} {f : Frame} {wf isReset : Bool} (hl : lengthOk p.length = lengthAllowed c)
    (hm : ∀ m, modeOk m = acceptedIn c m) (hi : ∀ u : State, inner p u = withChecks (fieldChecks u.cfg c) (ownRule c) u)
    (s : State) : s.request f wf isReset (checked lengthOk modeOk inner p) = s.request f wf isReset (served c) := by
  congr 1
  funext u
  unfold checked served
  simp only [hl, hm, hi, Bool.not_eq_true']

theorem levelsLength_iff (n : Nat) :
    levelsLength n = decide (n ∈ [3, 5, 7, 9, 11, 13, 15, 17, 19, 21, 23, 25, 27, 29, 31, 33]) := by
  by_cases h : n < 34
  · revert n
    decide
  · have far : ∀ k ∈ [3, 5, 7, 9, 11, 13, 15, 17, 19, 21, 23, 25, 27, 29, 31, 33], k < 34 := by decide
    have beyond : ¬n ≤ 33 := by omega
    have out : n ∉ [3, 5, 7, 9, 11, 13, 15, 17, 19, 21, 23, 25, 27, 29, 31, 33] := fun hn => h (far n hn)
    simp only [levelsLength, decide_eq_false out, decide_eq_false beyond, Bool.and_false, Bool.false_and]

theorem scriptLength_iff (n : Nat) : scriptLength n = decide (3 ≤ n ∧ n ≤ 50) := (Bool.decide_and _ _).symm

/-- Every request is served by its rule behind the common checks and its field checks. -/
theorem exec_eq_served {c : Instr} {f : Frame} (h : frameOf c = some f) (s : State) :
    exec c s = s.request f c.wf (isResetRequest c) (served c) := by
  cases c <;> cases h
  all_goals
    simp only [exec, execUnknownRequest, execIdentify, execQueryPart, execSetModeRun, execSetModeConfig, execSetModeSafe, execReset,
      execWriteGlobals, execReadGlobals, execWriteLevels, execReadLevels, execWriteSled, execReadSled, execWriteProbe,
      execReadProbe, execWriteScript, execReadScript, execWriteRouting, execReadRouting, execSetNotices, execSetPool,
      execRenewLease, execSetWant, execBoost, execReleaseSled, execClearZone, execResetLane, execQuerySled, execQueryPool,
      execQueryProbe, execQueryLane, execReadAlert, execReadAlertAndClear, execReadFaults, execClearFaults]
  case unknownRequest => rfl
  case writeLevels => exact request_eq_served (levelsLength_iff _) (by intro m; rfl) (by intro u; rfl) s
  case writeScript => exact request_eq_served (scriptLength_iff _) (by intro m; rfl) (by intro u; rfl) s
  case writeRouting => exact request_eq_served rfl (by intro m; cases m <;> rfl) (by intro u; rfl) s
  case setNotices => exact request_eq_served rfl (by intro m; cases m <;> rfl) (by intro u; rfl) s
  case setWant => exact request_eq_served rfl (by intro m; cases m <;> rfl) (by intro u; rfl) s
  all_goals exact request_eq_served rfl (by intro m; rfl) (by intro u; rfl) s

/-! ## What a rule leaves of the rest of the part -/

/-- A body touches the configuration, the running part and the mark of an accepted RESET only. -/
def Body.Contained (b : Body) : Prop :=
  ∀ u : State, ∃ cfg run accepted, (b u).1 = { u with cfg := cfg, run := run, link := { u.link with resetAccepted := accepted } }

theorem Body.Contained.refuse (k : Status) : (refuse k).Contained := fun _ => ⟨_, _, _, rfl⟩
theorem Body.Contained.report (k : State → List Byte) : (report k).Contained := fun _ => ⟨_, _, _, rfl⟩
theorem Body.Contained.carryOutRun (k : Cfg → Run → Run) : (carryOutRun k).Contained := fun _ => ⟨_, _, _, rfl⟩

theorem Body.Contained.refuseIf {b : Body} {cond : State → Bool} {k : Status} (h : b.Contained) :
    (refuseIf cond k b).Contained := fun u => by
  unfold Machine.refuseIf
  split
  · exact ⟨_, _, _, rfl⟩
  · exact h u

theorem Body.Contained.setModeRunBody : setModeRunBody.Contained := fun u => by
  unfold Machine.setModeRunBody
  split
  · exact ⟨_, _, _, rfl⟩
  · split <;> exact ⟨_, _, _, rfl⟩
  · split <;> exact ⟨_, _, _, rfl⟩

theorem Body.Contained.renewLeaseBody : renewLeaseBody.Contained := fun u => by
  unfold Machine.renewLeaseBody
  split <;> exact ⟨_, _, _, rfl⟩

theorem ownRule_contained (c : Instr) : (ownRule c).Contained := by
  cases c
  case setModeRun => exact .setModeRunBody
  case renewLease => exact .renewLeaseBody
  case setModeConfig => exact .refuseIf (.carryOutRun _)
  case setPool => exact .refuseIf (.carryOutRun _)
  case setWant => exact .refuseIf (.carryOutRun _)
  case boost => exact .refuseIf (.refuseIf (.refuseIf (.carryOutRun _)))
  case releaseSled => exact .refuseIf (.refuseIf (.carryOutRun _))
  case clearZone => exact .refuseIf (.carryOutRun _)
  case resetLane => exact .refuseIf (.carryOutRun _)
  all_goals exact fun u => ⟨_, _, _, rfl⟩

theorem served_contained (c : Instr) : (served c).Contained := fun u => by
  unfold served withChecks
  split
  · exact ⟨_, _, _, rfl⟩
  · split
    · exact ⟨_, _, _, rfl⟩
    · split
      · exact ⟨_, _, _, rfl⟩
      · exact ownRule_contained c u

end Sys2Proof.Machine
end

section
/-! SUPPORT. The part's own turn, and the link across a step: what the receiver, a request and the end of an event leave of the
queues and of the parser. -/

namespace Sys2Proof.Machine

open Sys2Proof

/-! ## The part's own turn -/

/-- What the expiry of a lease comes to when it is not due any more (assumption 24). -/
theorem State.dropDue_eq (c : Instr) (s : State) :
    s.dropDue c =
      if c = .leaseExpiry ∧ s.run.pool.leaseState = .running ∧ s.run.mode ≠ .config ∧ 1 < s.run.pool.leaseRemaining then
        { s with run := { s.run with pool := { s.run.pool with leaseRemaining := s.run.pool.leaseRemaining - 1 } } }
      else s := by
  by_cases h : c = .leaseExpiry
  · subst h
    simp only [State.dropDue, Run.leaseTick_eq, true_and, and_assoc]
    split <;> rfl
  · rw [State.dropDue_of_ne h, if_neg (fun e => h e.1)]

theorem isDue_spendFree (s : State) (c : Instr) : isDue { s with run := s.run.spendFree } c = isDue s c := by
  cases c <;> rfl

theorem step_of_pending {s : State} {c : Instr} {rest : List Instr} (h : s.pending = c :: rest) :
    step s = exec c { s with pending := rest } := by
  unfold step
  rw [h]

theorem step_of_idle {s : State} (h : s.pending = []) : step s = runTurn s.ownTurn := by
  unfold step
  rw [h]

theorem State.takeFront_of {s : State} {f : Frame} (h : s.link.rx.head? = some f) : s.takeFront = .take (requestOf f) s := by
  obtain ⟨rest, h⟩ := List.head?_eq_some_iff.mp h
  unfold State.takeFront
  rw [h]

theorem State.takeDue_of {s : State} {c : Instr} {rest : List Instr} (h : s.due = c :: rest) :
    s.takeDue = if isDue s c then .take c { s with due := rest } else .pass ({ s with due := rest }.dropDue c) := by
  unfold State.takeDue
  rw [h]

theorem State.takeDue_of_nil {s : State} (h : s.due = []) : s.takeDue = .pass s.refclk := by
  unfold State.takeDue
  rw [h]

theorem State.ownTurn_of_reset {s : State} (h : s.inReset = true) : s.ownTurn = .pass s := if_pos h

theorem State.ownTurn_of_noRequest {s : State} (h : s.inReset = false) (ht : s.link.canTake = false) : s.ownTurn = s.takeDue := by
  unfold State.ownTurn
  rw [if_neg (by simp [h]), if_neg (by simp [ht])]

theorem State.ownTurn_of_request {s : State} (h : s.inReset = false) (ht : s.link.canTake = true) (hd : s.due = []) :
    s.ownTurn = s.takeFront := by
  unfold State.ownTurn
  rw [if_neg (by simp [h]), if_pos ht, if_pos (by simp [hd])]

theorem State.ownTurn_of_both {s : State} (h : s.inReset = false) (ht : s.link.canTake = true) (hd : s.due ≠ []) :
    s.ownTurn = { s with run := s.run.spendFree }.takeFront ∨ s.ownTurn = { s with run := s.run.spendFree }.takeDue := by
  unfold State.ownTurn
  rw [if_neg (by simp [h]), if_pos ht, if_neg (by simp [hd])]
  dsimp only
  split
  · exact .inl rfl
  · exact .inr rfl

end Sys2Proof.Machine

open Sys2Proof Sys2Proof.Machine

/-- Settles O1, by the definition of a step. -/
theorem stepTakesTheFrontCommand : Obligations.StepTakesTheFrontCommand := by
  unfold Obligations.StepTakesTheFrontCommand
  exact fun _ _ _ h => step_of_pending h

/-- Settles O2, by the cases of the part's own turn. -/
theorem partTakesItsOwnTurn : Obligations.PartTakesItsOwnTurn := by
  unfold Obligations.PartTakesItsOwnTurn
  intro s idle p dropped
  rw [step_of_idle idle]
  have drop (c : Instr) (rest : List Instr) : { s with due := rest }.dropDue c = dropped c { s with due := rest } :=
    State.dropDue_eq ..
  refine ⟨fun h => ?_, fun h ht hd => ?_, fun c rest h ht hd due => ?_, fun c rest h ht hd due => ?_,
    fun f rest h ht hx hd => ?_, fun f c rest h ht hx hd => ?_⟩
  · rw [State.ownTurn_of_reset h]
    rfl
  · rw [State.ownTurn_of_noRequest h ht, State.takeDue_of_nil hd]
    rfl
  · rw [State.ownTurn_of_noRequest h ht, State.takeDue_of hd, if_pos due]
    rfl
  · rw [State.ownTurn_of_noRequest h ht, State.takeDue_of hd, if_neg (by simp [due]), drop]
    rfl
  · rw [State.ownTurn_of_request h ht hd, State.takeFront_of (f := f) (by simp [hx])]
    rfl
  · intro t
    have due : t.due = c :: rest := hd
    rcases State.ownTurn_of_both h ht (by simp [hd]) with e | e
    · left
      rw [e, State.takeFront_of (s := t) hx]
      rfl
    · right
      rw [e, State.takeDue_of due, isDue_spendFree]
      by_cases hc : isDue s c = true
      · exact .inl ⟨hc, by rw [if_pos hc]; rfl⟩
      · refine .inr ⟨by simpa using hc, ?_⟩
        rw [if_neg hc]
        exact congrArg _ (State.dropDue_eq c { t with due := rest })
end

section
/-! SUPPORT. A sound link (R162 to R165, R171) across every operation on it. -/

namespace Sys2Proof.Machine

open Sys2Proof

/-! ## Operations on the link -/

/-- A state's link is sound and its commands are those of `s`. -/
def LinkedAs (s t : State) : Prop := t.link.ok ∧ t.pending = s.pending

theorem Link.initial_ok (rate : Pin) : (Link.initial rate).ok := by
  simp [Link.ok, Link.initial, Parser.ok]

theorem State.finish_ok {s : State} (h : s.link.ok) : LinkedAs s s.finish := by
  obtain ⟨rx, replies, short, parser, gap⟩ := h
  refine ⟨⟨?_, Nat.le_trans s.finish_replies_length replies, ?_, ?_, ?_⟩, s.finish_pending⟩
  · rwa [s.finish_rx]
  · rwa [s.finish_rx]
  · rwa [s.finish_parser]
  · rwa [s.finish_parser, s.finish_gap]

theorem State.acceptFrame_ok {s : State} {f : Frame} (hf : f.payload.length ≤ 124) (h : s.link.ok) : LinkedAs s (s.acceptFrame f) := by
  obtain ⟨rx, replies, short, parser, gap⟩ := h
  unfold State.acceptFrame
  split
  · next room =>
    refine ⟨⟨?_, replies, fun g hg => ?_, parser, gap⟩, rfl⟩
    · rw [List.length_append]
      exact room
    · rcases List.mem_append.mp hg with hg | hg
      · exact short g hg
      · rw [List.mem_singleton.mp hg]
        exact hf
  · exact ⟨⟨rx, replies, short, parser, gap⟩, rfl⟩

theorem State.receive_ok {s : State} {f : Frame} (hf : f.payload.length ≤ 124) (h : s.link.ok) : LinkedAs s (s.receive f) := by
  unfold State.receive
  split
  · exact ⟨h, rfl⟩
  · exact State.acceptFrame_ok hf h

theorem Link.canTake_iff (l : Link) : l.canTake = true ↔ l.rx ≠ [] ∧ l.replies.length < 4 ∧ l.resetAccepted = false := by
  have room : decide (l.replies.length < queueMax) = true ↔ l.replies.length < 4 := decide_eq_true_iff
  simp only [Link.canTake, Bool.and_eq_true, room, Bool.not_eq_true', List.isEmpty_eq_false_iff, and_assoc, ne_eq]

/-- A request carried out and answered: its frame leaves the receive queue, and its reply joins the reply queue. -/
theorem State.answer_ok {s : State} {f : Frame} {isReset : Bool} {body : Body} (hb : body.Contained) (take : s.link.canTake = true)
    (h : s.link.ok) : LinkedAs s (s.answer f isReset body) := by
  obtain ⟨rx, replies, short, parser, gap⟩ := h
  obtain ⟨-, room, -⟩ := s.link.canTake_iff.mp take
  obtain ⟨c, r, accepted, e⟩ := hb s.popFrame
  unfold State.answer
  dsimp only
  rw [e]
  refine ⟨⟨?_, ?_, fun g hg => short g (List.mem_of_mem_tail hg), parser, gap⟩, rfl⟩
  · exact Nat.le_trans (by simp [State.pushReply, State.popFrame]) rx
  · simp only [State.pushReply, State.popFrame, List.length_append, List.length_singleton]
    omega

theorem State.request_ok {s t : State} {f : Frame} {wf isReset : Bool} {body : Body} (hb : body.Contained)
    (hf : f.payload.length ≤ 124) (h : s.link.ok) (ht : s.request f wf isReset body = .next t) : LinkedAs s t := by
  obtain ⟨received, pending⟩ := State.receive_ok hf h
  unfold State.request at ht
  split at ht
  · cases ht
  · split at ht
    · cases ht; exact ⟨h, rfl⟩
    · dsimp only at ht
      split at ht
      · next taken =>
        cases ht
        obtain ⟨answered, same⟩ := State.answer_ok (f := f) (isReset := isReset) hb taken.2 received
        exact ⟨(State.finish_ok answered).1, (State.finish_pending _).trans (same.trans pending)⟩
      · cases ht
        exact ⟨(State.finish_ok received).1, (State.finish_pending _).trans pending⟩

theorem State.setParser_ok {s : State} {p : Parser} {g : Count} (hp : p.ok) (hg : g.isSome = true ↔ p ≠ .hunt) (h : s.link.ok) :
    LinkedAs s (s.setParser p g) := by
  obtain ⟨rx, replies, short, -, -⟩ := h
  exact ⟨⟨rx, replies, short, hp, hg⟩, rfl⟩

theorem State.toHunt_ok {s : State} (h : s.link.ok) : LinkedAs s (s.setParser .hunt none) :=
  State.setParser_ok trivial (by simp) h

theorem State.inFrame_ok {s : State} {p : Parser} (hp : p.ok) (hne : p ≠ .hunt) (h : s.link.ok) :
    LinkedAs s (s.setParser p gapStart) := State.setParser_ok hp (by simp [gapStart, hne]) h

theorem lenOk_iff (b : Byte) : lenOk b = true ↔ 2 ≤ b.toNat ∧ b.toNat ≤ 126 := by simp [lenOk]

theorem frameOfBytes_short {len : Byte} {kept : List Byte} (hl : lenOk len = true) (hk : kept.length = len.toNat) :
    (frameOfBytes kept).payload.length ≤ 124 := by
  obtain ⟨-, high⟩ := (lenOk_iff len).mp hl
  unfold frameOfBytes
  split
  · next tag type payload =>
    simp only [List.length_cons] at hk
    dsimp only
    omega
  · exact Nat.zero_le _
  · exact Nat.zero_le _

theorem State.checkFrame_ok {s : State} {len high low : Byte} {kept : List Byte} (hl : lenOk len = true)
    (hk : kept.length = len.toNat) (h : s.link.ok) : LinkedAs s (s.checkFrame len kept high low) := by
  unfold State.checkFrame
  split
  · exact State.acceptFrame_ok (frameOfBytes_short hl hk) h
  · exact ⟨h, rfl⟩

theorem State.takeLinkByte_ok {s : State} (b : Byte) (h : s.link.ok) : LinkedAs s (s.takeLinkByte b) := by
  have parser := h.2.2.2.1
  unfold State.takeLinkByte
  split
  · split
    · exact State.inFrame_ok trivial (by simp) h
    · exact ⟨h, rfl⟩
  · split
    · next hl => exact State.inFrame_ok ⟨hl, by have := ((lenOk_iff b).mp hl).1; simp; omega⟩ (by simp) h
    · exact State.toHunt_ok h
  · next len kept e =>
    rw [e] at parser
    obtain ⟨hl, hk⟩ := parser
    split
    · next more => exact State.inFrame_ok ⟨hl, by simpa using more⟩ (by simp) h
    · exact State.inFrame_ok ⟨hl, by simp; omega⟩ (by simp) h
  · next len kept e =>
    rw [e] at parser
    exact State.inFrame_ok (p := .crcLow len kept b) parser (by simp) h
  · next len kept high e =>
    rw [e] at parser
    obtain ⟨hl, hk⟩ := parser
    exact State.checkFrame_ok hl hk (State.toHunt_ok h).1

theorem State.frameEnds_ok {s : State} (h : s.link.ok) : LinkedAs s s.frameEnds := by
  unfold State.frameEnds
  split
  · exact ⟨h, rfl⟩
  · split
    · exact ⟨Link.initial_ok _, rfl⟩
    · exact ⟨h, rfl⟩

/-! ## Commands -/

theorem frameOf_short {c : Instr} {f : Frame} (hw : c.wf = true) (hf : frameOf c = some f) : f.payload.length ≤ 124 := by
  cases c <;> cases hf
  case unknownRequest => exact payloadFits_iff.mp (Bool.and_eq_true_iff.mp hw).1
  case setModeSafe => exact payloadFits_iff.mp (Bool.and_eq_true_iff.mp hw).1
  case readAlert => exact payloadFits_iff.mp (Bool.and_eq_true_iff.mp hw).1
  case setModeRun | setModeConfig | readAlertAndClear => simp [frame]
  all_goals exact payloadFits_iff.mp hw

theorem State.event_ok {s t : State} {b : Bool} {g : State → State} (hg : LinkedAs s (g s)) (h : s.link.ok)
    (ht : s.event b g = .next t) : LinkedAs s t := by
  rcases s.event_next b g with e | e <;> rw [e] at ht <;> cases ht
  · exact ⟨(State.finish_ok hg.1).1, (State.finish_pending _).trans hg.2⟩
  · exact ⟨h, rfl⟩

theorem exec_ok {c : Instr} {s t : State} (h : s.link.ok) (hw : c.wf = true) (ht : exec c s = .next t) : LinkedAs s t := by
  cases hf : frameOf c with
  | some f =>
    rw [exec_eq_served hf] at ht
    exact State.request_ok (served_contained c) (frameOf_short hw hf) h ht
  | none =>
    have onRun {b : Bool} {g : Cfg → Run → Run} (e : s.runEvent b g = .next t) : LinkedAs s t := State.event_ok ⟨h, rfl⟩ h e
    have atPin {b b' : Bool} {r : Run} {g : Cfg → Run → Run}
        (e : (if b = true then .next { s with run := r } else s.runEvent b' g) = Host.Outcome.next t) : LinkedAs s t := by
      split at e
      · cases e; exact ⟨h, rfl⟩
      · exact onRun e
    have hunt := (State.toHunt_ok h).1
    cases c <;> simp only [exec] at ht
    case powerOn => cases ht; exact ⟨Link.initial_ok _, rfl⟩
    case rstNLow => cases ht; exact ⟨Link.initial_ok _, rfl⟩
    case resetRelease rate =>
      unfold execResetRelease at ht
      split at ht <;> cases ht
      · exact ⟨(State.finish_ok (Link.initial_ok rate)).1, State.finish_pending _⟩
      · exact ⟨h, rfl⟩
    case frameReceived b => exact State.event_ok (State.takeLinkByte_ok b h) h ht
    case linkByteReceived b => exact State.event_ok (State.takeLinkByte_ok b h) h ht
    case frameLengthDiscard b => exact State.event_ok (g := State.discardLength) ⟨hunt, rfl⟩ h ht
    case linkGapExpiry =>
      exact State.event_ok (g := fun s => (s.setParser .hunt none).raiseLink .truncated) ⟨hunt, rfl⟩ h ht
    case frameSent => exact State.event_ok (State.frameEnds_ok h) h ht
    case presenceLineChange =>
      unfold execPresenceLineChange at ht
      exact atPin ht
    case zoneInputChange =>
      unfold execZoneInputChange at ht
      exact atPin ht
    case alertSampleChange =>
      unfold execAlertSampleChange at ht
      exact atPin ht
    all_goals first | exact onRun ht | cases hf

/-- Every command, on a sound link, goes on with a sound link and leaves the commands that wait. -/
theorem exec_next_ok {c : Instr} {s : State} (h : s.link.ok) (hw : c.wf = true) : ∃ t, exec c s = .next t ∧ LinkedAs s t := by
  obtain ⟨t, ht⟩ := (commandsStopOnlyWhenIllFormed c s).1 hw
  exact ⟨t, ht, exec_ok h hw ht⟩

theorem State.refclk_ok {s : State} (h : s.link.ok) : LinkedAs s s.refclk := by
  obtain ⟨rx, replies, short, parser, gap⟩ := h
  obtain ⟨due, e⟩ := s.refclk_eq
  rw [e]
  refine ⟨⟨rx, replies, short, parser, ?_⟩, rfl⟩
  rw [← gap]
  dsimp only [State.fell]
  split <;> simp

/-- What is due is an event. -/
theorem wf_of_isDue {s : State} {c : Instr} (h : isDue s c = true) : c.wf = true := by
  cases c <;> first | rfl | exact absurd h Bool.false_ne_true

end Sys2Proof.Machine

open Sys2Proof Sys2Proof.Machine

/-- Settles O5: the command at the front is well-formed; so is the request of a frame that fits, and an event that is due. -/
theorem linkStaysSound : Obligations.LinkStaysSound := by
  unfold Obligations.LinkStaysSound
  intro s h wf
  have goesOn {u : State} {c : Instr} (hu : u.link = s.link) (hp : ∀ c ∈ u.pending, c.wf = true) (hc : c.wf = true) :
      ∃ t, exec c u = .next t ∧ t.link.ok ∧ ∀ c ∈ t.pending, c.wf = true := by
    obtain ⟨t, ht, ok, pending⟩ := exec_next_ok (s := u) (hu ▸ h) hc
    exact ⟨t, ht, ok, pending ▸ hp⟩
  have front {u : State} (hu : u.link = s.link) (hp : u.pending = s.pending) :
      ∃ t, runTurn u.takeFront = .next t ∧ t.link.ok ∧ ∀ c ∈ t.pending, c.wf = true := by
    unfold State.takeFront
    split
    · next f rest hx => exact goesOn hu (hp ▸ wf) (requestOf_spells (h.2.2.1 f (by rw [← hu, hx]; exact .head _))).1
    · exact ⟨u, rfl, hu ▸ h, hp ▸ wf⟩
  have due {u : State} (hu : u.link = s.link) (hp : u.pending = s.pending) :
      ∃ t, runTurn u.takeDue = .next t ∧ t.link.ok ∧ ∀ c ∈ t.pending, c.wf = true := by
    unfold State.takeDue
    split
    · split
      · next hd => exact goesOn hu (hp ▸ wf) (wf_of_isDue hd)
      · refine ⟨_, rfl, ?_⟩
        rw [State.dropDue_frame]
        exact ⟨hu ▸ h, hp ▸ wf⟩
    · obtain ⟨ok, pending⟩ := State.refclk_ok (s := u) (hu ▸ h)
      exact ⟨_, rfl, ok, by rw [pending, hp]; exact wf⟩
  cases hp : s.pending with
  | cons c rest =>
    rw [step_of_pending hp]
    rw [hp] at wf
    exact goesOn rfl (fun d hd => wf d (.tail _ hd)) (wf c (.head _))
  | nil =>
    rw [step_of_idle hp]
    unfold State.ownTurn
    split
    · exact ⟨s, rfl, h, wf⟩
    · split
      · split
        · exact front rfl rfl
        · dsimp only
          split
          · exact front rfl rfl
          · exact due rfl rfl
      · exact due rfl rfl
end

section
/-! SUPPORT. Requests that wait, and requests that are refused (R164 to R168, R175). -/

namespace Sys2Proof.Machine

open Sys2Proof

/-- A request taken at once and refused: nothing changes but its answer. -/
theorem State.request_refused {f : Frame} {s : State} (h : Ready f s) {isReset : Bool} {body : Body} {a : Answer}
    (hb : body s.popFrame = (s.popFrame, a)) (ha : a.status ≠ .ok) :
    s.request f true isReset body = .next (s.answered f (put8 a.status.code ++ a.content)) := by
  have mark : (isReset && a.status == Status.ok) = false := by simp [ha]
  rw [State.request_ready h hb, mark]
  unfold State.finish
  simp only [State.pushReply, Run.serveIfDue_idem]
  rfl

/-- A frame that finds room joins the receive queue (R164). -/
theorem State.acceptFrame_of_room {s : State} (h : s.link.rx.length < 4) (f : Frame) :
    s.acceptFrame f = { s with link := { s.link with rx := s.link.rx ++ [f] } } := if_pos h

/-- A frame that finds the receive queue full is discarded (R164). -/
theorem State.acceptFrame_of_full {s : State} (h : 4 ≤ s.link.rx.length) (f : Frame) :
    s.acceptFrame f = s.raiseLink .overrun := if_neg (Nat.not_lt.mpr h)

theorem State.receive_of_front {s : State} {f : Frame} (h : s.link.rx.head? = some f) : s.receive f = s := if_pos h

theorem State.receive_of_other {s : State} {f : Frame} (h : s.link.rx.head? ≠ some f) : s.receive f = s.acceptFrame f := if_neg h

theorem served_badLength {c : Instr} (h : lengthAllowed c = false) (u : State) : served c u = (u, .refuse .badLength) := if_pos h

theorem served_wrongMode {c : Instr} {u : State} (hl : lengthAllowed c = true) (hm : acceptedIn c u.run.mode = false) :
    served c u = (u, .refuse .wrongMode) := by
  unfold served
  rw [if_neg (by simp [hl]), if_pos hm]

/-- A request of an allowed length in a mode that accepts it comes to its field checks. -/
theorem served_checks {c : Instr} {u : State} (hl : lengthAllowed c = true) (hm : acceptedIn c u.run.mode = true) :
    served c u = withChecks (fieldChecks u.cfg c) (ownRule c) u := by
  unfold served
  rw [if_neg (by simp [hl]), if_neg (by simp [hm])]

/-- A request that passes all checks comes to its own rule. -/
theorem served_passes {c : Instr} {u : State} (hl : lengthAllowed c = true) (hm : acceptedIn c u.run.mode = true)
    (hc : firstFailing (fieldChecks u.cfg c) = none) : served c u = ownRule c u := by
  rw [served_checks hl hm, withChecks_passes hc]

theorem exec_refused {c : Instr} {f : Frame} {s : State} {a : Answer} (hw : c.wf = true) (hf : frameOf c = some f) (h : Ready f s)
    (hb : served c s.popFrame = (s.popFrame, a)) (ha : a.status ≠ .ok) :
    exec c s = .next (s.answered f (put8 a.status.code ++ a.content)) := by
  rw [exec_eq_served hf, hw]
  exact State.request_refused h hb ha

/-- A request that passes all checks and can be taken: its rule, the service of the arbiter, and its reply (R165, R167). -/
theorem exec_replied {c : Instr} {f : Frame} {s : State} {d : Cfg} {r : Run} {a : Answer} (hw : c.wf = true)
    (hf : frameOf c = some f) (h : Ready f s) (hl : lengthAllowed c = true) (hm : acceptedIn c s.run.mode = true)
    (hc : firstFailing (fieldChecks s.cfg c) = none) (hr : isResetRequest c = false)
    (hb : ownRule c s.popFrame = ({ s.popFrame with cfg := d, run := r }, a)) :
    exec c s = .next (s.replied f (put8 a.status.code ++ a.content) d r) := by
  rw [exec_eq_served hf, hw, hr]
  exact State.request_replied h ((served_passes (u := s.popFrame) hl hm hc).trans hb)

end Sys2Proof.Machine

open Sys2Proof Sys2Proof.Machine

/-- Settles O16: reception leaves a frame at the front that is another's, or a link that takes none. -/
theorem requestsWaitTheirTurn : Obligations.RequestsWaitTheirTurn := by
  unfold Obligations.RequestsWaitTheirTurn
  intro c f s hw hf hr
  have waits (h : ¬((s.receive f).link.rx.head? = some f ∧ (s.receive f).link.canTake = true)) :
      exec c s = .next (s.receive f).finish := by
    rw [exec_eq_served hf, hw]
    exact State.request_waits hr _ _ h
  have appended (h : s.link.rx.head? ≠ some f) (room : s.link.rx.length < 4) :
      s.receive f = { s with link := { s.link with rx := s.link.rx ++ [f] } } := by
    rw [State.receive_of_other h, State.acceptFrame_of_room room]
  refine ⟨fun some other room => ?_, fun other full => ?_, fun blocked => ⟨fun front => ?_, fun empty => ?_⟩⟩
  · have received := appended other room
    have head : (s.receive f).link.rx.head? = s.link.rx.head? := by
      rw [received]
      rw [List.head?_append]
      cases queue : s.link.rx with
      | nil => exact absurd queue some
      | cons x xs => rfl
    rw [waits fun h => other (head ▸ h.1), received]
  · have received : s.receive f = s.raiseLink .overrun := by
      rw [State.receive_of_other other, State.acceptFrame_of_full full]
    rw [waits fun h => other (by rw [received] at h; exact h.1), received]
  all_goals
    have shut {l : Link} (hl : l.replies = s.link.replies ∧ l.resetAccepted = s.link.resetAccepted) : ¬l.canTake = true := by
      rw [Link.canTake_iff, hl.1, hl.2]
      rintro ⟨-, room, free⟩
      rcases blocked with full | accepted
      · omega
      · exact absurd (free.symm.trans accepted) Bool.false_ne_true
  · have received : s.receive f = s := State.receive_of_front front
    rw [waits fun h => shut ⟨by rw [received], by rw [received]⟩ h.2, received]
  · have received : s.receive f = { s with link := { s.link with rx := [f] } } := by
      rw [appended (by simp [empty]) (by simp [empty]), empty]
      rfl
    rw [waits fun h => shut ⟨by rw [received], by rw [received]⟩ h.2, received]

/-- Settles O17: the checks common to all requests come before everything else. -/
theorem requestsAreRefusedUnchanged : Obligations.RequestsAreRefusedUnchanged := by
  unfold Obligations.RequestsAreRefusedUnchanged
  refine ⟨fun tag type payload s short unknown ready => ?_, fun c f s hw hf length ready => ?_,
    fun c f s hw hf length mode ready => ?_⟩
  · have wf : (Instr.unknownRequest tag type payload).wf = true :=
      Bool.and_eq_true_iff.mpr ⟨payloadFits_iff.mpr short, by simpa using unknown⟩
    exact exec_refused wf rfl ready (a := .refuse .badType) rfl nofun
  · exact exec_refused hw hf ready (served_badLength length _) nofun
  · exact exec_refused hw hf ready (served_wrongMode length mode) nofun
end

section
/-! SUPPORT. The first failing field (R175): with the checks in the order of their offsets, the least offset of a failing one. -/

namespace Sys2Proof.Machine

open Sys2Proof

/-- Checks made from offset 0 upward. -/
abbrev Upward (cs : List Check) : Prop := cs.Pairwise fun a b => a.1 ≤ b.1

theorem upward_of_offsets {cs : List Check} {ks : List Nat} (h : cs.map (·.1) = ks) (hs : ks.Pairwise (· ≤ ·)) : Upward cs := by
  subst h
  exact List.pairwise_map.mp hs

theorem mem_failing {cs : List Check} {k : Nat} {x : Check} (hx : x ∈ cs) (hk : x.1 = k) (hf : (!x.2) = true) : (k, false) ∈ cs := by
  obtain ⟨j, b⟩ := x
  cases b with
  | true => cases hf
  | false => exact hk ▸ hx

/-- The first failing offset is the least one that fails. -/
theorem firstFailing_eq_some_iff {cs : List Check} (h : Upward cs) (k : Nat) :
    firstFailing cs = some k ↔ (k, false) ∈ cs ∧ ∀ j, j < k → (j, false) ∉ cs := by
  induction cs with
  | nil => simp [firstFailing]
  | cons x cs ih =>
    obtain ⟨first, rest⟩ := List.pairwise_cons.mp h
    obtain ⟨m, b⟩ := x
    cases b with
    | true =>
      have skip : firstFailing ((m, true) :: cs) = firstFailing cs := by simp [firstFailing]
      simp only [skip, ih rest, List.mem_cons, Prod.mk.injEq, Bool.false_eq_true, and_false, false_or]
    | false =>
      have found : firstFailing ((m, false) :: cs) = some m := by simp [firstFailing]
      simp only [found, Option.some.injEq, List.mem_cons, Prod.mk.injEq, and_true]
      constructor
      · rintro rfl
        exact ⟨.inl rfl, fun j hj => not_or.mpr ⟨Nat.ne_of_lt hj, fun hm => absurd (first _ hm) (Nat.not_le.mpr hj)⟩⟩
      · rintro ⟨fails, least⟩
        rcases fails with rfl | later
        · rfl
        · refine Classical.byContradiction fun ne => ?_
          exact least m (Nat.lt_of_le_of_ne (first _ later) ne) (.inl rfl)

theorem upward_levelsChecks (p : List Byte) : Upward (levelsChecks p) := by
  unfold levelsChecks Upward
  simp only [List.pairwise_cons, List.mem_cons, List.mem_map, List.mem_range, List.pairwise_map]
  refine ⟨by simp, by simp, List.pairwise_lt_range.imp fun h => by omega⟩

theorem upward_mapRange (n : Nat) (f : Nat → Bool) : Upward ((List.range n).map fun k => (k, f k)) :=
  List.pairwise_map.mpr (List.pairwise_lt_range.imp Nat.le_of_lt)

theorem upward_fieldChecks (c : Cfg) (i : Instr) : Upward (fieldChecks c i) := by
  cases i
  case writeLevels t p => exact upward_levelsChecks p
  case writeRouting t p => exact upward_mapRange ..
  case setNotices t p => exact upward_mapRange ..
  case writeGlobals t p =>
    exact upward_of_offsets (ks := [0, 2, 4, 5, 6, 7, 9, 11, 12, 13, 14, 15, 17, 18, 19, 20, 21, 23, 25, 26, 27, 29, 33, 34, 35, 36,
      37, 38, 39, 40]) rfl (by decide)
  case writeSled t p =>
    exact upward_of_offsets (ks := [0, 1, 2, 4, 5, 7, 9, 11, 13, 15, 17, 19, 21, 23, 25, 27, 29, 31, 33, 35, 37, 38, 39, 40]) rfl
      (by decide)
  case writeProbe t p =>
    exact upward_of_offsets (ks := [0, 1, 2, 3, 4, 5, 6, 7, 8, 9, 10, 14, 18, 22, 26, 28, 29, 30, 31, 32]) rfl (by decide)
  case setPool t p => exact upward_of_offsets (ks := [0, 2, 6]) rfl (by decide)
  case setWant t p => exact upward_of_offsets (ks := [0, 1, 2]) rfl (by decide)
  case readScript t p => exact upward_of_offsets (ks := [0, 0, 2]) rfl (by decide)
  case writeScript t p => exact upward_of_offsets (ks := [0, 0]) rfl (by decide)
  case boost t p => exact upward_of_offsets (ks := [0, 1]) rfl (by decide)
  case readAlert t p => exact upward_of_offsets (ks := [0, 1]) rfl (by decide)
  case readAlertAndClear t i => exact upward_of_offsets (ks := [0, 1]) rfl (by decide)
  all_goals first | exact .nil | exact List.pairwise_singleton _ _

theorem mem_mapRange {n j : Nat} {f : Nat → Bool} : (j, false) ∈ (List.range n).map (fun k => (k, f k)) ↔ j < n ∧ f j = false := by
  simp only [List.mem_map, List.mem_range, Prod.mk.injEq]
  constructor
  · rintro ⟨k, hk, rfl, h⟩
    exact ⟨hk, h⟩
  · rintro ⟨hj, h⟩
    exact ⟨j, hj, rfl, h⟩

theorem levelCount_eq {p : List Byte} {count : Nat} (h : p.length = 1 + 2 * count) : levelCount p = count := by
  unfold levelCount
  omega

theorem mem_levelsChecks {p : List Byte} {count : Nat} (h : p.length = 1 + 2 * count) (j : Nat) :
    (j, false) ∈ levelsChecks p ↔
      j = 0 ∧ (15 < byteAt p 0 ∨ 16 < byteAt p 0 + count) ∨ ∃ n, n < count ∧ j = 1 + 2 * n ∧ byteAt p j = 0 := by
  unfold levelsChecks
  rw [levelCount_eq h]
  simp only [List.mem_cons, List.mem_map, List.mem_range, Prod.mk.injEq, false_eq_decide_iff, decide_eq_false_iff_not,
    Nat.not_le, Nat.lt_one_iff, ← or_assoc, ← and_or_left]
  refine or_congr_right (exists_congr fun n => and_congr_right fun _ => ⟨?_, ?_⟩)
  · rintro ⟨rfl, zero⟩
    exact ⟨rfl, zero⟩
  · rintro ⟨rfl, zero⟩
    exact ⟨rfl, zero⟩

theorem mem_routingChecks (p : List Byte) (j : Nat) :
    (j, false) ∈ routingChecks p ↔ j < 10 ∧ (3 < byteAt p j ∨ byteAt p j = 2 ∧ (j = 6 ∨ j = 7 ∨ j = 9)) := by
  unfold routingChecks
  rw [mem_mapRange]
  simp only [Bool.and_eq_false_iff, decide_eq_false_iff_not, Nat.not_le, Bool.not_eq_false', Bool.and_eq_true, Bool.or_eq_true,
    beq_iff_eq, or_assoc]

theorem mem_noticesChecks (p : List Byte) (j : Nat) : (j, false) ∈ noticesChecks p ↔ j < 5 ∧ 1 < byteAt p j := by
  unfold noticesChecks
  rw [show flagCheck p = fun k => (k, decide (byteAt p k ≤ 1)) from rfl, mem_mapRange, decide_eq_false_iff_not, Nat.not_le]

theorem mem_poolChecks (p : List Byte) (j : Nat) :
    (j, false) ∈ poolChecks p ↔
      j = 0 ∧ 8000 < wordAt p 0 ∨ j = 2 ∧ 600000 < longAt p 2 ∨ j = 6 ∧ 8000 < wordAt p 6 := by
  show _ ↔ j = 0 ∧ Config.poolMax < _ ∨ j = 2 ∧ Config.leaseMax < _ ∨ j = 6 ∧ Config.poolMax < _
  simp [poolChecks, wordIn, longIn]

end Sys2Proof.Machine

open Sys2Proof Sys2Proof.Machine

/-- Settles O18: the checks stand in the order of their offsets, so that the first that fails is the least that fails. -/
theorem firstFailingFieldIsReported : Obligations.FirstFailingFieldIsReported := by
  unfold Obligations.FirstFailingFieldIsReported
  have least {cs : List Check} {bad : Nat → Prop} {k : Nat} (h : Upward cs) (hb : ∀ j, (j, false) ∈ cs ↔ bad j) :
      firstFailing cs = some k ↔ bad k ∧ ∀ j, j < k → ¬bad j := by
    simp only [firstFailing_eq_some_iff h, hb]
  refine ⟨upward_fieldChecks, fun c f s k hw hf length mode failing ready => ?_, fun c tag p k =>
    ⟨fun count length => least (upward_fieldChecks c (.writeLevels tag p)) (mem_levelsChecks length),
      least (upward_fieldChecks c (.writeRouting tag p)) (mem_routingChecks p),
      least (upward_fieldChecks c (.setNotices tag p)) (mem_noticesChecks p),
      least (upward_fieldChecks c (.setPool tag p)) (mem_poolChecks p)⟩⟩
  have refused : served c s.popFrame = (s.popFrame, .badField k) :=
    (served_checks (u := s.popFrame) length mode).trans (withChecks_fails failing ..)
  exact exec_refused hw hf ready refused nofun
end

section
/-! SUPPORT. The requests that report (R167): the reply of one that passes its checks. -/

namespace Sys2Proof.Machine

open Sys2Proof

/-- A request that passes all checks and reports is answered OK with its report. -/
theorem exec_reports (c : Instr) {f : Frame} {s : State} {content : State → List Byte} {bytes : List Byte} (hw : c.wf = true)
    (hf : frameOf c = some f) (h : Ready f s) (hl : lengthAllowed c = true) (hm : acceptedIn c s.run.mode = true)
    (hc : firstFailing (fieldChecks s.cfg c) = none) (hr : isResetRequest c = false) (hb : ownRule c = report content)
    (he : content s.popFrame = bytes) : exec c s = .next (s.answered f (0 :: bytes)) := by
  subst he
  exact exec_replied hw hf h hl hm hc hr (d := s.cfg) (r := s.run) (a := .ok (content s.popFrame))
    (by rw [hb]; rfl)

theorem passes_atMost {p : List Byte} {k n : Nat} (h : byteAt p k ≤ n) : firstFailing [atMost p k n] = none := by
  simp [firstFailing, atMost, h]

theorem payloadFits_of_length {p : List Byte} {n : Nat} (h : p.length = n) (hn : n ≤ 124) : payloadFits p = true :=
  payloadFits_iff.mpr (h ▸ hn)

theorem put8_zero_append (bytes : List Byte) : put8 0 ++ bytes = 0 :: bytes := rfl

end Sys2Proof.Machine

open Sys2Proof Sys2Proof.Machine

/-- Settles O23: each read passes its checks and reports the bytes of its record. -/
theorem configurationIsRead : Obligations.ConfigurationIsRead := by
  unfold Obligations.ConfigurationIsRead
  refine ⟨fun tag s ready => ?_, fun tag s ready => ?_, fun tag p s length sled ready => ?_, fun tag p s length probe ready => ?_,
    fun tag p s length some most low inside ready => ?_, fun tag s ready => ?_⟩
  · exact exec_reports (.readGlobals tag []) rfl rfl ready rfl rfl rfl rfl rfl rfl
  · exact exec_reports (.readLevels tag []) rfl rfl ready rfl rfl rfl rfl rfl rfl
  · exact exec_reports (.readSled tag p) (payloadFits_of_length length (by decide)) rfl ready (by simp [lengthAllowed, length]) rfl
      (passes_atMost sled) rfl rfl rfl
  · exact exec_reports (.readProbe tag p) (payloadFits_of_length length (by decide)) rfl ready (by simp [lengthAllowed, length])
      rfl (passes_atMost probe) rfl rfl rfl
  · have passes : firstFailing (scriptReadChecks p) = none := by
      simp [firstFailing, scriptReadChecks, byteIn, low, inside, some, most]
    exact exec_reports (.readScript tag p) (payloadFits_of_length length (by decide)) rfl ready (by simp [lengthAllowed, length])
      rfl passes rfl rfl rfl
  · exact exec_reports (.readRouting tag []) rfl rfl ready rfl rfl rfl rfl rfl rfl

/-- Settles O21: the report is read before the measurements are cleared. -/
theorem alertIsReadAndCleared : Obligations.AlertIsReadAndCleared := by
  unfold Obligations.AlertIsReadAndCleared
  refine ⟨fun tag p s length sled keep ready => ?_, fun tag k s sled ready => ?_, fun i s => ?_⟩
  · have plain : (Instr.readAlert tag p).wf = true := by
      match p, length with
      | [a, b], _ =>
        have ne : b ≠ 1#8 := by rintro rfl; cases keep
        exact Bool.and_eq_true_iff.mpr ⟨rfl, bne_iff_ne.mpr ne⟩
    have passes : firstFailing (alertChecks p) = none := by simp [firstFailing, alertChecks, atMost, sled, keep]
    exact exec_reports (.readAlert tag p) plain rfl ready (by simp [lengthAllowed, length]) rfl passes rfl rfl rfl
  · have passes : firstFailing (alertChecks [k, 1]) = none := by
      simp [firstFailing, alertChecks, atMost, byteAt, sled]
    exact exec_replied (c := .readAlertAndClear tag k) rfl rfl ready rfl rfl passes rfl rfl
  · unfold alertReport
    dsimp only
    split <;> simp [putFlag, *]

/-- Settles O22: the reports of both severities and the alarm, and both records emptied. -/
theorem faultsAreReadAndCleared : Obligations.FaultsAreReadAndCleared := by
  unfold Obligations.FaultsAreReadAndCleared
  refine ⟨fun tag s ready => ?_, fun tag s ready => ?_⟩
  · intro block
    have same (v : SeverityRecord) : faultBlock v = block v := by
      unfold faultBlock
      dsimp only [block]
      cases v.first <;> rfl
    have alarm : s.popFrame.alarm = (s.run.severe.first.isSome || s.run.mode == .safe) := by
      simp [State.alarm, Run.alarm, ready.1]
    have report : faultsReport s.popFrame
        = block s.run.severe ++ block s.run.advisory ++ put8 (if s.run.severe.first.isSome || s.run.mode == .safe then 1 else 0) := by
      simp only [faultsReport, alarm, same, putFlag, State.popFrame_run]
    exact exec_reports (.readFaults tag []) rfl rfl ready rfl rfl rfl rfl rfl report
  · intro r
    refine ⟨exec_replied (c := .clearFaults tag []) rfl rfl ready rfl rfl rfl rfl rfl, ?_⟩
    simp [r, Run.alarm, SeverityRecord.empty]
end

section
/-! SUPPORT. The status reports (Table 78), field by field. -/

namespace Sys2Proof.Machine

open Sys2Proof

/-- A reply of status OK, its content spelled in another way. -/
theorem answered_ok {f : Frame} {s : State} {bytes other : List Byte} (h : put8 0 ++ bytes = other) :
    Host.Outcome.next (φ := Fault) (ρ := Refusal) (s.answered f (0 :: bytes)) = .next (s.answered f other) := by
  subst h
  rfl

theorem Run.raisePlace_eq (r : Run) (i : Sled) :
    r.raisePlace i = ((r.raiseOrder.findIdx? (· == i)).map (· + 1)).getD 0 := by
  unfold Run.raisePlace
  cases r.raiseOrder.findIdx? (· == i) <;> rfl

theorem Poll.retryByte_eq (free : Nat) (q : Poll) :
    [q.retryByte free] = if q.phase = .init ∨ q.phase = .read then put8 q.retries else [Config.idleRetryByte free] := by
  unfold Poll.retryByte
  cases q.phase <;> rfl

end Sys2Proof.Machine

open Sys2Proof Sys2Proof.Machine

/-- Settles O20: each query passes its checks, and its report is the fields of Table 78 in their order. -/
theorem statusIsReported : Obligations.StatusIsReported := by
  unfold Obligations.StatusIsReported
  refine ⟨fun tag s ready => ?_, fun tag s ready => ?_, fun tag p s length lane ready => ?_, fun tag p s length sled ready => ?_,
    fun tag p s length probe ready => ?_⟩
  · refine (exec_reports (.queryPart tag []) rfl rfl ready rfl rfl rfl rfl rfl rfl).trans (answered_ok ?_)
    simp only [partReport, zoneInputBlock, Run.zoneAsserted, putCount, State.popFrame_run, State.popFrame_cfg,
      State.popFrame_rate, List.append_assoc]
    cases s.run.validation <;> rfl
  · refine (exec_reports (.queryPool tag []) rfl rfl ready rfl rfl rfl rfl rfl rfl).trans (answered_ok ?_)
    simp only [poolReport, Run.sumGrants, Run.sumLoans, Run.sumDraining, Run.headroom, State.popFrame_run, State.popFrame_cfg,
      List.append_assoc]
    rfl
  · refine (exec_reports (.queryLane tag p) (payloadFits_of_length length (by decide)) rfl ready (by simp [lengthAllowed, length])
      rfl (passes_atMost lane) rfl rfl rfl).trans (answered_ok ?_)
    simp only [laneReport, State.popFrame_run, State.popFrame_cfg, List.append_assoc]
    cases (s.run.lane (finAt 4 p 0)).poll <;> rfl
  · refine (exec_reports (.querySled tag p) (payloadFits_of_length length (by decide)) rfl ready (by simp [lengthAllowed, length])
      rfl (passes_atMost sled) rfl rfl rfl).trans (answered_ok ?_)
    simp only [sledReport, lifeBlock, channelBlock, booksBlock, thermalBlock, Run.voteBlock, Run.voteFields, votesOf, Run.ceiling,
      Life.awaitingCode, putCount, Run.raisePlace_eq, State.popFrame_run, State.popFrame_cfg, List.append_assoc]
    rfl
  · intro n x inHand gs
    have groups : probeGroups s.cfg s.run n = gs := by
      simp only [probeGroups, Poll.retryByte_eq]
      rfl
    have report : put8 0 ++ probeReport n s.popFrame
        = put8 0 ++ put8 x.health.code ++ put8 x.failures ++ putFlag x.needsInit ++ put8 x.run.code ++ put16 (x.due.getD 0)
          ++ put16 x.overruns ++ put8 (presenceMap (gs.map Option.isSome)) ++ (gs.filterMap id).flatten := by
      simp only [probeReport, State.popFrame_run, State.popFrame_cfg, groups, putCount, List.append_assoc]
      rfl
    rw [← report]
    exact exec_replied (c := .queryProbe tag p) (payloadFits_of_length length (by decide)) rfl ready
      (by simp [lengthAllowed, length]) rfl (passes_atMost probe) rfl rfl
end

section
/-! SUPPORT. The requests that write the configuration (R170). -/

namespace Sys2Proof.Machine

open Sys2Proof

/-- A request that passes all checks and carries out a change of the configuration and the running part. -/
theorem exec_carriedOut (c : Instr) {f : Frame} {s : State} {d : Cfg} {r : Run} (hw : c.wf = true) (hf : frameOf c = some f)
    (h : Ready f s) (hl : lengthAllowed c = true) (hm : acceptedIn c s.run.mode = true)
    (hc : firstFailing (fieldChecks s.cfg c) = none) (hr : isResetRequest c = false)
    (hb : ownRule c s.popFrame = ({ s.popFrame with cfg := d, run := r }, .ok [])) :
    exec c s = .next (s.replied f [0] d r) := exec_replied hw hf h hl hm hc hr hb

theorem levelsChecks_passes {p : List Byte} (hp : 1 ≤ levelCount p) (range : byteAt p 0 + levelCount p ≤ 16)
    (admits : ∀ j, j < levelCount p → 1 ≤ byteAt p (1 + 2 * j)) : firstFailing (levelsChecks p) = none := by
  rw [firstFailing_eq_none_iff]
  simp only [levelsChecks, List.forall_mem_cons, List.forall_mem_map, List.mem_range, decide_eq_true_eq]
  exact ⟨by omega, range, admits⟩

theorem routingChecks_passes {p : List Byte} (range : ∀ k, k < 10 → byteAt p k ≤ 3) (h6 : byteAt p 6 ≠ 2) (h7 : byteAt p 7 ≠ 2)
    (h9 : byteAt p 9 ≠ 2) : firstFailing (routingChecks p) = none := by
  rw [firstFailing_eq_none_iff]
  simp only [routingChecks, List.forall_mem_map, List.mem_range, Bool.and_eq_true, decide_eq_true_eq, Bool.not_eq_true',
    Bool.and_eq_false_iff, Bool.or_eq_false_iff, beq_eq_false_iff_ne]
  refine fun k hk => ⟨range k hk, ?_⟩
  by_cases h : byteAt p k = 2
  · exact .inr ⟨⟨fun e => h6 (e ▸ h), fun e => h7 (e ▸ h)⟩, fun e => h9 (e ▸ h)⟩
  · exact .inl h

theorem Action.code_ofCode {n : Nat} (h : n ≤ 3) : (Action.ofCode n).code = n := by
  match n, h with
  | 0, _ | 1, _ | 2, _ | 3, _ => rfl

theorem scriptWriteChecks_passes {p : List Byte} (some : 3 ≤ p.length) (inside : wordAt p 0 + (p.length - 2) ≤ 512) :
    firstFailing (scriptWriteChecks p) = none := by
  have low : wordAt p 0 ≤ 511 := by omega
  simp [firstFailing, scriptWriteChecks, low, inside]

theorem noticesChecks_passes {p : List Byte} (h : ∀ k, k < 5 → byteAt p k ≤ 1) : firstFailing (noticesChecks p) = none := by
  rw [firstFailing_eq_none_iff]
  simpa [noticesChecks, flagCheck] using h

end Sys2Proof.Machine

open Sys2Proof Sys2Proof.Machine

/-- Settles O24: the checks pass, and each write replaces the entries it carries. -/
theorem plainConfigurationIsWritten : Obligations.PlainConfigurationIsWritten := by
  unfold Obligations.PlainConfigurationIsWritten
  refine ⟨fun tag p s some odd config range admits ready => ?_, fun tag p s length config passes ready => ?_,
    fun tag p s some most config inside ready => ?_, fun tag p s length mode range h6 h7 h9 ready => ?_,
    fun tag p s length mode flags ready => ?_⟩
  · have short : p.length ≤ 33 := by
      have entries : (p.length - 1) / 2 ≤ 16 := by omega
      omega
    have length : lengthAllowed (.writeLevels tag p) = true := by
      refine (levelsLength_iff p.length).symm.trans ?_
      simp [levelsLength, some, short, odd]
    refine ⟨decodeLevels p s.cfg.levels, exec_carriedOut (.writeLevels tag p) (payloadFits_iff.mpr (by omega)) rfl ready length
      (by simp [acceptedIn, config]) (levelsChecks_passes (by unfold levelCount; omega) range admits) rfl rfl, fun k => ?_⟩
    unfold decodeLevels
    rw [mapAt_get]
    rfl
  · refine ⟨modAt (finAt 48 p 0) (fun _ => decodeProbe p) s.cfg.probes, exec_carriedOut (.writeProbe tag p)
      (payloadFits_of_length length (by decide)) rfl ready (by simp [lengthAllowed, length]) (by simp [acceptedIn, config]) passes
      rfl rfl, fun n => ?_⟩
    obtain ⟨-, probe, -⟩ := (probeChecks_pass_iff p).mp passes
    have same : n = finAt 48 p 0 ↔ n.val = byteAt p 0 := by
      rw [Fin.ext_iff, finAt_val (Nat.lt_succ_of_le probe)]
    simp only [modAt_get, same]
  · refine ⟨writeScriptBytes p s.cfg.script, exec_carriedOut (.writeScript tag p) (payloadFits_iff.mpr (by omega)) rfl ready
      (by simp [lengthAllowed, some, most]) (by simp [acceptedIn, config]) (scriptWriteChecks_passes some inside) rfl ?_,
      fun k => ?_⟩
    · simp only [ownRule, carryOut]
      rfl
    · unfold writeScriptBytes
      rw [mapAt_get]
  · refine ⟨decodeRouting p, exec_carriedOut (.writeRouting tag p) (payloadFits_of_length length (by decide)) rfl ready
      (by simp [lengthAllowed, length]) (by cases hm : s.run.mode <;> simp_all [acceptedIn]) (routingChecks_passes range h6 h7 h9) rfl
      rfl, fun k => ?_⟩
    unfold decodeRouting
    rw [tabulate_get, Action.code_ofCode (range k.val k.isLt)]
  · exact exec_carriedOut (.setNotices tag p) (payloadFits_of_length length (by decide)) rfl ready (by simp [lengthAllowed, length])
      (by cases hm : s.run.mode <;> simp_all [acceptedIn]) (noticesChecks_passes flags) rfl rfl
end

section
/-! SUPPORT. The zone (R87 to R92): its readings and its operations, in the words of the statements. -/

namespace Sys2Proof.Machine

open Sys2Proof

theorem Run.zoneActive_iff {c : Cfg} {r : Run} {z : ZoneNo} :
    r.zoneActive c z = true
      ↔ c.globals.zoneEnable.get z = true ∧ (r.zone.filters.get z).accepted ≠ (c.globals.zonePolarity.get z).deasserted := by
  simp [Run.zoneActive, Run.zoneAsserted, Polarity.asserts]

theorem Run.anyZoneActive_eq_false_iff {c : Cfg} {r : Run} :
    r.anyZoneActive c = false ↔ ¬r.zoneActive c 0 = true ∧ ¬r.zoneActive c 1 = true := by
  simp [Run.anyZoneActive]

/-- The readings of the zone depend on its filters only. -/
theorem Run.zoneActive_congr {c : Cfg} {r t : Run} (h : t.zone.filters = r.zone.filters) (z : ZoneNo) :
    t.zoneActive c z = r.zoneActive c z := by
  unfold Run.zoneActive Run.zoneAsserted
  rw [h]

/-- The end of an emergency (R89, R90). -/
theorem Run.endEmergency_eq (c : Cfg) (r : Run) :
    r.endEmergency c =
      ((if c.globals.zoneReleaseMs = 0 then r.setZone .normal none else r.setZone .releasing (some c.globals.zoneReleaseMs)).post c
        .zone).refreshHeld c := by
  unfold Run.endEmergency
  by_cases h : c.globals.zoneReleaseMs = 0
  · simp only [h, Nat.lt_irrefl, if_true, if_false]
  · simp only [h, Nat.pos_of_ne_zero h, if_true, if_false]

/-- Outside RUN a zone that becomes asserted ends no boost (R92). -/
theorem Run.assertZone_of_ne_run {c : Cfg} {z : ZoneNo} {r : Run} (h : r.mode ≠ .run) :
    r.assertZone c z = ((r.setZone .emergency none).raise c .zoneAlarm (.zoneInput z) r.zone.state.code).post c .zone := by
  have mode : (((r.setZone .emergency none).raise c .zoneAlarm (.zoneInput z) r.zone.state.code).post c .zone).mode ≠ .run := by
    rcases ((Run.Quiet.raise c .zoneAlarm (.zoneInput z) r.zone.state.code (r.setZone .emergency none)).trans
      (.post c .zone _)).mode with e | ⟨e, -⟩
    · exact fun k => h (e.symm.trans k)
    · exact absurd e h
  unfold Run.assertZone
  dsimp only
  split
  · rfl
  · rw [if_neg (by simpa using mode)]

theorem Run.deassertZone_eq (c : Cfg) (r : Run) :
    r.deassertZone c =
      if r.zone.state = .emergency then
        if r.anyZoneActive c = false ∧ c.globals.zoneLatch = false then r.endEmergency c else r.post c .zone
      else r := by
  unfold Run.deassertZone
  cases h : r.zone.state <;> simp

end Sys2Proof.Machine
end

section
/-! SUPPORT. WRITE_GLOBALS and WRITE_SLED with their side effects (R72, R91, R170). -/

namespace Sys2Proof.Machine

open Sys2Proof

/-- What WRITE_GLOBALS does to the timebases and the channels, before the zone (R3, R5, R170). -/
def Run.timingWritten (before g : Globals) (r : Run) : Run :=
  let r := if before.prescale = g.prescale ∧ before.frameTicks = g.frameTicks then r else r.restartFrame
  if before.rampFrames = g.rampFrames then r else r.loadDwells g.rampFrames

theorem Run.globalsWritten_eq (c : Cfg) (g : Globals) (r : Run) :
    r.globalsWritten c g = (r.timingWritten c.globals g).zoneWrite c { c with globals := g } := rfl

theorem Run.timingWritten_frame (before g : Globals) (r : Run) :
    r.timingWritten before g =
      { r with clock := (r.timingWritten before g).clock, sleds := (r.timingWritten before g).sleds } := by
  unfold Run.timingWritten
  dsimp only
  split <;> split <;> rfl

theorem Run.timingWritten_clock (before g : Globals) (r : Run) :
    (r.timingWritten before g).clock =
      if before.prescale ≠ g.prescale ∨ before.frameTicks ≠ g.frameTicks then { r.clock with prescaleCount := 0, frame := 0 }
      else r.clock := by
  have loaded (n : Nat) (u : Run) : (u.loadDwells n).clock = u.clock := rfl
  unfold Run.timingWritten
  dsimp only
  by_cases same : before.prescale = g.prescale ∧ before.frameTicks = g.frameTicks
  · rw [if_pos same, if_neg (fun differs => (Classical.not_and_iff_not_or_not.mpr differs) same)]
    split <;> simp only [loaded]
  · rw [if_neg same, if_pos (Classical.not_and_iff_not_or_not.mp same)]
    split <;> rfl

theorem Run.timingWritten_sled (before g : Globals) (r : Run) (i : Sled) :
    (r.timingWritten before g).sleds.get i =
      { r.sleds.get i with
        chan :=
          { r.chan i with
            carrier := if before.prescale ≠ g.prescale ∨ before.frameTicks ≠ g.frameTicks then .idle else (r.chan i).carrier
            ticks := if before.prescale ≠ g.prescale ∨ before.frameTicks ≠ g.frameTicks then 0 else (r.chan i).ticks
            dwell := if before.rampFrames = g.rampFrames then (r.chan i).dwell else g.rampFrames } } := by
  unfold Run.timingWritten
  dsimp only
  by_cases same : before.prescale = g.prescale ∧ before.frameTicks = g.frameTicks
  · have keeps : ¬(before.prescale ≠ g.prescale ∨ before.frameTicks ≠ g.frameTicks) :=
      fun differs => (Classical.not_and_iff_not_or_not.mpr differs) same
    rw [if_pos same]
    simp only [if_neg keeps]
    split
    · rfl
    · simp only [Run.loadDwells, mapAt_get]
      rfl
  · rw [if_neg same]
    simp only [if_pos (Classical.not_and_iff_not_or_not.mp same)]
    split <;> simp only [Run.loadDwells, Run.restartFrame, mapAt_get, Channel.idle] <;> rfl

/-- In CONFIG the change of an input's reading under a write (R91). -/
theorem Run.zoneFieldChange_eq (c d : Cfg) (z : ZoneNo) (r : Run) :
    r.zoneFieldChange c d z =
      if r.zoneActive d z = true ∧ ¬r.zoneActive c z = true then r.assertZone d z
      else if r.zoneActive c z = true ∧ ¬r.zoneActive d z = true then r.deassertZone d
      else r := by
  unfold Run.zoneFieldChange
  cases r.zoneActive c z <;> cases r.zoneActive d z <;> rfl

theorem Run.zoneWrite_of_same (c : Cfg) (r : Run) : r.zoneWrite c c = r := by
  have field (z : ZoneNo) (u : Run) : u.zoneFieldChange c c z = u := by
    rw [Run.zoneFieldChange_eq, if_neg (fun h => h.2 h.1), if_neg (fun h => h.2 h.1)]
  unfold Run.zoneWrite
  simp [field]

theorem Run.zoneWrite_eq {c d : Cfg} {r v : Run} (hv : (r.zoneFieldChange c d 0).zoneFieldChange c d 1 = v) :
    r.zoneWrite c d =
      if c.globals.zoneLatch = true ∧ d.globals.zoneLatch = false ∧ v.zone.state = .emergency ∧ v.anyZoneActive d = false then
        v.endEmergency d
      else v := by
  unfold Run.zoneWrite
  simp only [hv, Bool.and_eq_true, Bool.not_eq_true', beq_iff_eq, and_assoc]

/-- A write that repeats the values held changes nothing (R170). -/
theorem Run.globalsWritten_of_same (c : Cfg) (r : Run) : r.globalsWritten c c.globals = r := by
  rw [Run.globalsWritten_eq, Run.zoneWrite_of_same]
  simp [Run.timingWritten]

theorem Run.raise_filters (c : Cfg) (k : FaultClass) (x : Subject) (d : Nat) (r : Run) :
    (r.raise c k x d).zone = r.zone := (Run.Quiet.raise ..).zone

@[simp] theorem Run.post_zone (c : Cfg) (k : Notice) (r : Run) : (r.post c k).zone = r.zone := (Run.Quiet.post ..).zone

/-- In CONFIG the operations on the zone leave its filters and the mode. -/
theorem Run.zoneFieldChange_keeps {c d : Cfg} {z : ZoneNo} {r : Run} (h : r.mode = .config) :
    (r.zoneFieldChange c d z).zone.filters = r.zone.filters ∧ (r.zoneFieldChange c d z).mode = .config := by
  have raised (x : Subject) (k : Nat) (u : Run) (hu : u.mode = .config) : (u.raise d .zoneAlarm x k).mode = .config := by
    rcases (Run.Quiet.raise d .zoneAlarm x k u).mode with e | ⟨e, -⟩
    · exact e.trans hu
    · rw [hu] at e; cases e
  have ended : (r.endEmergency d).zone.filters = r.zone.filters ∧ (r.endEmergency d).mode = .config := by
    rw [Run.endEmergency_eq]
    have frame (u : Run) : ((u.post d .zone).refreshHeld d).zone = u.zone ∧ ((u.post d .zone).refreshHeld d).mode = u.mode :=
      ⟨Run.post_zone .., Run.post_mode ..⟩
    rw [(frame _).1, (frame _).2]
    split <;> exact ⟨rfl, h⟩
  rw [Run.zoneFieldChange_eq]
  split
  · rw [Run.assertZone_of_ne_run (by rw [h]; decide)]
    constructor
    · rw [Run.post_zone, Run.raise_filters]
      rfl
    · rw [Run.post_mode]
      exact raised _ _ _ h
  · split
    · rw [Run.deassertZone_eq]
      split
      · split
        · exact ended
        · exact ⟨by rw [Run.post_zone], by rw [Run.post_mode, h]⟩
      · exact ⟨rfl, h⟩
    · exact ⟨rfl, h⟩

end Sys2Proof.Machine

open Sys2Proof Sys2Proof.Machine

/-- Settles O25: in CONFIG an input that a write makes asserted ends no boost, and the readings of the inputs after the first
field change are those before it. -/
theorem globalsAreWritten : Obligations.GlobalsAreWritten := by
  unfold Obligations.GlobalsAreWritten
  intro tag p s length config passes ready g old c restarts asserted clear zoned ended taken
  have written (d : Cfg) (r : Run) (hb : ownRule (.writeGlobals tag p) s.popFrame = ({ s.popFrame with cfg := d, run := r }, .ok [])) :
      exec (.writeGlobals tag p) s = .next (s.replied (frame tag 0x10 p) [0] d r) :=
    exec_carriedOut (.writeGlobals tag p) (payloadFits_of_length length (by decide)) rfl ready (by simp [lengthAllowed, length])
      (by simp [acceptedIn, config]) passes rfl hb
  have effect := written c (s.run.globalsWritten s.cfg g) rfl
  let u := s.run.timingWritten old g
  have frame : u = { s.run with clock := u.clock, sleds := u.sleds } := Run.timingWritten_frame ..
  have zone : u.zone = s.run.zone := by rw [frame]
  have mode : u.mode = .config := by rw [frame]; exact config
  have end_eq (r : Run) : r.endEmergency c = ended r := Run.endEmergency_eq c r
  have active {r : Run} (hr : r.zone.filters = s.run.zone.filters) (e : Globals) (z : ZoneNo) :
      r.zoneActive { s.cfg with globals := e } z = true ↔ asserted e z := by
    rw [Run.zoneActive_iff, hr]
  have quiet {r : Run} (hr : r.zone.filters = s.run.zone.filters) : r.anyZoneActive c = false ↔ clear := by
    rw [Run.anyZoneActive_eq_false_iff, active hr, active hr]
  have field {r : Run} (hr : r.zone.filters = s.run.zone.filters) (hm : r.mode = .config) (z : ZoneNo) :
      r.zoneFieldChange s.cfg c z = taken r z := by
    have before : r.zoneActive s.cfg z = true ↔ asserted old z := active hr old z
    have after : r.zoneActive c z = true ↔ asserted g z := active hr g z
    rw [Run.zoneFieldChange_eq]
    by_cases now : asserted g z <;> by_cases was : asserted old z
    · exact ((if_neg fun k => k.2 (before.mpr was)).trans (if_neg fun k => k.2 (after.mpr now))).trans
        ((if_neg fun k => k.2 was).trans (if_neg fun k => k.2.1 now)).symm
    · exact ((if_pos ⟨after.mpr now, mt before.mp was⟩).trans (Run.assertZone_of_ne_run (by rw [hm]; decide))).trans
        (if_pos ⟨now, was⟩).symm
    · refine ((if_neg fun k => now (after.mp k.1)).trans (if_pos ⟨before.mpr was, mt after.mp now⟩)).trans
        (Eq.trans ?_ (if_neg fun k => now k.1).symm)
      rw [Run.deassertZone_eq]
      by_cases emergency : r.zone.state = .emergency
      · refine (if_pos emergency).trans (Eq.trans ?_ (if_pos ⟨was, now, emergency⟩).symm)
        simp only [quiet hr, end_eq]
        rfl
      · exact (if_neg emergency).trans (if_neg fun k => emergency k.2.2).symm
    · exact ((if_neg fun k => now (after.mp k.1)).trans (if_neg fun k => was (before.mp k.1))).trans
        ((if_neg fun k => now k.1).trans (if_neg fun k => was k.1)).symm
  obtain ⟨filters0, mode0⟩ := Run.zoneFieldChange_keeps (c := s.cfg) (d := c) (z := 0) mode
  obtain ⟨filters1, mode1⟩ := Run.zoneFieldChange_keeps (c := s.cfg) (d := c) (z := 1) mode0
  have first : u.zoneFieldChange s.cfg c 0 = taken u 0 := field (by rw [zone]) mode 0
  have second : (taken u 0).zoneFieldChange s.cfg c 1 = taken (taken u 0) 1 := by
    rw [← first]
    exact field (by rw [filters0, zone]) mode0 1
  rw [first, second] at filters1
  refine ⟨u, frame, Run.timingWritten_clock .., Run.timingWritten_sled _ _ _, ?_, fun same => ?_⟩
  · intro v
    have hv : v.zone.filters = s.run.zone.filters := by
      rw [filters1, ← first, filters0, zone]
    have last : u.zoneWrite s.cfg c
        = if old.zoneLatch = true ∧ g.zoneLatch = false ∧ v.zone.state = .emergency ∧ clear then ended v else v := by
      rw [Run.zoneWrite_eq (v := v) (by rw [first, second]), end_eq]
      simp only [quiet hv]
      rfl
    rw [effect, Run.globalsWritten_eq]
    exact congrArg (fun r => Host.Outcome.next (s.replied _ [0] c r)) last
  · have kept : c = s.cfg := by
      show { s.cfg with globals := g } = s.cfg
      rw [same]
    rw [effect, kept, same, Run.globalsWritten_of_same]
    rfl

/-- Settles O26: the record replaced, and the sled's state by what becomes of `enable`. -/
theorem sledRecordIsWritten : Obligations.SledRecordIsWritten := by
  unfold Obligations.SledRecordIsWritten
  intro tag p s length config passes ready i x
  refine ⟨(s.cfg.withSled i x).sleds, s.run.sledWritten s.cfg i x,
    exec_carriedOut (.writeSled tag p) (payloadFits_of_length length (by decide)) rfl ready (by simp [lengthAllowed, length])
      (by simp [acceptedIn, config]) passes rfl rfl, fun j => ?_, fun same => ?_, fun on off => ?_, fun off on => ?_⟩
  · exact modAt_get ..
  · exact if_pos same.symm
  · exact (if_neg (by rw [on, off]; decide)).trans (if_neg (by rw [off]; decide))
  · exact (if_neg (by rw [on, off]; decide)).trans (if_pos on)
end

section
/-! SUPPORT. Faults without a sled to contain, the end of every boost, and the operations on the zone (R55, R56, R87 to R92, R140). -/

namespace Sys2Proof.Machine

open Sys2Proof

/-! ## A walk over the sleds -/

/-- A walk that changes each sled it comes to, and no other, changes every sled of its list once. -/
theorem foldl_sleds_get {f : Run → Sled → Run} {g : Sled → SledRun → SledRun}
    (hf : ∀ r i j, (f r i).sleds.get j = if j = i then g i (r.sleds.get i) else r.sleds.get j) {is : List Sled} (hn : is.Nodup)
    (r : Run) (j : Sled) : (is.foldl f r).sleds.get j = if j ∈ is then g j (r.sleds.get j) else r.sleds.get j := by
  induction is generalizing r with
  | nil => simp
  | cons i is ih =>
    obtain ⟨fresh, rest⟩ := List.nodup_cons.mp hn
    rw [List.foldl_cons, ih rest, hf]
    by_cases h : j = i
    · subst h
      simp [fresh]
    · simp [h]

theorem allSleds_nodup : allSleds.Nodup := List.nodup_finRange 24

theorem mem_allSleds (i : Sled) : i ∈ allSleds := List.mem_finRange i

/-! ## The end of every boost (R55, R56) -/

/-- A sled after the early end of its boost: the loan drains, the boost waits for its re-arm. -/
def SledRun.boostEnded (x : SledRun) : SledRun :=
  if x.books.boost = .running then
    { x with
      books := { x.books with draining := x.books.draining + x.books.loan, loan := 0, boost := .rearm, boostFrames := 0 }
      chan := { x.chan with boostStep := false } }
  else x

theorem SledRun.boostEnded_boost (x : SledRun) : x.boostEnded.books.boost ≠ .running := by
  unfold SledRun.boostEnded
  split
  · nofun
  · assumption

theorem SledRun.boostEnded_units (x : SledRun) :
    x.boostEnded.books.grant = x.books.grant ∧ x.boostEnded.books.loan + x.boostEnded.books.draining = x.books.loan + x.books.draining := by
  unfold SledRun.boostEnded
  split
  · exact ⟨rfl, by simp; omega⟩
  · exact ⟨rfl, rfl⟩

theorem Run.endBoostEarly_get (r : Run) (i j : Sled) :
    (r.endBoostEarly i).sleds.get j = if j = i then (r.sleds.get i).boostEnded else r.sleds.get j := by
  unfold Run.endBoostEarly SledRun.boostEnded
  by_cases h : (r.sleds.get i).books.boost = .running
  · have running : ((r.books i).boost == .running) = true := by simpa [Run.books] using h
    rw [if_pos running, if_pos h]
    simp only [Run.modChan, Run.modSled, Run.endBoost_sleds, modAt_get]
    split <;> simp
  · have still : ¬((r.books i).boost == .running) = true := by simpa [Run.books] using h
    rw [if_neg still, if_neg h]
    split
    · next e => rw [e]
    · rfl

/-- The early end of a boost leaves everything but its sled's record and the boost list. -/
theorem Run.endBoostEarly_frame (r : Run) (i : Sled) :
    r.endBoostEarly i = { r with sleds := (r.endBoostEarly i).sleds, boostList := (r.endBoostEarly i).boostList } := by
  unfold Run.endBoostEarly
  split <;> rfl

theorem Run.endAllBoosts_frame (r : Run) :
    r.endAllBoosts = { r with sleds := r.endAllBoosts.sleds, boostList := r.endAllBoosts.boostList } := by
  unfold Run.endAllBoosts
  generalize allSleds = is
  induction is generalizing r with
  | nil => rfl
  | cons i is ih =>
    rw [List.foldl_cons, ih, r.endBoostEarly_frame i]

theorem Run.endAllBoosts_get (r : Run) (i : Sled) : r.endAllBoosts.sleds.get i = (r.sleds.get i).boostEnded := by
  unfold Run.endAllBoosts
  rw [foldl_sleds_get (g := fun _ => SledRun.boostEnded) (fun r i j => r.endBoostEarly_get i j) allSleds_nodup,
    if_pos (mem_allSleds i)]

/-! ## Faults that contain no sled (R140, R143) -/

theorem Run.record_frame (c : Cfg) (v : Severity) (f : FaultRecord) (r : Run) :
    r.record c v f = { r with
      severe := (r.record c v f).severe, advisory := (r.record c v f).advisory, notices := (r.record c v f).notices } := by
  unfold Run.record Run.post
  cases v <;> (dsimp only; split <;> rfl)

/-- Entry to SAFE from RUN: boosts end and every class entry is held (R155). -/
def Run.toSafe (c : Cfg) (r : Run) : Run := (({ r with mode := .safe, cause := .fault }.endAllBoosts).refreshHeld c).post c .mode

theorem Run.demandSafe_eq (c : Cfg) (r : Run) : r.demandSafe c = if r.mode = .run then r.toSafe c else r := by
  unfold Run.demandSafe Run.toSafe
  cases r.mode <;> rfl

/-- A fault whose subject covers no sled is recorded, or not, and may demand SAFE. -/
theorem Run.raise_uncovered {c : Cfg} {k : FaultClass} {x : Subject} {d : Nat} {r : Run} (h : r.covered x = []) :
    ∃ severe advisory notices, r.raise c k x d = { r with severe := severe, advisory := advisory, notices := notices }
      ∨ r.mode = .run
        ∧ r.raise c k x d = { r with severe := severe, advisory := advisory, notices := notices }.toSafe c := by
  unfold Run.raise
  dsimp only
  have contained (f : FaultRecord) : (r.record c .severe f).contain c x = r.record c .severe f := by
    have none : (r.record c .severe f).covered x = [] := by
      rw [r.record_frame c .severe f]
      cases x <;> exact h
    unfold Run.contain
    rw [none]
    rfl
  split
  · exact ⟨r.severe, r.advisory, r.notices, .inl rfl⟩
  · exact ⟨_, _, _, .inl (r.record_frame ..)⟩
  · rw [contained]
    exact ⟨_, _, _, .inl (r.record_frame ..)⟩
  · generalize hu : r.record c .severe _ = u
    have frame := r.record_frame c .severe { cls := k, subject := x, time := r.clock.stamp, detail := d }
    rw [hu] at frame
    refine ⟨u.severe, u.advisory, u.notices, ?_⟩
    rw [Run.demandSafe_eq, ← frame]
    by_cases run : r.mode = .run
    · exact .inr ⟨run, if_pos (by rw [frame]; exact run)⟩
    · exact .inl ((if_neg (by rw [frame]; exact run)).trans rfl)

end Sys2Proof.Machine
end

section
/-! SUPPORT. The end of an emergency and the start of one, in the words of the statements (R88 to R92). -/

namespace Sys2Proof.Machine

open Sys2Proof

theorem Run.post_zone_notices (c : Cfg) (r : Run) :
    (r.post c .zone).notices = if c.mask.zone then r.notices.insert .zone else r.notices := by
  unfold Run.post
  split <;> simp_all [noticeAllowed]

/-- An entry that the end of an event holds no longer, seen from a state with the same queue. -/
theorem Run.refreshHeld_unholds {c : Cfg} {r₀ r : Run} (hq : r.queue = r₀.queue) (h : r₀.unholds (r.refreshHeld c)) :
    (r.refreshHeld c).arbiterDue = true := by
  refine Run.refreshHeld_arbiterDue_of_unholds ?_
  unfold Run.unholds Run.queued at h ⊢
  rwa [hq]

/-- The zone once an emergency has ended (R89, R90). -/
def Zone.ended (ms : Nat) (z : Zone) : Zone :=
  { z with state := if ms = 0 then .normal else .releasing, release := if ms = 0 then none else some ms }

/-- The end of an emergency: the zone, a notice and the held flags, and nothing else (R89, R90, R92). -/
theorem Run.endEmergency_spec (c : Cfg) (r : Run) :
    r.endEmergency c = { r with
        zone := (r.endEmergency c).zone, notices := (r.endEmergency c).notices, queue := (r.endEmergency c).queue
        arbiterDue := (r.endEmergency c).arbiterDue }
      ∧ (r.endEmergency c).zone = r.zone.ended c.globals.zoneReleaseMs
      ∧ (r.endEmergency c).notices = (if c.mask.zone then r.notices.insert .zone else r.notices)
      ∧ (r.endEmergency c).queue.map (fun e => (e.sled, e.cls, e.wanted)) = r.queue.map (fun e => (e.sled, e.cls, e.wanted))
      ∧ (∀ e ∈ (r.endEmergency c).queue, e.held = (r.endEmergency c).entryHeld c e.sled e.cls) := by
  let u := if c.globals.zoneReleaseMs = 0 then r.setZone .normal none else r.setZone .releasing (some c.globals.zoneReleaseMs)
  have zoned : u = { r with zone := r.zone.ended c.globals.zoneReleaseMs } := by
    dsimp only [u]
    unfold Zone.ended
    split <;> rfl
  have whole : r.endEmergency c = (u.post c .zone).refreshHeld c := r.endEmergency_eq c
  have posted : u.post c .zone = { u with notices := (u.post c .zone).notices } := by
    obtain ⟨n, hn⟩ := u.post_eq c .zone
    rw [hn]
  refine ⟨?_, ?_, ?_, ?_, ?_⟩
  · rw [whole, posted, zoned]
    rfl
  · rw [whole, posted, zoned]
    rfl
  · rw [whole]
    refine (Run.post_zone_notices c u).trans ?_
    rw [zoned]
  · rw [whole, Run.refreshHeld_places, Run.post_queue, zoned]
  · rw [whole, Run.refreshHeld_entryHeld]
    exact fun e he => Run.held_of_mem_refreshHeld he

theorem Run.endEmergency_unholds {c : Cfg} {r₀ r : Run} (hq : r.queue = r₀.queue) (h : r₀.unholds (r.endEmergency c)) :
    (r.endEmergency c).arbiterDue = true := by
  rw [Run.endEmergency_eq] at h ⊢
  refine Run.refreshHeld_unholds ?_ h
  rw [Run.post_queue]
  split <;> exact hq

end Sys2Proof.Machine

open Sys2Proof Sys2Proof.Machine

/-- Settles O34: CLEAR_ZONE ends the emergency as R89 has it end, and RESET_LANE begins a recovery attempt. -/
theorem zoneAndLaneAreReset : Obligations.ZoneAndLaneAreReset := by
  unfold Obligations.ZoneAndLaneAreReset
  refine ⟨fun tag s ready => ?_, fun tag p s length lane ready => ?_⟩
  · intro r₀ ms active
    have active_iff (z : ZoneNo) : r₀.zoneActive s.cfg z = true ↔ active z := Run.zoneActive_iff
    have barred_iff : clearZoneBarred s.popFrame = true ↔ r₀.zone.state ≠ .emergency ∨ active 0 ∨ active 1 := by
      rw [← active_iff, ← active_iff]
      simp [clearZoneBarred, Run.anyZoneActive, r₀]
    refine ⟨fun barred => ?_, fun emergency quiet0 quiet1 => ?_⟩
    · have refused : ownRule (.clearZone tag []) s.popFrame = (s.popFrame, .refuse .notAllowed) := if_pos (barred_iff.mpr barred)
      exact exec_replied (c := .clearZone tag []) rfl rfl ready rfl rfl rfl rfl refused
    · have allowed : ¬clearZoneBarred s.popFrame = true :=
        fun barred => (barred_iff.mp barred).elim (fun h => h emergency) (fun h => h.elim quiet0 quiet1)
      have cleared : ownRule (.clearZone tag []) s.popFrame = ({ s.popFrame with cfg := s.cfg, run := r₀.endEmergency s.cfg }, .ok []) :=
        if_neg allowed
      obtain ⟨frame, zone, notices, places, held⟩ := Run.endEmergency_spec s.cfg r₀
      exact ⟨r₀.endEmergency s.cfg, exec_carriedOut (.clearZone tag []) rfl rfl ready rfl rfl rfl rfl cleared, frame, zone, notices,
        places, held, Run.endEmergency_unholds rfl⟩
  · intro n g
    refine ⟨(Config.linesRead s.run.free).1, (Config.linesRead s.run.free).2, ?_⟩
    have replied {r : Run} {a : Answer} (hb : ownRule (.resetLane tag p) s.popFrame = ({ s.popFrame with cfg := s.cfg, run := r }, a)) :=
      exec_replied (c := .resetLane tag p) (payloadFits_of_length length (by decide)) rfl ready (by simp [lengthAllowed, length])
        rfl (passes_atMost lane) rfl hb
    by_cases failed : (s.run.lane n).state ≠ .failed
    · rw [if_pos failed]
      exact replied (r := s.run) (if_pos (by simpa using failed))
    · rw [if_neg failed]
      exact replied (a := .ok []) ((if_neg (by simpa using failed)).trans rfl)
end

section
namespace Sys2Proof.Machine

open Sys2Proof

/-- Where raises are forbidden every class entry is held (R42, R58). -/
theorem Run.entryHeld_of_forbidden {c : Cfg} {r : Run} (h : r.raisesForbidden = true) (i : Sled) (k : QClass) :
    r.entryHeld c i k = decide (k ≠ .floor) := by
  cases k <;> simp [Run.entryHeld, Run.holds, h]

theorem Run.boostEnded_of_get {r t : Run} (h : ∀ i, t.sleds.get i = (r.sleds.get i).boostEnded) (i : Sled) :
    (t.books i).boost ≠ .running ∧ (t.books i).grant = (r.books i).grant
      ∧ (t.books i).loan + (t.books i).draining = (r.books i).loan + (r.books i).draining := by
  unfold Run.books
  rw [h i]
  exact ⟨SledRun.boostEnded_boost _, SledRun.boostEnded_units _⟩

/-- The entry to SAFE, field by field (R155). -/
theorem Run.toSafe_spec (c : Cfg) (r : Run) :
    r.toSafe c = { r with
        mode := .safe, cause := .fault, sleds := (r.toSafe c).sleds, boostList := (r.toSafe c).boostList
        queue := (r.toSafe c).queue, arbiterDue := (r.toSafe c).arbiterDue, notices := (r.toSafe c).notices }
      ∧ (∀ i, (r.toSafe c).sleds.get i = (r.sleds.get i).boostEnded)
      ∧ (r.toSafe c).queue.map (fun e => (e.sled, e.cls, e.wanted)) = r.queue.map (fun e => (e.sled, e.cls, e.wanted))
      ∧ (∀ e ∈ (r.toSafe c).queue, e.held = decide (e.cls ≠ .floor)) := by
  have ended := Run.endAllBoosts_frame { r with mode := .safe, cause := .fault }
  have get := Run.endAllBoosts_get { r with mode := .safe, cause := .fault }
  unfold Run.toSafe
  generalize hv : Run.endAllBoosts { r with mode := .safe, cause := .fault } = v at ended get
  obtain ⟨n, hn⟩ := (v.refreshHeld c).post_eq c .mode
  rw [hn]
  refine ⟨?_, fun i => ?_, ?_, fun e he => ?_⟩
  · rw [ended]
    rfl
  · exact get i
  · refine (Run.refreshHeld_places c v).trans ?_
    rw [ended]
  · refine (Run.held_of_mem_refreshHeld he).trans (Run.entryHeld_of_forbidden ?_ ..)
    rw [ended]
    rfl

/-- The fault and the notices of an input accepted as asserted (R88). -/
def Run.alarmed (c : Cfg) (z : ZoneNo) (k : ZoneState) (r : Run) : Run :=
  (r.raise c .zoneAlarm (.zoneInput z) k.code).post c .zone

/-- The alarm of an asserted input, with the sleds and the queue that it leaves or, on the way to SAFE, frees of boosts. -/
theorem Run.alarmed_spec (c : Cfg) (z : ZoneNo) (k : ZoneState) (r : Run) :
    (r.alarmed c z k).zone = r.zone ∧ (c.mask.zone = true → (r.alarmed c z k).notices.zone = true)
      ∧ (r.alarmed c z k).queue.map (fun e => (e.sled, e.cls, e.wanted)) = r.queue.map (fun e => (e.sled, e.cls, e.wanted))
      ∧ ((r.alarmed c z k).mode = r.mode ∧ (r.alarmed c z k).sleds = r.sleds
        ∨ (r.alarmed c z k).mode = .safe ∧ (∀ i, (r.alarmed c z k).sleds.get i = (r.sleds.get i).boostEnded)
          ∧ ∀ e ∈ (r.alarmed c z k).queue, e.held = decide (e.cls ≠ .floor)) := by
  unfold Run.alarmed
  rw [Run.post_zone, Run.post_queue, Run.post_mode, Run.post_sleds, (Run.Quiet.raise ..).zone]
  refine ⟨rfl, fun shown => ?_, ?_⟩
  · rw [Run.post_zone_notices, if_pos shown]
    rfl
  · obtain ⟨severe, advisory, notices, e | ⟨-, e⟩⟩ :=
      Run.raise_uncovered (c := c) (k := .zoneAlarm) (x := .zoneInput z) (d := k.code) (r := r) rfl
    · rw [e]
      exact ⟨rfl, .inl ⟨rfl, rfl⟩⟩
    · rw [e]
      obtain ⟨frame, get, places, held⟩ := Run.toSafe_spec c { r with severe := severe, advisory := advisory, notices := notices }
      exact ⟨places, .inr ⟨by rw [frame], get, held⟩⟩

theorem Run.assertZone_eq (c : Cfg) (z : ZoneNo) (r : Run) :
    r.assertZone c z =
      if r.zone.state ≠ .emergency ∧ ((r.setZone .emergency none).alarmed c z r.zone.state).mode = .run then
        ((r.setZone .emergency none).alarmed c z r.zone.state).endAllBoosts.refreshHeld c
      else (r.setZone .emergency none).alarmed c z r.zone.state := by
  unfold Run.assertZone
  show (if (r.zone.state == .emergency) = true then (r.setZone .emergency none).alarmed c z r.zone.state
    else if (((r.setZone .emergency none).alarmed c z r.zone.state).mode == .run) = true then _ else _) = _
  by_cases emergency : r.zone.state = .emergency
  · rw [if_pos (by simpa using emergency), if_neg (fun k => k.1 emergency)]
  · rw [if_neg (by simpa using emergency)]
    by_cases run : ((r.setZone .emergency none).alarmed c z r.zone.state).mode = .run
    · rw [if_pos (by simpa using run), if_pos ⟨emergency, run⟩]
      rfl
    · rw [if_neg (by simpa using run), if_neg (fun k => run k.2)]
      rfl

/-- Where every boost has ended and the held flags have followed, in an emergency in RUN (R92). -/
theorem Run.endAllBoosts_refreshHeld {c : Cfg} {u : Run} (hm : u.mode = .run) (hz : u.zone.state = .emergency) :
    u.endAllBoosts.refreshHeld c = { u with
        sleds := u.endAllBoosts.sleds, boostList := u.endAllBoosts.boostList
        queue := (u.endAllBoosts.refreshHeld c).queue, arbiterDue := (u.endAllBoosts.refreshHeld c).arbiterDue }
      ∧ (u.endAllBoosts.refreshHeld c).queue.map (fun e => (e.sled, e.cls, e.wanted)) = u.queue.map (fun e => (e.sled, e.cls, e.wanted))
      ∧ ∀ e ∈ (u.endAllBoosts.refreshHeld c).queue, e.held = decide (e.cls ≠ .floor) := by
  have frame := u.endAllBoosts_frame
  generalize u.endAllBoosts = w at frame
  have mode : w.mode = .run := by rw [frame]; exact hm
  have zone : w.zone.state = .emergency := by rw [frame]; exact hz
  have forbidden : w.raisesForbidden = true := by simp [Run.raisesForbidden, mode, zone]
  refine ⟨?_, ?_, fun e he => ?_⟩
  · rw [frame]
    rfl
  · refine (Run.refreshHeld_places c w).trans ?_
    rw [frame]
  · exact (Run.held_of_mem_refreshHeld he).trans (Run.entryHeld_of_forbidden forbidden ..)

/-- An input accepted as asserted (R88, R92). -/
theorem Run.assertZone_spec {c : Cfg} {z : ZoneNo} {r t u : Run} (ht : r.assertZone c z = t)
    (hu : (r.setZone .emergency none).alarmed c z r.zone.state = u) :
    t.zone = { r.zone with state := .emergency, release := none }
      ∧ (r.zone.state = .emergency ∨ r.mode ≠ .run → t = u)
      ∧ (t.severe = u.severe ∧ t.advisory = u.advisory ∧ t.mode = u.mode ∧ t.notices = u.notices)
      ∧ t.queue.map (fun e => (e.sled, e.cls, e.wanted)) = r.queue.map (fun e => (e.sled, e.cls, e.wanted))
      ∧ (r.zone.state ≠ .emergency → r.mode = .run →
          (∀ i, t.sleds.get i = (r.sleds.get i).boostEnded) ∧ ∀ e ∈ t.queue, e.held = decide (e.cls ≠ .floor)) := by
  obtain ⟨zone, -, places, sleds⟩ := (r.setZone .emergency none).alarmed_spec c z r.zone.state
  rw [Run.assertZone_eq] at ht
  rw [hu] at ht zone places sleds
  by_cases h : r.zone.state ≠ .emergency ∧ u.mode = .run
  · have whole : t = u.endAllBoosts.refreshHeld c := ht.symm.trans (if_pos h)
    rcases sleds with ⟨mode, same⟩ | ⟨safe, -⟩
    · obtain ⟨frame, kept, held⟩ := Run.endAllBoosts_refreshHeld (c := c) h.2 (by rw [zone]; rfl)
      have get (i : Sled) : (u.endAllBoosts.refreshHeld c).sleds.get i = (r.sleds.get i).boostEnded := by
        rw [Run.refreshHeld_sleds, u.endAllBoosts_get, same]
        rfl
      rw [whole]
      refine ⟨?_, fun k => ?_, ?_, kept.trans places, fun _ _ => ⟨get, held⟩⟩
      · rw [frame]
        exact zone
      · exact (k.elim h.1 fun k => k (mode.symm.trans h.2)).elim
      · rw [frame]
        exact ⟨rfl, rfl, rfl, rfl⟩
    · exact absurd (h.2.symm.trans safe) nofun
  · have whole : t = u := ht.symm.trans (if_neg h)
    rw [whole]
    refine ⟨zone, fun _ => rfl, ⟨rfl, rfl, rfl, rfl⟩, places, fun calm run => ?_⟩
    rcases sleds with ⟨mode, -⟩ | ⟨-, get, held⟩
    · exact absurd ⟨calm, mode.trans run⟩ h
    · exact ⟨get, held⟩

/-- An input accepted as deasserted (R89). -/
theorem Run.deassertZone_of_ends {c : Cfg} {r : Run} (he : r.zone.state = .emergency) (hc : r.anyZoneActive c = false)
    (hl : c.globals.zoneLatch = false) : r.deassertZone c = r.endEmergency c := by
  rw [Run.deassertZone_eq, if_pos he, if_pos ⟨hc, hl⟩]

theorem Run.deassertZone_of_stays {c : Cfg} {r : Run}
    (h : ¬(r.zone.state = .emergency ∧ r.anyZoneActive c = false ∧ c.globals.zoneLatch = false)) :
    r.deassertZone c = { r with
      notices := if r.zone.state = .emergency ∧ c.mask.zone = true then r.notices.insert .zone else r.notices } := by
  rw [Run.deassertZone_eq]
  by_cases emergency : r.zone.state = .emergency
  · rw [if_pos emergency, if_neg (fun k => h ⟨emergency, k⟩)]
    obtain ⟨n, hn⟩ := r.post_eq c .zone
    have notices := Run.post_zone_notices c r
    rw [hn] at notices ⊢
    simp only [emergency, true_and]
    exact congrArg (fun n => { r with notices := n }) notices
  · rw [if_neg emergency, if_neg (fun k => emergency k.1)]

end Sys2Proof.Machine

open Sys2Proof Sys2Proof.Machine

/-- Settles O54: the settle count's expiry accepts the pin, and what follows is the start or the end of an emergency. -/
theorem zoneFollowsItsInputs : Obligations.ZoneFollowsItsInputs := by
  unfold Obligations.ZoneFollowsItsInputs
  refine ⟨fun z s up => ?_, fun s up => ?_⟩
  · intro r₀ g f settled active
    let r' : Run := { r₀ with zone := settled }
    have settle : exec (.zoneSettleExpiry z) s = s.runEvent f.settle.isSome fun c r => r.settleZone c z := rfl
    have runs (h : f.settle ≠ none) : exec (.zoneSettleExpiry z) s = .next (s.after (r₀.settleZone s.cfg z)) := by
      rw [settle]
      exact State.runEvent_after up (Option.isSome_iff_ne_none.mpr h)
    have active_iff (y : ZoneNo) : r'.zoneActive s.cfg y = true ↔ active y := Run.zoneActive_iff
    have asserted_iff (on : g.zoneEnable.get z = true) : r'.zoneAsserted s.cfg z = true ↔ active z := by
      rw [← active_iff]
      simp [Run.zoneActive, g, on]
    have changes (h : f.pin ≠ f.accepted) (on : g.zoneEnable.get z = true) :
        r₀.settleZone s.cfg z = if r'.zoneAsserted s.cfg z then r'.assertZone s.cfg z else r'.deassertZone s.cfg := by
      have cond : ¬(decide (f.pin = f.accepted) || !g.zoneEnable.get z) = true := by simp [h, on]
      exact if_neg cond
    refine ⟨fun h => ?_, fun h same => ?_, fun h change on => ?_, fun h change enabled off => ?_⟩
    · rw [settle]
      exact State.runEvent_not (.inr (by rw [h]; rfl))
    · rw [runs h]
      have cond : (decide (f.pin = f.accepted) || !g.zoneEnable.get z) = true := by simpa using same
      exact congrArg (fun r => Host.Outcome.next (s.after r)) (if_pos cond)
    · have whole := (changes change on.1).trans (if_pos ((asserted_iff on.1).mpr on))
      obtain ⟨zone, same, records, places, boosts⟩ := Run.assertZone_spec (c := s.cfg) (z := z) (r := r') rfl rfl
      have alarm : ({ r₀ with zone := (r'.assertZone s.cfg z).zone } : Run) = r'.setZone .emergency none := by
        rw [zone]
        rfl
      refine ⟨r'.assertZone s.cfg z, by rw [runs h, whole], zone, ?_, ?_, places, fun calm run => ?_⟩
      · rw [alarm]
        exact ⟨same, records⟩
      · intro shown
        rw [records.2.2.2]
        exact ((r'.setZone .emergency none).alarmed_spec s.cfg z r'.zone.state).2.1 shown
      · obtain ⟨ended, held⟩ := boosts calm run
        exact ⟨Run.boostEnded_of_get ended, held⟩
    · intro ends
      have whole := (changes change enabled).trans (if_neg (mt (asserted_iff enabled).mp off))
      have ends_iff : ends ↔ r'.zone.state = .emergency ∧ r'.anyZoneActive s.cfg = false ∧ s.cfg.globals.zoneLatch = false := by
        rw [Run.anyZoneActive_eq_false_iff, active_iff, active_iff, and_assoc]
      refine ⟨r'.deassertZone s.cfg, by rw [runs h, whole], ?_⟩
      by_cases he : ends
      · obtain ⟨emergency, clear, latch⟩ := ends_iff.mp he
        obtain ⟨frame, zone, notices, places, held⟩ := Run.endEmergency_spec s.cfg r'
        rw [Run.deassertZone_of_ends emergency clear latch]
        refine ⟨?_, ?_, fun k => absurd he k, fun _ => ⟨places, held, Run.endEmergency_unholds rfl⟩, ?_⟩
        · rw [frame]
        · rw [zone, if_pos he]
          rfl
        · rw [notices]
          simp only [show r₀.zone.state = .emergency from emergency, true_and]
          rfl
      · rw [Run.deassertZone_of_stays (mt ends_iff.mpr he)]
        exact ⟨rfl, (if_neg he).symm, fun _ => rfl, fun k => absurd k he, rfl⟩
  · intro runs
    have event : exec .zoneReleaseExpiry s = s.runEvent s.run.releaseCounts Run.releaseExpired := rfl
    have counts : s.run.releaseCounts = true ↔ runs := by
      simp [Run.releaseCounts, runs, Option.isSome_iff_ne_none]
    refine ⟨fun h => ?_, fun h => ?_⟩
    · rw [event, State.runEvent_after up (counts.mpr h)]
      have posted := Run.post_zone_notices s.cfg (s.run.setZone .normal none)
      obtain ⟨n, hn⟩ := (s.run.setZone .normal none).post_eq s.cfg .zone
      rw [hn] at posted
      refine congrArg (fun r => Host.Outcome.next (s.after r)) (hn.trans ?_)
      exact congrArg (fun n => { s.run with zone := { s.run.zone with state := .normal, release := none }, notices := n }) posted
    · rw [event]
      exact State.runEvent_not (.inr (Bool.eq_false_iff.mpr (mt counts.mp h)))
end

section
namespace Sys2Proof.Machine

open Sys2Proof

theorem Run.admissionCounts_iff {r : Run} {i : Sled} :
    r.admissionCounts i = true ↔ (r.life i).state = .admitting ∧ (r.life i).admission ≠ none ∧ r.mode ≠ .config := by
  simp [Run.admissionCounts, Mode.works_iff, Option.isSome_iff_ne_none, and_assoc]

theorem Run.hotCounts_iff {r : Run} {i : Sled} :
    r.hotCounts i = true ↔ (r.therm i).state = .hot ∧ (r.therm i).hotPersist ≠ none ∧ r.mode ≠ .config := by
  simp [Run.hotCounts, Mode.works_iff, Option.isSome_iff_ne_none, and_assoc]

/-- An event on the running part that leaves the arbiter and the notices alone, in a part at rest. -/
theorem State.runEvent_plain {s : State} {b : Bool} {f : Cfg → Run → Run} (h : s.inReset = false) (rest : s.atRest) (hb : b = true)
    (hd : (f s.cfg s.run).arbiterDue = s.run.arbiterDue) (hn : (f s.cfg s.run).notices = s.run.notices) :
    s.runEvent b f = .next { s with run := f s.cfg s.run } := by
  rw [State.runEvent_after h hb, State.after_of_atRest rest hd hn]

theorem Channel.sectionEnd_of_hold {x : Channel} (h : x.carrier = .admitting) (hh : 0 < x.latchedHold) :
    x.sectionEnd = { x with carrier := .holding, ticks := x.latchedHold } := by simp [Channel.sectionEnd, h, hh]

theorem Channel.sectionEnd_of_admit {x : Channel} (h : x.carrier = .admitting) (hh : x.latchedHold = 0) :
    x.sectionEnd = { x with carrier := .admitting, ticks := x.latchedAdmit } := by simp [Channel.sectionEnd, h, hh]

theorem Channel.sectionEnd_of_holding {x : Channel} (h : x.carrier = .holding) :
    x.sectionEnd = { x with carrier := .admitting, ticks := x.latchedAdmit } := by simp [Channel.sectionEnd, h]

end Sys2Proof.Machine

open Sys2Proof Sys2Proof.Machine

/-- Settles O53: each count's expiry is an event exactly while the count runs, and takes its fault. -/
theorem admissionAndHeatCountsExpire : Obligations.AdmissionAndHeatCountsExpire := by
  unfold Obligations.AdmissionAndHeatCountsExpire
  intro i s up r₀ l t floorOut probeOut detail admitRuns hotRuns
  have admission : exec (.admitCountExpiry i) s = s.runEvent (r₀.admissionCounts i) fun c r => r.admissionExpired c i := rfl
  have heat : exec (.hotPersistExpiry i) s = s.runEvent (r₀.hotCounts i) (Run.hotExpired i) := rfl
  refine ⟨fun runs => ?_, fun still => ?_, fun runs => ?_, fun still => ?_⟩
  · rw [admission, State.runEvent_after up (Run.admissionCounts_iff.mpr runs)]
    unfold Run.admissionExpired
    simp only [Bool.not_eq_true', Bool.or_eq_true]
    rfl
  · rw [admission, State.runEvent_not (.inr (Bool.eq_false_iff.mpr (mt Run.admissionCounts_iff.mp still)))]
  · rw [heat, State.runEvent_after up (Run.hotCounts_iff.mpr runs)]
    rfl
  · rw [heat, State.runEvent_not (.inr (Bool.eq_false_iff.mpr (mt Run.hotCounts_iff.mp still)))]

/-- Settles O45: by the section that ends. -/
theorem carrierSectionsFollow : Obligations.CarrierSectionsFollow := by
  unfold Obligations.CarrierSectionsFollow
  intro i s up rest x becomes
  have event : exec (.carrierSectionEnd i) s = s.runEvent (s.run.carrierRuns i) fun _ r => r.modChan i Channel.sectionEnd := by
    simp only [exec, execCarrierSectionEnd]
  have ends {k : Section} {n : Nat} (runs : x.carrier ≠ .idle) (h : x.sectionEnd = { x with carrier := k, ticks := n }) :
      exec (.carrierSectionEnd i) s = .next (becomes k n) := by
    have counts : s.run.carrierRuns i = true := by simpa [Run.carrierRuns] using runs
    rw [event, State.runEvent_plain (s := s) up rest counts rfl rfl]
    exact congrArg (fun r => Host.Outcome.next { s with run := r }) 
      (Run.modChan_congr (r := s.run) (i := i) (f := Channel.sectionEnd) (g := fun x => { x with carrier := k, ticks := n }) h)
  refine ⟨fun h hold => ?_, fun h hold => ?_, fun h => ?_, fun h => ?_⟩
  · exact ends (by rw [h]; decide) (Channel.sectionEnd_of_hold h hold)
  · exact ends (by rw [h]; decide) (Channel.sectionEnd_of_admit h hold)
  · exact ends (by rw [h]; decide) (Channel.sectionEnd_of_holding h)
  · rw [event]
    exact State.runEvent_not (.inr (by simpa [Run.carrierRuns] using h))

/-- Settles O47: a pin's change starts its filter, and an alert sample is accepted at once where one sample is enough. -/
theorem inputChangesStartTheirFilters : Obligations.InputChangesStartTheirFilters := by
  unfold Obligations.InputChangesStartTheirFilters
  refine fun s level rest => ⟨fun i => ⟨fun up change => ?_, fun up same => ?_, fun down => ?_⟩,
    fun z => ⟨fun up change => ?_, fun up same => ?_, fun down => ?_⟩, fun i => ⟨fun still => ?_, fun up change => ?_⟩⟩
  · have event : exec (.presenceLineChange i level) s = s.runEvent ((s.run.life i).prs != level) (Run.presenceLine i level) :=
      if_neg (by simp [up])
    rw [event, State.runEvent_plain (s := s) up rest (by simpa using change) rfl rfl]
    rfl
  · have event : exec (.presenceLineChange i level) s = s.runEvent ((s.run.life i).prs != level) (Run.presenceLine i level) :=
      if_neg (by simp [up])
    rw [event]
    exact State.runEvent_not (.inr (by simpa using same))
  · exact if_pos down
  · have event : exec (.zoneInputChange z level) s = s.runEvent ((s.run.zone.filters.get z).pin != level) (Run.zoneLine z level) :=
      if_neg (by simp [up])
    rw [event, State.runEvent_plain (s := s) up rest (by simpa using change) rfl rfl]
    rfl
  · have event : exec (.zoneInputChange z level) s = s.runEvent ((s.run.zone.filters.get z).pin != level) (Run.zoneLine z level) :=
      if_neg (by simp [up])
    rw [event]
    exact State.runEvent_not (.inr (by simpa using same))
  · exact if_pos down
  · exact if_pos (by simpa using still)
  · intro r
    have event : exec (.alertSampleChange i level) s = s.runEvent true fun c r => r.sampleAlert c i level :=
      if_neg (by simp [up, change])
    have accepted : (r.alert i).accepted = (s.run.alert i).accepted := by simp [r]
    refine ⟨fun keeps => ?_, fun one new => ?_⟩
    · have whole : s.run.sampleAlert s.cfg i level = r :=
        if_neg fun k => keeps.elim (Nat.not_lt.mpr k.1) fun same => k.2 (accepted.trans same)
      rw [event, State.runEvent_plain (s := s) up rest rfl (by rw [whole]; rfl) (by rw [whole]; rfl), whole]
    · have whole : s.run.sampleAlert s.cfg i level = r.acceptAlert s.cfg i := if_pos ⟨one, fun same => new (accepted.symm.trans same)⟩
      have moves : r.alertMoves i = true := by simp [Run.alertMoves, r, Ne.symm new]
      have counted : r.modAlert i (fun a => { a with run := max a.run s.cfg.globals.alertFilter }) = r := by
        dsimp only [r]
        rw [Run.modAlert_modAlert]
        refine Run.modAlert_congr ?_
        simp [Nat.max_eq_left one]
      have accept : exec (.alertLevelAccepted i) { s with run := r }
          = ({ s with run := r } : State).runEvent (r.alertMoves i) (Run.acceptSample i) := rfl
      rw [event, accept, State.runEvent_after (s := s) up rfl, State.runEvent_after (s := { s with run := r }) up moves]
      show Host.Outcome.next (s.after (s.run.sampleAlert s.cfg i level)) = .next (s.after (r.acceptSample i s.cfg))
      rw [whole, Run.acceptSample, counted]
end

section
/-! SUPPORT. Validation (R153) and the return from SAFE (R156). -/

namespace Sys2Proof.Machine

open Sys2Proof

/-! ## The first of a range -/

theorem find?_finRange_eq_some {n : Nat} {p : Fin n → Bool} {i : Fin n} :
    (List.finRange n).find? p = some i ↔ p i = true ∧ ∀ j, j < i → p j = false := by
  rw [List.find?_eq_some_iff_getElem]
  simp only [List.getElem_finRange, List.length_finRange, Bool.not_eq_true']
  refine and_congr_right fun _ => ⟨?_, fun before => ⟨i.val, i.isLt, rfl, fun j hj => before _ hj⟩⟩
  rintro ⟨k, hk, rfl, before⟩ j hj
  exact before j.val hj

/-- The first of a range that a test finds, as a number. -/
theorem map_find?_finRange {n m : Nat} {p : Fin n → Bool} {f : Fin n → Nat} :
    ((List.finRange n).find? p).map f = some m ↔ ∃ i, m = f i ∧ p i = true ∧ ∀ j, j < i → p j = false := by
  simp only [Option.map_eq_some_iff, find?_finRange_eq_some]
  exact exists_congr fun i => ⟨fun ⟨h, e⟩ => ⟨e.symm, h⟩, fun ⟨e, h⟩ => ⟨h, e.symm⟩⟩

theorem map_find?_finRange_none {n : Nat} {p : Fin n → Bool} {f : Fin n → Nat} :
    ((List.finRange n).find? p).map f = none ↔ ∀ i, p i = false := by
  simp

/-! ## The items of validation -/

/-- The duty of a level does not exceed that of the level before it (R7). -/
def dutyFalls (c : Cfg) (k : Fin 15) : Prop :=
  (c.levels.get k.succ).admitTicks * ((c.levels.get k.castSucc).admitTicks + (c.levels.get k.castSucc).holdTicks)
    ≤ (c.levels.get k.castSucc).admitTicks * ((c.levels.get k.succ).admitTicks + (c.levels.get k.succ).holdTicks)

theorem levelsFault_eq (c : Cfg) :
    levelsFault c = ((List.finRange 15).find? fun k => dutyRises (c.levels.get k.castSucc) (c.levels.get k.succ)).map (·.val + 1) := by
  unfold levelsFault levelPairs
  rw [List.find?_map, Option.map_map]
  rfl

theorem dutyRises_eq_false (c : Cfg) (k : Fin 15) :
    dutyRises (c.levels.get k.castSucc) (c.levels.get k.succ) = false ↔ dutyFalls c k := by
  simp [dutyRises, dutyFalls]

/-- The costs of an enabled sled fall from L0 to L15 (R22). -/
def costsFall (c : Cfg) (i : Sled) : Prop :=
  (c.sled i).enable = true → ∀ k : Fin 15, costAt c i k.succ ≤ costAt c i k.castSucc

theorem costsRise_eq_false (c : Cfg) (i : Sled) :
    ((c.sled i).enable && levelPairs.any fun k => decide (costAt c i k.1 < costAt c i k.2)) = false ↔ costsFall c i := by
  simp [levelPairs, costsFall]

/-- The thresholds of an enabled probe are ordered and in its decoded domain (R120). -/
def thresholdsInOrder (c : Cfg) (p : Probe) : Prop := (c.probe p).enable = true → (c.probe p).thresholdsPass = true

/-- The script segment of an enabled probe ends within the memory (R122). -/
def segmentFits (c : Cfg) (p : Probe) : Prop := (c.probe p).enable = true → segmentStart c p + 2 * (c.probe p).initCount ≤ 512

theorem levelsFault_eq_none (c : Cfg) : levelsFault c = none ↔ ∀ k, dutyFalls c k := by
  simp only [levelsFault_eq, map_find?_finRange_none, dutyRises_eq_false]

theorem levelsFault_eq_some (c : Cfg) (n : Nat) :
    levelsFault c = some n ↔ ∃ k : Fin 15, n = k.val + 1 ∧ ¬dutyFalls c k ∧ ∀ j, j < k → dutyFalls c j := by
  simp only [levelsFault_eq, map_find?_finRange, ← dutyRises_eq_false, Bool.not_eq_false]

theorem costsFault_eq_none (c : Cfg) : costsFault c = none ↔ ∀ i, costsFall c i := by
  unfold costsFault allSleds
  simp only [map_find?_finRange_none, costsRise_eq_false]

theorem costsFault_eq_some (c : Cfg) (n : Nat) :
    costsFault c = some n ↔ ∃ i : Sled, n = i.val ∧ ¬costsFall c i ∧ ∀ j, j < i → costsFall c j := by
  unfold costsFault allSleds
  simp only [map_find?_finRange, ← costsRise_eq_false, Bool.not_eq_false]

theorem ceilingsFault_eq_none (c : Cfg) : ceilingsFault c = none ↔ c.globals.warmCeiling ≤ c.globals.hotCeiling := by
  simp [ceilingsFault]

theorem ceilingsFault_eq_some (c : Cfg) (n : Nat) :
    ceilingsFault c = some n ↔ n = 0 ∧ ¬c.globals.warmCeiling ≤ c.globals.hotCeiling := by
  unfold ceilingsFault
  split
  · next h => simp [eq_comm, h]
  · next h => simp [Fin.not_lt.mp h]

theorem thresholdsFail_eq_false (c : Cfg) (p : Probe) :
    ((c.probe p).enable && !(c.probe p).thresholdsPass) = false ↔ thresholdsInOrder c p := by
  unfold thresholdsInOrder
  cases (c.probe p).enable <;> simp

theorem thresholdsFault_eq_none (c : Cfg) : thresholdsFault c = none ↔ ∀ p, thresholdsInOrder c p := by
  unfold thresholdsFault allProbes
  simp only [map_find?_finRange_none, thresholdsFail_eq_false]

theorem thresholdsFault_eq_some (c : Cfg) (n : Nat) :
    thresholdsFault c = some n ↔ ∃ p : Probe, n = p.val ∧ ¬thresholdsInOrder c p ∧ ∀ q, q < p → thresholdsInOrder c q := by
  unfold thresholdsFault allProbes
  simp only [map_find?_finRange, ← thresholdsFail_eq_false, Bool.not_eq_false]

theorem segmentEnds_eq_false (c : Cfg) (p : Probe) :
    ((c.probe p).enable && decide (512 < segmentStart c p + 2 * (c.probe p).initCount)) = false ↔ segmentFits c p := by
  unfold segmentFits
  cases (c.probe p).enable <;> simp

theorem scriptFault_eq_none (c : Cfg) : scriptFault c = none ↔ ∀ p, segmentFits c p := by
  unfold scriptFault allProbes
  simp only [map_find?_finRange_none, segmentEnds_eq_false]

theorem scriptFault_eq_some (c : Cfg) (n : Nat) :
    scriptFault c = some n ↔ ∃ p : Probe, n = p.val ∧ ¬segmentFits c p ∧ ∀ q, q < p → segmentFits c q := by
  unfold scriptFault allProbes
  simp only [map_find?_finRange, ← segmentEnds_eq_false, Bool.not_eq_false]

/-- Validation names the first item of five that has a fault. -/
theorem validationFault_iff (c : Cfg) (n : Nat) :
    (validationFault c = none ↔
        levelsFault c = none ∧ costsFault c = none ∧ ceilingsFault c = none ∧ thresholdsFault c = none ∧ scriptFault c = none)
      ∧ (validationFault c = some (.levels, n) ↔ levelsFault c = some n)
      ∧ (validationFault c = some (.costs, n) ↔ levelsFault c = none ∧ costsFault c = some n)
      ∧ (validationFault c = some (.ceilings, n) ↔ levelsFault c = none ∧ costsFault c = none ∧ ceilingsFault c = some n)
      ∧ (validationFault c = some (.thresholds, n) ↔
          levelsFault c = none ∧ costsFault c = none ∧ ceilingsFault c = none ∧ thresholdsFault c = some n)
      ∧ (validationFault c = some (.script, n) ↔
          levelsFault c = none ∧ costsFault c = none ∧ ceilingsFault c = none ∧ thresholdsFault c = none
            ∧ scriptFault c = some n) := by
  unfold validationFault
  cases levelsFault c with
  | some k => simp
  | none =>
    cases costsFault c with
    | some k => simp
    | none =>
      cases ceilingsFault c with
      | some k => simp
      | none =>
        cases thresholdsFault c with
        | some k => simp
        | none => simp

theorem Format.holds_iff (f : Format) (v : Int) :
    f.holds v = true ↔
      match f with
      | .u8 => 0 ≤ v ∧ v ≤ 255
      | .u16 => 0 ≤ v ∧ v ≤ 65535
      | .s16 => -32768 ≤ v ∧ v ≤ 32767 := by
  cases f <;> simp [Format.holds]

theorem thresholdsInOrder_iff (c : Cfg) (p : Probe) :
    thresholdsInOrder c p ↔
      ((c.probe p).enable = true →
        ((c.probe p).underLimit ≤ (c.probe p).warmOver ∧ (c.probe p).warmOver ≤ (c.probe p).hotOver
            ∧ (c.probe p).hotOver ≤ (c.probe p).upperLimit)
          ∧ ∀ v ∈ [(c.probe p).underLimit, (c.probe p).warmOver, (c.probe p).hotOver, (c.probe p).upperLimit],
              (c.probe p).format.holds v = true) := by
  unfold thresholdsInOrder ProbeCfg.thresholdsPass
  refine imp_congr_right fun _ => ?_
  simp only [Bool.and_eq_true, decide_eq_true_eq, List.all_eq_true]
  exact ⟨fun ⟨⟨⟨range, low⟩, middle⟩, high⟩ => ⟨⟨low, middle, high⟩, range⟩,
    fun ⟨⟨low, middle, high⟩, range⟩ => ⟨⟨⟨range, low⟩, middle⟩, high⟩⟩

end Sys2Proof.Machine

open Sys2Proof Sys2Proof.Machine

/-- Settles O36: each item's test finds the first that fails, and the items stand in their order. -/
theorem validationFindsTheFirstFault : Obligations.ValidationFindsTheFirstFault := by
  unfold Obligations.ValidationFindsTheFirstFault
  intro c falls sink inOrder fits levelsPass costsPass ceilingsPass thresholdsPass
  have levels : (∀ k, dutyFalls c k) ↔ levelsPass :=
    ⟨fun h k hk => h ⟨k, hk⟩, fun h k => h k.val k.isLt⟩
  have cost (i : Sled) : costsFall c i ↔ sink i :=
    imp_congr_right fun _ => ⟨fun h k hk => h ⟨k, hk⟩, fun h k => h k.val k.isLt⟩
  have threshold (p : Probe) : thresholdsInOrder c p ↔ inOrder p := by
    rw [thresholdsInOrder_iff]
    simp only [Format.holds_iff]
    rfl
  have costs : (∀ i, costsFall c i) ↔ costsPass := forall_congr' cost
  have thresholds : (∀ p, thresholdsInOrder c p) ↔ thresholdsPass := forall_congr' threshold
  refine ⟨?_, fun n => ⟨?_, ?_, ?_, ?_, ?_⟩⟩
  · rw [(validationFault_iff c 0).1, levelsFault_eq_none, costsFault_eq_none, ceilingsFault_eq_none, thresholdsFault_eq_none,
      scriptFault_eq_none, levels, costs, thresholds]
    rfl
  · rw [(validationFault_iff c n).2.1, levelsFault_eq_some]
    constructor
    · rintro ⟨k, e, fault, before⟩
      exact ⟨k.val, k.isLt, e, fault, fun j hj => before ⟨j, by omega⟩ hj⟩
    · rintro ⟨k, hk, e, fault, before⟩
      exact ⟨⟨k, hk⟩, e, fault, fun j hj => before j.val hj⟩
  · rw [(validationFault_iff c n).2.2.1, levelsFault_eq_none, costsFault_eq_some, levels]
    simp only [cost]
  · rw [(validationFault_iff c n).2.2.2.1, levelsFault_eq_none, costsFault_eq_none, ceilingsFault_eq_some, levels, costs]
    exact ⟨fun ⟨h1, h2, h3, h4⟩ => ⟨h3, h1, h2, h4⟩, fun ⟨h3, h1, h2, h4⟩ => ⟨h1, h2, h3, h4⟩⟩
  · rw [(validationFault_iff c n).2.2.2.2.1, levelsFault_eq_none, costsFault_eq_none, ceilingsFault_eq_none,
      thresholdsFault_eq_some, levels, costs]
    simp only [threshold]
    rfl
  · rw [(validationFault_iff c n).2.2.2.2.2, levelsFault_eq_none, costsFault_eq_none, ceilingsFault_eq_none,
      thresholdsFault_eq_none, scriptFault_eq_some, levels, costs, thresholds]
    rfl

/-- Settles O35: by the mode in which SET_MODE RUN is taken. -/
theorem runIsRefusedOrRegained : Obligations.RunIsRefusedOrRegained := by
  unfold Obligations.RunIsRefusedOrRegained
  intro tag s ready f r₀
  have replied {r : Run} {a : Answer} (hb : setModeRunBody s.popFrame = ({ s.popFrame with cfg := s.cfg, run := r }, a)) :=
    exec_replied (c := .setModeRun tag) rfl rfl ready rfl rfl rfl rfl hb
  refine ⟨fun barred => ?_, fun k n config fault => ?_, fun safe clear => ?_⟩
  · refine replied (r := s.run) (a := .refuse .notAllowed) ?_
    unfold setModeRunBody
    rcases barred with run | ⟨safe, severe⟩
    · simp only [State.popFrame_run, show s.run.mode = .run from run]
      rfl
    · simp only [State.popFrame_run, show s.run.mode = .safe from safe, show s.run.severe.first.isSome = true from severe, if_true]
      rfl
  · refine replied (r := { s.run with validation := .failed k n }) (a := { status := .invalidConfig, content := put8 k.code ++ put8 n }) ?_
    unfold setModeRunBody
    simp only [State.popFrame_run, State.popFrame_cfg, show s.run.mode = .config from config, fault]
  · let base : Run := { r₀ with mode := .run, cause := .request, sleds := mapAt (fun _ x => SledRun.recount x) r₀.sleds }
    have posted : r₀.runFromSafe s.cfg = (base.refreshHeld s.cfg).post s.cfg .mode := rfl
    refine ⟨r₀.runFromSafe s.cfg, replied (a := .ok []) ?_, ?_, fun i => ?_, ?_, ?_, ?_, ?_, ?_⟩
    · unfold setModeRunBody
      have valid : ¬s.run.severe.first.isSome = true := by rw [show s.run.severe.first = none from clear]; nofun
      simp only [State.popFrame_run, State.popFrame_cfg, show s.run.mode = .safe from safe]
      exact if_neg valid
    · obtain ⟨n, hn⟩ := (base.refreshHeld s.cfg).post_eq s.cfg .mode
      rw [posted, hn]
      rfl
    · rw [posted, Run.post_sleds, Run.refreshHeld_sleds]
      exact mapAt_get ..
    · rw [posted]
      unfold Run.post noticeAllowed
      dsimp only
      split <;> rfl
    · rw [posted, Run.post_queue, Run.refreshHeld_places]
    · rw [posted, Run.post_queue, Run.post_entryHeld, Run.refreshHeld_entryHeld]
      exact fun e he => Run.held_of_mem_refreshHeld he
    · rw [posted, Run.post_arbiterDue]
      intro unheld
      refine Run.refreshHeld_unholds (r := base) (r₀ := r₀) rfl ?_
      unfold Run.unholds at unheld ⊢
      rwa [Run.post_queue] at unheld
    · obtain ⟨n, hn⟩ := (base.refreshHeld s.cfg).post_eq s.cfg .mode
      rw [posted, hn]
      simp [Run.alarm, Run.refreshHeld, base, clear]
end

section
/-! SUPPORT. The end of a frame on the line, the resets and the notices that the transmitter takes (R151, R158, R159, R171,
R173). -/

namespace Sys2Proof.Machine

open Sys2Proof

/-- Where no service is due, what is left of an event is the transmitter's next frame. -/
theorem State.finish_of_not_due {s : State} (h : s.run.arbiterDue = false) : s.finish = s.kick := by
  rw [State.finish, Run.serveIfDue_of_not_due h]

theorem State.kick_of_reply {s : State} {o : Outgoing} {rest : List Outgoing} (idle : s.link.tx = none)
    (h : s.link.replies = o :: rest) : s.kick = { s with link := { s.link with tx := some o, replies := rest } } := by
  rw [State.kick, idle, h]

theorem State.kick_of_notice {s : State} {k : Notice} (idle : s.link.tx = none) (empty : s.link.replies = [])
    (free : s.link.resetAccepted = false) (h : s.run.notices.first = some k) :
    s.kick =
      { s with
        link := { s.link with tx := some { frame := noticeFrame s.cfg s.run k, isReset := false } }
        run := { s.run with notices := s.run.notices.erase k } } := by
  rw [State.kick, idle, empty]
  dsimp only
  rw [if_neg (by simp [free]), h]

theorem State.frameEnds_of_frame {s : State} {o : Outgoing} (h : s.link.tx = some o) (plain : o.isReset = false) :
    s.frameEnds = { s with link := { s.link with tx := none } } := by
  rw [State.frameEnds, h]
  exact if_neg (by simp [plain])

theorem State.frameEnds_of_reset {s : State} {f : Frame} (h : s.link.tx = some { frame := f, isReset := true }) :
    s.frameEnds = s.softReset := by
  rw [State.frameEnds, h]
  exact if_pos rfl

/-- The soft reset, its MODE notice written out. -/
theorem State.softReset_eq (s : State) :
    s.softReset =
      { s with
        due := []
        link := Link.initial s.link.rate
        run := { Run.initial s.cfg .softReset s.run.clock.softReset s.run.pool.softReset s.run.prsPins s.run.alrPins
                   s.run.zonePins true s.run.free with
          notices := { NoticeSet.empty with mode := s.cfg.mask.mode } } } := by
  unfold State.softReset Run.post noticeAllowed
  cases s.cfg.mask.mode
  · exact rfl
  · exact rfl

/-! ## The order of the notices (R173) -/

theorem NoticeSet.first_of_sled {n : NoticeSet} {i : Sled} (h : allSleds.find? (fun i => n.sled.get i) = some i) :
    n.first = some (.sled i) := by
  rw [NoticeSet.first, h]

theorem NoticeSet.first_of_no_sled {n : NoticeSet} (h : ∀ i, n.sled.get i = false) :
    n.first
      = if n.pool then some .pool
        else if n.severe then some (.fault .severe)
        else if n.advisory then some (.fault .advisory)
        else if n.zone then some .zone
        else if n.mode then some .mode
        else none := by
  have none : allSleds.find? (fun i => n.sled.get i) = none := by simp [allSleds, h]
  rw [NoticeSet.first, none]

/-- The SLED notices come first, the lowest sled before the others. -/
theorem NoticeSet.first_sled_iff (n : NoticeSet) (i : Sled) :
    n.first = some (.sled i) ↔ n.sled.get i = true ∧ ∀ j, j < i → n.sled.get j = false := by
  have found : allSleds.find? (fun i => n.sled.get i) = some i ↔ n.sled.get i = true ∧ ∀ j, j < i → n.sled.get j = false :=
    find?_finRange_eq_some
  refine ⟨fun h => ?_, fun h => NoticeSet.first_of_sled (found.mpr h)⟩
  cases e : allSleds.find? (fun i => n.sled.get i) with
  | some j =>
    obtain rfl : j = i := by simpa [NoticeSet.first, e] using h
    exact found.mp e
  | none =>
    rw [NoticeSet.first_of_no_sled fun j => by simpa using (List.find?_eq_none.mp e) j (mem_allSleds j)] at h
    grind

/-- The release's MODE notice is taken by the transmitter within the event. -/
theorem State.release_finish (rate : Pin) (s : State) :
    (s.release rate).finish =
      { s with
        due := []
        inReset := false
        cfg := .default
        link := { Link.initial rate with tx := some { frame := frame 0 0x64 [0, 0], isReset := false } }
        run := s.run.pinReset true } := by
  have posted : (s.release rate).run.notices.first = some .mode := by
    have none (i : Sled) : (s.release rate).run.notices.sled.get i = false := tabulate_get ..
    rw [NoticeSet.first_of_no_sled none]
    rfl
  rw [State.finish_of_not_due rfl, State.kick_of_notice rfl rfl rfl posted]
  rfl

end Sys2Proof.Machine

open Sys2Proof Sys2Proof.Machine

/-- Settles O39: the RESET request is answered with its mark set, and the end of the marked reply is the soft reset. -/
theorem resetTakesEffectAfterItsReply : Obligations.ResetTakesEffectAfterItsReply := by
  unfold Obligations.ResetTakesEffectAfterItsReply
  refine ⟨fun tag s ready => ?_, fun f s up sent => ?_⟩
  · have passes : served (.reset tag []) s.popFrame = acceptReset s.popFrame := served_passes rfl rfl rfl
    have taken := State.request_ready ready (isReset := isResetRequest (.reset tag [])) passes
    have due : s.run.arbiterDue = false := ready.2.1
    rw [exec_eq_served (rfl : frameOf (.reset tag []) = some (frame tag 0x04 []))]
    refine taken.trans ?_
    have kept : s.run.serveIfDue s.cfg = s.run := Run.serveIfDue_of_not_due due
    refine congrArg Host.Outcome.next ((State.finish_of_not_due (Run.serveIfDue_arbiterDue ..)).trans ?_)
    exact congrArg (fun r => State.kick { s with run := r, link := { s.link with
      rx := s.link.rx.tail
      replies := s.link.replies ++ [{ frame := frame tag 0x84 [0], isReset := true }]
      resetAccepted := true } }) kept
  · have event : exec .frameSent s = s.event s.link.tx.isSome State.frameEnds := rfl
    rw [event, State.event_occurs up (by rw [sent]; rfl), State.frameEnds_of_reset sent, State.softReset_eq,
      State.finish_of_not_due rfl]
    rfl

/-- Settles O40: the end of a frame frees the transmitter, which takes the front reply, else the first notice. -/
theorem frameSentTakesTheNextFrame : Obligations.FrameSentTakesTheNextFrame := by
  unfold Obligations.FrameSentTakesTheNextFrame
  refine ⟨fun o s up due sent plain => ?_, fun s up idle => ?_, fun n => ⟨n.first_sled_iff, NoticeSet.first_of_no_sled⟩,
    fun c r => ⟨fun i => rfl, rfl, rfl, rfl, rfl, rfl⟩⟩
  · have event : exec .frameSent s = .next (State.kick { s with link := { s.link with tx := none } }) := by
      have event : exec .frameSent s = s.event s.link.tx.isSome State.frameEnds := rfl
      rw [event, State.event_occurs up (by rw [sent]; rfl), State.frameEnds_of_frame sent plain]
      exact congrArg Host.Outcome.next (State.finish_of_not_due due)
    rw [event]
    refine ⟨fun q rest replies => ?_, fun empty silent => ?_, fun k empty free first => ?_⟩
    · exact congrArg Host.Outcome.next (State.kick_of_reply rfl replies)
    · exact congrArg Host.Outcome.next (State.kick_of_settled (.inr ⟨empty, silent⟩))
    · exact congrArg Host.Outcome.next (State.kick_of_notice rfl empty free first)
  · exact State.event_not (.inr (by rw [idle]; rfl))

/-- Settles O41: the hold and the release write every block anew. -/
theorem pinResetsRestoreEveryValue : Obligations.PinResetsRestoreEveryValue := by
  unfold Obligations.PinResetsRestoreEveryValue
  have released (rate : Pin) {s : State} (held : s.inReset = true) :
      exec (.resetRelease rate) s = .next (s.release rate).finish := if_pos held
  refine ⟨?_, fun rate s up => if_neg (by simp [up]), fun rate s held => ?_, fun s held pins zones => ?_⟩
  · rintro c s (rfl | rfl)
    · rfl
    · rfl
  · rw [released rate held, State.release_finish]
    rfl
  · have prs : s.run.prsPins = fun _ => .high := funext fun i => (pins i).1
    have alr : s.run.alrPins = fun _ => .high := funext fun i => (pins i).2
    have zone : s.run.zonePins = fun _ => .high := funext zones
    rw [released .low held, State.release_finish, Run.pinReset, prs, alr, zone]
    rfl

/-- Settles O42: each event is one of the parser's moves, and a discard is a LINK_FRAME fault. -/
theorem linkEventsAreParsed : Obligations.LinkEventsAreParsed := by
  unfold Obligations.LinkEventsAreParsed
  intro b s up rest goes restarted
  have byte : exec (.linkByteReceived b) s = .next (s.takeLinkByte b).finish := State.event_occurs up rfl
  have settled (p : Parser) (gap : Count) : (goes p gap).finish = goes p gap := State.finish_of_atRest rest
  have expiry : exec .linkGapExpiry s = s.event s.link.gap.isSome fun s => (s.setParser .hunt none).raiseLink .truncated := rfl
  have discard : s.link.parser = .length → (b.toNat < 2 ∨ 126 < b.toNat) → s.takeLinkByte b = s.discardLength :=
    fun parser out => by
      rw [State.takeLinkByte, parser]
      exact if_neg (by rw [lenOk_iff]; omega)
  have check : s.link.parser.atLastByte = true → exec (.frameReceived b) s = .next (s.takeLinkByte b).finish :=
    State.event_occurs up
  refine ⟨fun parser => ?_, fun parser low high => ⟨?_, ?_⟩, fun parser out => ⟨?_, ?_⟩, fun len kept parser => ?_,
    fun len kept parser => ?_, ?_, fun elsewhere => ?_, fun elsewhere => ?_, fun runs => ?_,
    fun stopped => ?_⟩
  · rw [byte, State.takeLinkByte, parser]
    dsimp only
    split
    · exact congrArg Host.Outcome.next (settled ..)
    · exact congrArg Host.Outcome.next (State.finish_of_atRest rest)
  · rw [byte, State.takeLinkByte, parser]
    dsimp only
    rw [if_pos ((lenOk_iff b).mpr ⟨low, high⟩)]
    exact congrArg Host.Outcome.next (settled ..)
  · exact State.event_not (.inr (by simp [(lenOk_iff b).mpr ⟨low, high⟩]))
  · rw [byte, discard parser out]
    rfl
  · have event : (s.link.parser == .length && !lenOk b) = true := by
      have bad : lenOk b = false := by
        rw [← Bool.not_eq_true, lenOk_iff]
        omega
      simp [parser, bad]
    exact State.event_occurs up event
  · rw [byte, State.takeLinkByte, parser]
    dsimp only
    split
    · exact congrArg Host.Outcome.next (settled ..)
    · exact congrArg Host.Outcome.next (settled ..)
  · rw [byte, State.takeLinkByte, parser]
    exact congrArg Host.Outcome.next (settled ..)
  · intro len kept high parser t
    have last : s.link.parser.atLastByte = true := by rw [parser]; rfl
    have taken : s.takeLinkByte b = t.checkFrame len kept high b := by
      rw [State.takeLinkByte, parser]
      rfl
    rw [byte, check last, taken, State.checkFrame]
    refine ⟨fun wrong => ?_, fun right full => ?_, fun tag type payload right room content => ?_⟩
    · rw [if_neg wrong]
      exact ⟨rfl, rfl⟩
    · rw [if_pos right, State.acceptFrame_of_full (s := t) full]
      exact ⟨rfl, rfl⟩
    · have joined : t.acceptFrame (frameOfBytes kept)
          = { t with link := { t.link with rx := s.link.rx ++ [frame tag type payload] } } := by
        rw [content]
        exact State.acceptFrame_of_room (s := t) room _
      have end_ : (t.acceptFrame (frameOfBytes kept)).finish = t.acceptFrame (frameOfBytes kept) := by
        rw [joined]
        exact State.finish_of_atRest rest
      rw [if_pos right, end_, joined]
      exact ⟨rfl, rfl⟩
  · exact State.event_not (.inr elsewhere)
  · exact State.event_not (.inr (by simp [elsewhere]))
  · exact expiry.trans (State.event_occurs up runs)
  · exact expiry.trans (State.event_not (.inr (by rw [stopped]; rfl)))
end

section
/-! SUPPORT. What the operations of the Budget Unit leave alone: the cuts, which take units into draining, and the service of the
arbiter (R43 to R51, R55). -/

namespace Sys2Proof.Machine

open Sys2Proof

/-! ## An entry at the back of its class (R38) -/

theorem mem_insertEntry {e x : Entry} {q : List Entry} : x ∈ insertEntry e q ↔ x = e ∨ x ∈ q := by
  have parts : x ∈ q ↔ x ∈ q.takeWhile (fun x => decide (x.cls.rank ≤ e.cls.rank))
      ∨ x ∈ q.dropWhile (fun x => decide (x.cls.rank ≤ e.cls.rank)) := by
    rw [← List.mem_append, List.takeWhile_append_dropWhile]
  unfold insertEntry
  rw [List.mem_append, List.mem_cons, parts]
  exact or_left_comm

/-! ## Triggers -/

/-- An entry that is not held after an operation was not held before it, or brings a service of the arbiter; a service that is due
stays due (R42, R43). -/
structure Run.Triggers (r t : Run) : Prop where
  due : r.arbiterDue = true → t.arbiterDue = true
  unheld : ∀ e ∈ t.queue, e.held = false → t.arbiterDue = true ∨ ∃ x ∈ r.queue, x.sled = e.sled ∧ x.held = false

namespace Run.Triggers

/-- An operation that only takes entries away. -/
theorem of_sub {r t : Run} (due : r.arbiterDue = true → t.arbiterDue = true) (sub : ∀ e ∈ t.queue, e ∈ r.queue) :
    Run.Triggers r t where
  due := due
  unheld e he h := .inr ⟨e, sub e he, rfl, h⟩

theorem refl (r : Run) : Run.Triggers r r := of_sub id fun _ => id

theorem trans {r t u : Run} (h : Run.Triggers r t) (k : Run.Triggers t u) : Run.Triggers r u where
  due hr := k.due (h.due hr)
  unheld e he unheld := by
    rcases k.unheld e he unheld with due | ⟨x, hx, same, free⟩
    · exact .inl due
    · rcases h.unheld x hx free with due | ⟨y, hy, same', free'⟩
      · exact .inl (k.due due)
      · exact .inr ⟨y, hy, same'.trans same, free'⟩

theorem refreshHeld (c : Cfg) (r : Run) : Run.Triggers r (r.refreshHeld c) where
  due h := by simp [Run.refreshHeld, h]
  unheld e he free := by
    obtain ⟨x, hx, rfl⟩ := List.mem_map.mp he
    cases held : x.held with
    | false => exact .inr ⟨x, hx, rfl, held⟩
    | true =>
      have now : r.entryHeld c x.sled x.cls = false := free
      exact .inl (Bool.or_eq_true_iff.mpr (.inr (List.any_eq_true.mpr ⟨x, hx, by simp [held, now]⟩)))

theorem join (c : Cfg) (i : Sled) (k : QClass) (r : Run) : Run.Triggers r (r.join c i k) where
  due h := by simp [Run.join, h]
  unheld e he free := by
    rcases mem_insertEntry.mp he with rfl | old
    · exact .inl (by simp [Run.join, show r.entryHeld c i k = false from free])
    · exact .inr ⟨e, old, rfl, free⟩

theorem unholds {r t : Run} (h : Run.Triggers r t) (lost : r.unholds t) : t.arbiterDue = true := by
  obtain ⟨e, he, free, -, held⟩ := lost
  rcases h.unheld e he free with due | ⟨x, hx, same, free'⟩
  · exact due
  · exact absurd (held x hx same) (by simp [free'])

/-- An entry of a sled that was not queued joins with a trigger, or held. -/
theorem joins {r t : Run} (h : Run.Triggers r t) {e : Entry} (he : e ∈ t.queue) (free : e.held = false)
    (new : r.queued e.sled = false) : t.arbiterDue = true := by
  rcases h.unheld e he free with due | ⟨x, hx, same, -⟩
  · exact due
  · have : r.queued e.sled = true := List.any_eq_true.mpr ⟨x, hx, by simp [same]⟩
    exact absurd new (by simp [this])

end Run.Triggers

/-! ## Cuts -/

/-- What a cut does to one sled: it moves units of its books into draining, ends its boost or advances its reclaim, and may clear
its boost step mark. -/
structure SledRun.Cut (x y : SledRun) : Prop where
  same : y =
    { x with
      books :=
        { x.books with
          grant := y.books.grant, loan := y.books.loan, draining := y.books.draining, boost := y.books.boost
          boostFrames := y.books.boostFrames, reclaim := y.books.reclaim, recount := y.books.recount }
      chan := { x.chan with boostStep := y.chan.boostStep } }
  grant : y.books.grant ≤ x.books.grant
  total : y.books.grant + y.books.loan + y.books.draining = x.books.grant + x.books.loan + x.books.draining
  step : y.chan.boostStep = true → x.chan.boostStep = true

theorem SledRun.Cut.refl (x : SledRun) : SledRun.Cut x x where
  same := rfl
  grant := Nat.le_refl _
  total := rfl
  step := id

theorem SledRun.Cut.trans {x y z : SledRun} (h : SledRun.Cut x y) (k : SledRun.Cut y z) : SledRun.Cut x z where
  same := by
    rw [k.same, h.same]
  grant := Nat.le_trans k.grant h.grant
  total := k.total.trans h.total
  step := fun hz => h.step (k.step hz)

/-- What the operations that cut units leave alone. -/
structure Run.Cuts (r t : Run) : Prop where
  frame : t =
    { r with sleds := t.sleds, queue := t.queue, boostList := t.boostList, arbiterDue := t.arbiterDue, notices := t.notices }
  sled : ∀ i, SledRun.Cut (r.sleds.get i) (t.sleds.get i)
  triggers : Run.Triggers r t

namespace Run.Cuts

theorem refl (r : Run) : Run.Cuts r r where
  frame := rfl
  sled _ := .refl _
  triggers := .refl r

theorem trans {r t u : Run} (h : Run.Cuts r t) (k : Run.Cuts t u) : Run.Cuts r u where
  frame := by
    rw [k.frame, h.frame]
  sled i := (h.sled i).trans (k.sled i)
  triggers := h.triggers.trans k.triggers

theorem foldl {α : Type} {f : Run → α → Run} (hf : ∀ r a, Run.Cuts r (f r a)) (as : List α) (r : Run) :
    Run.Cuts r (as.foldl f r) := by
  induction as generalizing r with
  | nil => exact refl r
  | cons a as ih => exact (hf r a).trans (ih _)

/-- A change of the queue, the lists and the notices. -/
theorem of_sleds {r t : Run}
    (frame : t = { r with queue := t.queue, boostList := t.boostList, arbiterDue := t.arbiterDue, notices := t.notices })
    (triggers : Run.Triggers r t) : Run.Cuts r t where
  frame := by rw [frame]
  sled i := by rw [frame]; exact .refl _
  triggers := triggers

theorem modSled {i : Sled} {f : SledRun → SledRun} {r : Run} (h : SledRun.Cut (r.sleds.get i) (f (r.sleds.get i))) :
    Run.Cuts r (r.modSled i f) where
  frame := rfl
  sled j := by
    show SledRun.Cut _ ((modAt i f r.sleds).get j)
    rw [modAt_get]
    split
    · next e => rw [e]; exact h
    · exact .refl _
  triggers := .of_sub id fun _ => id

theorem modBooks {i : Sled} {f : Books → Books} {r : Run}
    (same : f (r.books i) =
      { r.books i with
        grant := (f (r.books i)).grant, loan := (f (r.books i)).loan, draining := (f (r.books i)).draining
        boost := (f (r.books i)).boost, boostFrames := (f (r.books i)).boostFrames, reclaim := (f (r.books i)).reclaim
        recount := (f (r.books i)).recount })
    (grant : (f (r.books i)).grant ≤ (r.books i).grant)
    (total : (f (r.books i)).grant + (f (r.books i)).loan + (f (r.books i)).draining
      = (r.books i).grant + (r.books i).loan + (r.books i).draining) :
    Run.Cuts r (r.modBooks i f) :=
  modSled
    { same := congrArg (fun b => { r.sleds.get i with books := b }) same
      grant := grant
      total := total
      step := id }

theorem post (c : Cfg) (k : Notice) (r : Run) : Run.Cuts r (r.post c k) := by
  unfold Run.post
  split
  · exact of_sleds rfl (.of_sub id fun _ => id)
  · exact refl r

theorem triggerIf (b : Bool) (r : Run) : Run.Cuts r (r.triggerIf b) :=
  of_sleds rfl (.of_sub (fun h => by simp [Run.triggerIf, h]) fun _ => id)

theorem leaveQueue (i : Sled) (r : Run) : Run.Cuts r (r.leaveQueue i) :=
  of_sleds rfl (.of_sub id fun _ he => (List.mem_filter.mp he).1)

theorem refreshHeld (c : Cfg) (r : Run) : Run.Cuts r (r.refreshHeld c) := of_sleds rfl (.refreshHeld c r)

theorem join (c : Cfg) (i : Sled) (k : QClass) (r : Run) : Run.Cuts r (r.join c i k) :=
  of_sleds rfl (.join c i k r)

theorem joinIfShort (c : Cfg) (i : Sled) (r : Run) : Run.Cuts r (r.joinIfShort c i) := by
  unfold Run.joinIfShort
  split
  · exact refl r
  · exact join ..

theorem endBoost (i : Sled) (r : Run) : Run.Cuts r (r.endBoost i) := by
  have books : Run.Cuts r (r.modBooks i fun b =>
      { b with draining := b.draining + b.loan, loan := 0, boost := .rearm, boostFrames := 0 }) :=
    modBooks rfl (Nat.le_refl _) (by dsimp only; omega)
  exact books.trans (of_sleds rfl (.of_sub id fun _ => id))

theorem endBoostEarly (i : Sled) (r : Run) : Run.Cuts r (r.endBoostEarly i) := by
  unfold Run.endBoostEarly
  split
  · exact (endBoost i r).trans (modSled { same := rfl, grant := Nat.le_refl _, total := rfl, step := nofun })
  · exact refl r

theorem endAllBoosts (r : Run) : Run.Cuts r r.endAllBoosts := foldl (fun r i => endBoostEarly i r) _ r

/-- A cut of the grant to a smaller one. -/
theorem cutGrant {i : Sled} {keep : Nat} {r : Run} (h : keep ≤ (r.books i).grant) :
    Run.Cuts r (r.modBooks i fun b => { b with grant := keep, draining := b.draining + (b.grant - keep) }) :=
  modBooks rfl h (by dsimp only; omega)

theorem advanceBoost (c : Cfg) (i : Sled) (r : Run) : Run.Cuts r (r.advanceBoost c i) := by
  unfold Run.advanceBoost
  split
  · exact refl r
  · exact modBooks rfl (Nat.le_refl _) rfl
  · split
    · exact (endBoost i r).trans (refreshHeld ..)
    · exact modBooks rfl (Nat.le_refl _) rfl

theorem countReclaim (n : Nat) (i : Sled) (r : Run) : Run.Cuts r (r.countReclaim n i) :=
  modBooks rfl (Nat.le_refl _) rfl

theorem reclaim (c : Cfg) (i : Sled) (r : Run) : Run.Cuts r (r.reclaim c i) := by
  unfold Run.reclaim
  dsimp only
  split
  · exact countReclaim ..
  · next above =>
    refine .trans (countReclaim 0 i r) (.trans (.trans (cutGrant ?_) (joinIfShort ..)) (refreshHeld ..))
    simpa [Run.countReclaim] using Nat.le_of_lt (Nat.lt_of_not_le above)

theorem advanceReclaim (c : Cfg) (i : Sled) (r : Run) : Run.Cuts r (r.advanceReclaim c i) := by
  unfold Run.advanceReclaim
  split
  · split
    · exact reclaim ..
    · exact countReclaim ..
  · exact countReclaim ..

/-! ## Revocation -/

theorem revokeLoan (v : Revoked) (i : Sled) : Run.Cuts v.run (Machine.revokeLoan v i).run := by
  unfold Machine.revokeLoan
  split
  · exact refl _
  · exact endBoostEarly ..

end Run.Cuts

/-- The grant kept under a deficit: of the level found, else of the floor (R48). -/
theorem keptGrant_le {c : Cfg} {i : Sled} {grant : Nat} {deficit : Int} (pos : 0 < deficit) (above : floorCost c i < grant) :
    keptGrant c i grant deficit ≤ grant := by
  unfold keptGrant
  split
  · next k found =>
    have fits : (costAt c i k : Int) ≤ grant - deficit := by
      simpa using (List.find?_some found)
    omega
  · omega

namespace Run.Cuts

theorem revokeGrant (c : Cfg) (v : Revoked) (i : Sled) : Run.Cuts v.run (Machine.revokeGrant c v i).run := by
  unfold Machine.revokeGrant
  dsimp only
  split
  · exact refl _
  · next h =>
    simp only [Bool.or_eq_true, decide_eq_true_eq, not_or, Int.not_le, Nat.not_le] at h
    have less := keptGrant_le h.1 h.2
    refine modBooks (f := fun b =>
      { b with
        grant := keptGrant c i (v.run.books i).grant v.deficit
        draining := b.draining + ((v.run.books i).grant - keptGrant c i (v.run.books i).grant v.deficit) }) rfl less ?_
    dsimp only
    omega

theorem revoked {f : Revoked → Sled → Revoked} (hf : ∀ v i, Run.Cuts v.run (f v i).run) (l : List Sled) (v : Revoked) :
    Run.Cuts v.run (l.foldl f v).run := by
  induction l generalizing v with
  | nil => exact refl _
  | cons i l ih => exact (hf v i).trans (ih _)

theorem revoke (c : Cfg) (r : Run) : Run.Cuts r (r.revoke c) := by
  unfold Run.revoke
  dsimp only
  split
  · refine .trans (.trans (.trans (.trans (revoked revokeLoan _ { run := r, deficit := _, taken := _, cut := _ })
      (revoked (revokeGrant c) _ _)) (foldl (fun r i => joinIfShort c i r) _ _)) (refreshHeld ..)) (post ..)
  · exact refl r

end Run.Cuts

/-- A new pool size: but for the size, a cut. -/
theorem Run.resizePool_cuts (c : Cfg) (size : Nat) (r : Run) :
    Run.Cuts { r with pool := { r.pool with size := size } } (r.resizePool c size) :=
  (Run.Cuts.revoke ..).trans (.triggerIf ..)

theorem Run.resizePool_due {c : Cfg} {size : Nat} {r : Run} (h : r.pool.size < size) : (r.resizePool c size).arbiterDue = true := by
  simp [Run.resizePool, Run.triggerIf, h]

/-! ## The service of the arbiter -/

/-- What the operations that serve the queue can change of one sled. -/
structure SledRun.Accounted (x y : SledRun) : Prop where
  same : y =
    { x with
      books := y.books
      life := { x.life with state := y.life.state, admission := y.life.admission, containPending := y.life.containPending }
      chan := { x.chan with boostStep := y.chan.boostStep } }
  step : y.chan.boostStep = true → x.chan.boostStep = true

theorem SledRun.Accounted.refl (x : SledRun) : SledRun.Accounted x x where
  same := rfl
  step := id

theorem SledRun.Accounted.trans {x y z : SledRun} (h : SledRun.Accounted x y) (k : SledRun.Accounted y z) :
    SledRun.Accounted x z where
  same := by
    rw [k.same, h.same]
  step := fun hz => h.step (k.step hz)

/-- What the operations that serve the queue leave alone. -/
structure Run.Accounts (r t : Run) : Prop where
  frame : t =
    { r with
      sleds := t.sleds, queue := t.queue, raiseOrder := t.raiseOrder, boostList := t.boostList, arbiterDue := t.arbiterDue
      notices := t.notices }
  sled : ∀ i, SledRun.Accounted (r.sleds.get i) (t.sleds.get i)

theorem Run.Cuts.accounts {r t : Run} (h : Run.Cuts r t) : Run.Accounts r t where
  frame := by
    rw [h.frame]
  sled i := ⟨by rw [(h.sled i).same], (h.sled i).step⟩

namespace Run.Accounts

theorem refl (r : Run) : Run.Accounts r r := (Run.Cuts.refl r).accounts

theorem trans {r t u : Run} (h : Run.Accounts r t) (k : Run.Accounts t u) : Run.Accounts r u where
  frame := by
    rw [k.frame, h.frame]
  sled i := (h.sled i).trans (k.sled i)

theorem modSled {i : Sled} {f : SledRun → SledRun} {r : Run} (h : SledRun.Accounted (r.sleds.get i) (f (r.sleds.get i))) :
    Run.Accounts r (r.modSled i f) where
  frame := rfl
  sled j := by
    show SledRun.Accounted _ ((modAt i f r.sleds).get j)
    rw [modAt_get]
    split
    · next e => rw [e]; exact h
    · exact .refl _

theorem modBooks (i : Sled) (f : Books → Books) (r : Run) : Run.Accounts r (r.modBooks i f) := modSled ⟨rfl, id⟩

/-- A change of the sled's state, its admission count and its contain pending mark. -/
theorem modLife {i : Sled} {f : Life → Life} {r : Run}
    (h : f (r.life i) = { r.life i with
      state := (f (r.life i)).state, admission := (f (r.life i)).admission, containPending := (f (r.life i)).containPending }) :
    Run.Accounts r (r.modLife i f) :=
  modSled ⟨congrArg (fun l => { r.sleds.get i with life := l }) h, id⟩

theorem becomeTracking (c : Cfg) (i : Sled) (r : Run) : Run.Accounts r (r.becomeTracking c i) :=
  .trans (modLife rfl) (.trans (Run.Cuts.post ..).accounts (Run.Cuts.joinIfShort ..).accounts)

theorem cutToFloor (c : Cfg) (i : Sled) (r : Run) : Run.Accounts r (r.cutToFloor c i) :=
  .trans (Run.Cuts.endBoostEarly ..).accounts
    (.trans (modBooks ..) (.trans (Run.Cuts.leaveQueue ..).accounts (Run.Cuts.refreshHeld ..).accounts))

theorem isolate (c : Cfg) (i : Sled) (r : Run) : Run.Accounts r (r.isolate c i) :=
  .trans (modLife rfl) (.trans (cutToFloor ..) (Run.Cuts.post ..).accounts)

theorem settleAdmission (c : Cfg) (i : Sled) (r : Run) : Run.Accounts r (r.settleAdmission c i) := by
  unfold Run.settleAdmission
  dsimp only
  split
  · split
    · exact isolate ..
    · split
      · exact refl r
      · exact becomeTracking ..
  · exact refl r

theorem takeNewest (i : Sled) (r : Run) : Run.Accounts r (r.takeNewest i) := ⟨rfl, fun _ => .refl _⟩

theorem serveFloor (c : Cfg) (i : Sled) (r : Run) : Run.Accounts r (r.serveFloor c i).1 := by
  unfold Run.serveFloor
  split
  · exact .trans (modBooks ..) (.trans (Run.Cuts.leaveQueue ..).accounts (.trans (takeNewest ..) (settleAdmission ..)))
  · exact refl r

theorem serveClass (c : Cfg) (i : Sled) (r : Run) : Run.Accounts r (r.serveClass c i).1 := by
  unfold Run.serveClass
  split
  · exact refl r
  · dsimp only
    split
    · exact .trans (modBooks ..) (.trans (takeNewest ..) (Run.Cuts.leaveQueue ..).accounts)
    · exact .trans (modBooks ..) (.trans (takeNewest ..) (Run.Cuts.refreshHeld ..).accounts)

theorem serveEntry (c : Cfg) (e : Entry) (r : Run) : Run.Accounts r (r.serveEntry c e).1 := by
  unfold Run.serveEntry
  split
  · exact serveFloor ..
  · exact serveClass ..

theorem walk (c : Cfg) (n : Nat) (r : Run) : Run.Accounts r (Run.walk c n r) := by
  induction n generalizing r with
  | zero => exact refl r
  | succ n ih =>
    rw [Run.walk]
    split
    · exact refl r
    · split
      · exact (serveEntry ..).trans (ih _)
      · exact serveEntry ..

theorem serve (c : Cfg) (r : Run) : Run.Accounts r (r.serve c) := (walk c walkTurns r).trans ⟨rfl, fun _ => .refl _⟩

theorem serveIfDue (c : Cfg) (r : Run) : Run.Accounts r (r.serveIfDue c) := by
  unfold Run.serveIfDue
  split
  · exact serve ..
  · exact refl r

/-- What the end of an event can change. -/
theorem after (s : State) (r : Run) : Run.Accounts r (s.after r).run := by
  obtain ⟨n, e⟩ := State.after_run s r
  rw [e]
  exact (serveIfDue s.cfg r).trans ⟨rfl, fun _ => .refl _⟩

end Run.Accounts

end Sys2Proof.Machine
end

section
/-! SUPPORT. The boundary of a sled (R13, R50, R51, R55) and the expiry of the lease (R30). -/

namespace Sys2Proof.Machine

open Sys2Proof

/-! ## The level at a boundary (R13) -/

/-- The level settled: tightening and the boost step take it to the target, a dwell that has run out loosens it by one. -/
theorem settledLevel_eq (active target : Level) (dwell : Nat) (boostStep : Bool) :
    settledLevel active target dwell boostStep =
      if active ≤ target ∨ boostStep = true then target else if dwell = 0 then active - 1 else active := by
  unfold settledLevel
  by_cases tight : active ≤ target
  · rw [if_pos tight, if_pos (.inl tight)]
  · cases boostStep <;> simp [tight]

theorem settledLevel_reaches {active target : Level} {dwell : Nat} {boostStep : Bool} (h : active ≤ target) :
    settledLevel active target dwell boostStep = target := by
  rw [settledLevel_eq, if_pos (.inl h)]

theorem Level.le_sub_one {a b : Level} : a < b → a ≤ b - 1 := by
  revert a b
  decide

theorem settledLevel_keeps_above (active target : Level) (dwell : Nat) (boostStep : Bool) :
    target ≤ settledLevel active target dwell boostStep ∨ active ≤ target := by
  by_cases tight : active ≤ target
  · exact .inr tight
  · refine .inl ?_
    have above : target < active := Fin.not_le.mp tight
    rw [settledLevel_eq]
    split
    · exact Fin.le_refl _
    · split
      · exact Level.le_sub_one above
      · exact Fin.le_of_lt above

/-! ## The books of one sled -/

theorem Run.modBooks_congr {r : Run} {i : Sled} {f g : Books → Books} (h : f (r.books i) = g (r.books i)) :
    r.modBooks i f = r.modBooks i g := by
  simp only [Run.modBooks, Run.modSled]
  rw [modAt_congr (g := fun x => { x with books := g x.books })]
  exact congrArg (fun b => { r.sleds.get i with books := b }) h

theorem Run.modBooks_of_same {r : Run} {i : Sled} {f : Books → Books} (h : f (r.books i) = r.books i) : r.modBooks i f = r := by
  have sled : ({ r.sleds.get i with books := f (r.sleds.get i).books } : SledRun) = r.sleds.get i :=
    congrArg (fun b => { r.sleds.get i with books := b }) h
  have sleds : (r.modBooks i f).sleds = r.sleds := 
    modAt_of_fixed (f := fun x : SledRun => { x with books := f x.books }) sled
  exact congrArg (fun v => { r with sleds := v }) sleds

/-! ## The books at a boundary (R34, R50, R51, R55) -/

/-- The boost record of a sled after substep 2. -/
def Books.boostAdvanced (b : Books) : Books :=
  match b.boost with
  | .none => b
  | .rearm => { b with boost := .none }
  | .running =>
    if b.boostFrames ≤ 1 then { b with draining := b.draining + b.loan, loan := 0, boost := .rearm, boostFrames := 0 }
    else { b with boostFrames := b.boostFrames - 1 }

/-- Whether the boost ends at this boundary. -/
abbrev Books.boostEnds (b : Books) : Prop := b.boost = .running ∧ b.boostFrames ≤ 1

theorem Run.advanceBoost_of_ends {c : Cfg} {i : Sled} {r : Run} (h : (r.books i).boostEnds) :
    r.advanceBoost c i = (r.endBoost i).refreshHeld c := by
  rw [Run.advanceBoost, h.1]
  exact if_pos h.2

theorem Run.advanceBoost_of_not_ends {c : Cfg} {i : Sled} {r : Run} (h : ¬(r.books i).boostEnds) :
    r.advanceBoost c i = r.modBooks i Books.boostAdvanced := by
  unfold Run.advanceBoost
  split
  · next none => exact (Run.modBooks_of_same (by simp [Books.boostAdvanced, none])).symm
  · next rearm => exact Run.modBooks_congr (by simp [Books.boostAdvanced, rearm])
  · next running =>
    have many : ¬(r.books i).boostFrames ≤ 1 := fun few => h ⟨running, few⟩
    rw [if_neg many]
    exact Run.modBooks_congr (by simp [Books.boostAdvanced, running, many])

theorem Run.advanceBoost_sleds (c : Cfg) (i : Sled) (r : Run) :
    (r.advanceBoost c i).sleds = modAt i (fun x => { x with books := x.books.boostAdvanced }) r.sleds := by
  by_cases ends : (r.books i).boostEnds
  · rw [Run.advanceBoost_of_ends ends]
    refine modAt_congr (f := fun x : SledRun =>
      { x with books :=
          { x.books with draining := x.books.draining + x.books.loan, loan := 0, boost := .rearm, boostFrames := 0 } }) ?_
    have few : (r.sleds.get i).books.boostAdvanced =
        { (r.sleds.get i).books with
          draining := (r.sleds.get i).books.draining + (r.sleds.get i).books.loan, loan := 0, boost := .rearm, boostFrames := 0 } := by
      have running : (r.sleds.get i).books.boost = .running := ends.1
      unfold Books.boostAdvanced
      rw [running]
      exact if_pos ends.2
    rw [few]
  · rw [Run.advanceBoost_of_not_ends ends]
    rfl

/-- The boost's advance changes the books, the boost list and, where a boost ends, the held flags. -/
theorem Run.advanceBoost_frame (c : Cfg) (i : Sled) (r : Run) :
    r.advanceBoost c i = { r with
      sleds := (r.advanceBoost c i).sleds, queue := (r.advanceBoost c i).queue
      boostList := if (r.books i).boostEnds then r.boostList.filter (fun j => j != i) else r.boostList
      arbiterDue := (r.advanceBoost c i).arbiterDue } := by
  by_cases ends : (r.books i).boostEnds
  · rw [if_pos ends, Run.advanceBoost_of_ends ends]
    rfl
  · rw [if_neg ends, Run.advanceBoost_of_not_ends ends]
    rfl

/-- The reclaim counter reaches its limit at this boundary, and the grant is above the cost at the ceiling (R50, R51). -/
def Run.reclaims (c : Cfg) (i : Sled) (r : Run) : Prop :=
  (r.reclaimCounts c i = true ∧ c.globals.reclaimFrames ≤ (r.books i).counted + 1)
    ∧ costAt c i (r.ceiling c i) < (r.books i).grant

/-- The books of a sled whose grant is cut to the cost at the ceiling (R51). -/
def Books.reclaimed (keep : Nat) (b : Books) : Books :=
  { b with reclaim := 0, recount := false, grant := keep, draining := b.draining + (b.grant - keep) }

theorem Run.advanceReclaim_of_reclaims {c : Cfg} {i : Sled} {r : Run} (h : r.reclaims c i) :
    r.advanceReclaim c i = ((r.modBooks i (Books.reclaimed (costAt c i (r.ceiling c i)))).joinIfShort c i).refreshHeld c := by
  obtain ⟨⟨counts, full⟩, above⟩ := h
  unfold Run.advanceReclaim Run.reclaim Run.countReclaim
  dsimp only
  rw [if_pos counts, if_pos full, if_neg (Nat.not_le.mpr above), Run.modBooks_modBooks]
  rfl

theorem Run.advanceReclaim_of_not_reclaims {c : Cfg} {i : Sled} {r : Run} (h : ¬r.reclaims c i) :
    r.advanceReclaim c i =
      r.countReclaim
        (if r.reclaimCounts c i = true ∧ ¬c.globals.reclaimFrames ≤ (r.books i).counted + 1 then (r.books i).counted + 1 else 0)
        i := by
  unfold Run.advanceReclaim Run.reclaim
  dsimp only
  by_cases counts : r.reclaimCounts c i = true
  · by_cases full : c.globals.reclaimFrames ≤ (r.books i).counted + 1
    · have covered : (r.books i).grant ≤ costAt c i (r.ceiling c i) := Nat.not_lt.mp fun above => h ⟨⟨counts, full⟩, above⟩
      rw [if_pos counts, if_pos full, if_pos covered, if_neg fun k => k.2 full]
    · rw [if_pos counts, if_neg full, if_pos ⟨counts, full⟩]
  · rw [if_neg counts, if_neg fun k => counts k.1]

/-- A sled short of its want is queued, whether it was before or joins (R39). -/
theorem Run.joinIfShort_queued {c : Cfg} {i : Sled} {r : Run} (tracking : (r.life i).state = .tracking)
    (short : (r.books i).grant < r.wantCost c i) : (r.joinIfShort c i).queued i = true := by
  unfold Run.joinIfShort
  by_cases queued : r.queued i = true
  · rw [if_pos (by simp [queued])]
    exact queued
  · rw [if_neg (by simp [queued, tracking, short])]
    exact List.any_eq_true.mpr ⟨_, mem_insertEntry.mpr (.inl rfl), by simp⟩

theorem Run.joinIfShort_frame (c : Cfg) (i : Sled) (r : Run) :
    r.joinIfShort c i = { r with queue := (r.joinIfShort c i).queue, arbiterDue := (r.joinIfShort c i).arbiterDue } := by
  unfold Run.joinIfShort
  split
  · rfl
  · rfl

@[simp] theorem Run.joinIfShort_sleds (c : Cfg) (i : Sled) (r : Run) : (r.joinIfShort c i).sleds = r.sleds := by
  rw [Run.joinIfShort_frame]

theorem Run.refreshHeld_queued (c : Cfg) (r : Run) (i : Sled) : (r.refreshHeld c).queued i = r.queued i := by
  simp [Run.queued, Run.refreshHeld, List.any_map, Function.comp_def]

/-- The held flags are up to date. -/
def Run.heldCurrent (c : Cfg) (r : Run) : Prop := ∀ e ∈ r.queue, e.held = r.entryHeld c e.sled e.cls

theorem Run.heldCurrent_refreshHeld (c : Cfg) (r : Run) : (r.refreshHeld c).heldCurrent c := by
  intro e he
  rw [Run.refreshHeld_entryHeld]
  exact Run.held_of_mem_refreshHeld he

/-- Whether an entry is held depends on grants and boosts, ceilings, the mode and the zone only (R42). -/
theorem Run.entryHeld_congr {c : Cfg} {r t : Run} (therm : ∀ i, t.therm i = r.therm i)
    (books : ∀ i, (t.books i).grant = (r.books i).grant ∧ (t.books i).boost = (r.books i).boost) (mode : t.mode = r.mode)
    (zone : t.zone.state = r.zone.state) : t.entryHeld c = r.entryHeld c := by
  funext i k
  cases k with
  | floor => rfl
  | cls k =>
    unfold Run.entryHeld Run.holds Run.ceiling Run.raisesForbidden
    rw [therm i, (books i).1, (books i).2, mode, zone]

theorem Run.heldCurrent_countReclaim {c : Cfg} {n : Nat} {i : Sled} {r : Run} (h : r.heldCurrent c) :
    (r.countReclaim n i).heldCurrent c := by
  have same : (r.countReclaim n i).entryHeld c = r.entryHeld c :=
    Run.entryHeld_congr (fun j => by simp [Run.countReclaim])
      (fun j => by rw [Run.countReclaim, Run.modBooks_books]; split <;> simp_all) rfl rfl
  intro e he
  rw [same]
  exact h e he

/-- The draining figure's return is a trigger where there is one (R34, R43). -/
theorem Run.returnDraining_triggers (i : Sled) (r : Run) : Run.Triggers r (r.returnDraining i) :=
  .of_sub (fun h => by simp [Run.returnDraining, Run.triggerIf, h]) fun _ => id

theorem Run.Accounts.returnDraining (i : Sled) (r : Run) : Run.Accounts r (r.returnDraining i) :=
  .trans (.modBooks ..) (Run.Cuts.triggerIf ..).accounts

theorem Run.Accounts.boundaryBooks (c : Cfg) (i : Sled) (r : Run) : Run.Accounts r (r.boundaryBooks c i) :=
  .trans (.returnDraining i r) (.trans (Run.Cuts.advanceBoost ..).accounts (Run.Cuts.advanceReclaim ..).accounts)

end Sys2Proof.Machine
end

section
/-! SUPPORT. A boundary event (R4, R9, R13, R55) and the expiry of the lease (R30), whole. -/

namespace Sys2Proof.Machine

open Sys2Proof

/-! ## What an operation on the accounts leaves -/

theorem Run.Accounts.chan {r t : Run} (h : Run.Accounts r t) (i : Sled) :
    t.chan i = { r.chan i with boostStep := (t.chan i).boostStep } :=
  congrArg SledRun.chan (h.sled i).same

/-- A mark that is clear stays clear, and the channel with it. -/
theorem Run.Accounts.chan_of_clear {r t : Run} (h : Run.Accounts r t) {i : Sled} (clear : (r.chan i).boostStep = false) :
    t.chan i = r.chan i := by
  have still : (t.chan i).boostStep = (r.chan i).boostStep := by
    rw [clear]
    exact Bool.eq_false_iff.mpr fun set => Bool.false_ne_true (clear.symm.trans ((h.sled i).step set))
  rw [h.chan i, still]

theorem Run.Accounts.therm {r t : Run} (h : Run.Accounts r t) (i : Sled) : t.therm i = r.therm i :=
  (congrArg SledRun.therm (h.sled i).same).trans rfl

theorem Run.Accounts.alert {r t : Run} (h : Run.Accounts r t) (i : Sled) : t.alert i = r.alert i :=
  (congrArg SledRun.alert (h.sled i).same).trans rfl

/-! ## The boundary -/

/-- A sled's channel at its boundary: the level settled, the carrier begun anew (R9, R13). -/
def Run.boundaryChan (c : Cfg) (i : Sled) (r : Run) : Run :=
  r.modChan i fun x => x.boundary c.globals.rampFrames c.levels (r.target c i) ((r.life i).state == .absent)

theorem Run.boundary_eq (c : Cfg) (i : Sled) (r : Run) : r.boundary i c = (r.boundaryChan c i).boundaryBooks c i := rfl

@[simp] theorem Run.boundaryChan_books (c : Cfg) (i j : Sled) (r : Run) : (r.boundaryChan c i).books j = r.books j := by
  simp [Run.boundaryChan]

theorem exec_boundaryEvent {i : Sled} {s : State} (up : s.inReset = false) (enabled : (s.run.life i).state ≠ .disabled) :
    exec (.boundaryEvent i) s = .next (s.after (s.run.boundary i s.cfg)) := by
  have event : exec (.boundaryEvent i) s = s.runEvent (s.run.hasBoundary i) (Run.boundary i) := rfl
  rw [event, State.runEvent_after up (by simp [Run.hasBoundary, enabled])]

/-- Substeps 2 and 3 after substep 1, which leaves the channel, the boost and the reclaim counter as they are. -/
theorem Run.boundaryBooks_sleds_other (c : Cfg) {i j : Sled} (h : j ≠ i) (r : Run) :
    (r.boundaryBooks c i).sleds.get j = r.sleds.get j := by
  have first : (r.returnDraining i).sleds.get j = r.sleds.get j := modAt_get_other h ..
  have second : ((r.returnDraining i).advanceBoost c i).sleds.get j = r.sleds.get j := by
    rw [Run.advanceBoost_sleds, modAt_get_other h, first]
  unfold Run.boundaryBooks
  generalize (r.returnDraining i).advanceBoost c i = w at second ⊢
  by_cases reclaims : w.reclaims c i
  · rw [Run.advanceReclaim_of_reclaims reclaims, Run.refreshHeld_sleds, Run.joinIfShort_sleds]
    exact (modAt_get_other h ..).trans second
  · rw [Run.advanceReclaim_of_not_reclaims reclaims]
    exact (modAt_get_other h ..).trans second

theorem Run.returnDraining_books (i : Sled) (r : Run) : (r.returnDraining i).books i = { r.books i with draining := 0 } := by
  simp [Run.returnDraining]

theorem Books.boostAdvanced_eq (b : Books) :
    b.boostAdvanced =
      { b with
        loan := if b.boostEnds then 0 else b.loan
        draining := b.draining + (if b.boostEnds then b.loan else 0)
        boost := match b.boost with
          | .none | .rearm => .none
          | .running => if b.boostEnds then .rearm else .running
        boostFrames := if b.boost = .running then b.boostFrames - 1 else b.boostFrames } := by
  obtain ⟨grant, loan, draining, wanted, cls, reserved, reclaim, recount, boost, frames⟩ := b
  unfold Books.boostAdvanced Books.boostEnds
  cases boost with
  | none => simp
  | rearm => simp
  | running =>
    by_cases few : frames ≤ 1
    · simp [few]
    · simp [few]

theorem Run.advanceBoost_books (c : Cfg) (i : Sled) (r : Run) : (r.advanceBoost c i).books i = (r.books i).boostAdvanced := by
  unfold Run.books
  rw [Run.advanceBoost_sleds, modAt_get_self]

/-- The books after substeps 1 and 2. -/
theorem Run.advanceBoost_returnDraining_books (c : Cfg) (i : Sled) (r : Run) :
    ((r.returnDraining i).advanceBoost c i).books i =
      { r.books i with
        loan := if (r.books i).boostEnds then 0 else (r.books i).loan
        draining := if (r.books i).boostEnds then (r.books i).loan else 0
        boost := match (r.books i).boost with
          | .none | .rearm => .none
          | .running => if (r.books i).boostEnds then .rearm else .running
        boostFrames := if (r.books i).boost = .running then (r.books i).boostFrames - 1 else (r.books i).boostFrames } := by
  rw [Run.advanceBoost_books, Run.returnDraining_books, Books.boostAdvanced_eq]
  simp only [Nat.zero_add]

theorem Run.Cuts.wanted {r t : Run} (h : Run.Cuts r t) (i : Sled) : (t.books i).wanted = (r.books i).wanted :=
  (congrArg (fun x => x.books.wanted) (h.sled i).same).trans rfl

/-- The conditions of R50, on the books as substep 2 left them. -/
theorem Run.reclaimCounts_iff {c : Cfg} {r : Run} {i : Sled} :
    r.reclaimCounts c i = true ↔
      (r.life i).state = .tracking
        ∧ (loosest c i 0 ((r.books i).grant + (r.books i).loan : Nat)).getD 15 < r.ceiling c i ∧ r.mode = .run
        ∧ r.zone.state ≠ .emergency := by
  unfold Run.reclaimCounts Run.grantLevel
  by_cases tracking : (r.life i).state = .tracking
  · simp [tracking, and_assoc]
  · simp [tracking]

/-- The units that a boundary takes from a sled's grant (R51). -/
def Run.reclaimCut (c : Cfg) (i : Sled) (r : Run) : Nat :=
  if r.reclaimCounts c i = true ∧ c.globals.reclaimFrames ≤ (r.books i).counted + 1 then
    (r.books i).grant - costAt c i (r.ceiling c i)
  else 0

theorem Run.reclaims_iff {c : Cfg} {i : Sled} {r : Run} : r.reclaims c i ↔ 0 < r.reclaimCut c i := by
  unfold Run.reclaims Run.reclaimCut
  split
  · next full => exact (and_iff_right full).trans Nat.sub_pos_iff_lt.symm
  · next part => simp [part]

theorem Run.advanceReclaim_frame (c : Cfg) (i : Sled) (r : Run) :
    r.advanceReclaim c i = { r with
      sleds := (r.advanceReclaim c i).sleds, queue := (r.advanceReclaim c i).queue
      arbiterDue := (r.advanceReclaim c i).arbiterDue } := by
  by_cases reclaims : r.reclaims c i
  · rw [Run.advanceReclaim_of_reclaims reclaims, Run.joinIfShort_frame]
    rfl
  · rw [Run.advanceReclaim_of_not_reclaims reclaims]
    rfl

theorem Run.advanceReclaim_books (c : Cfg) (i : Sled) (r : Run) :
    (r.advanceReclaim c i).books i =
      { r.books i with
        grant := (r.books i).grant - r.reclaimCut c i
        draining := (r.books i).draining + r.reclaimCut c i
        reclaim :=
          if r.reclaimCounts c i = true ∧ ¬c.globals.reclaimFrames ≤ (r.books i).counted + 1 then (r.books i).counted + 1 else 0
        recount := false } := by
  by_cases reclaims : r.reclaims c i
  · obtain ⟨⟨counts, full⟩, above⟩ := reclaims
    have cut : r.reclaimCut c i = (r.books i).grant - costAt c i (r.ceiling c i) := if_pos ⟨counts, full⟩
    have keep : (r.books i).grant - ((r.books i).grant - costAt c i (r.ceiling c i)) = costAt c i (r.ceiling c i) := by omega
    rw [Run.advanceReclaim_of_reclaims ⟨⟨counts, full⟩, above⟩, Run.books, Run.refreshHeld_sleds, Run.joinIfShort_sleds]
    refine (Run.modBooks_books_self ..).trans ?_
    rw [if_neg fun h => h.2 full, cut, keep]
    rfl
  · have zero : r.reclaimCut c i = 0 := Nat.eq_zero_of_not_pos fun pos => reclaims (Run.reclaims_iff.mpr pos)
    rw [Run.advanceReclaim_of_not_reclaims reclaims, Run.countReclaim, Run.modBooks_books_self, zero]
    rfl

/-- A cut brings the held flags up to date and queues a sled that is short of its want; otherwise queue and flags stay. -/
theorem Run.advanceReclaim_queue (c : Cfg) (i : Sled) (r : Run) :
    (0 < r.reclaimCut c i → (r.advanceReclaim c i).heldCurrent c)
      ∧ (0 < r.reclaimCut c i → (r.books i).grant - r.reclaimCut c i < r.wantCost c i → (r.advanceReclaim c i).queued i = true)
      ∧ (r.reclaimCut c i = 0 → (r.advanceReclaim c i).queue = r.queue)
      ∧ (r.reclaimCut c i = 0 → r.heldCurrent c → (r.advanceReclaim c i).heldCurrent c) := by
  by_cases reclaims : r.reclaims c i
  · have pos := Run.reclaims_iff.mp reclaims
    obtain ⟨⟨counts, full⟩, above⟩ := reclaims
    have cut : r.reclaimCut c i = (r.books i).grant - costAt c i (r.ceiling c i) := if_pos ⟨counts, full⟩
    have tracking := (Run.reclaimCounts_iff.mp counts).1
    rw [Run.advanceReclaim_of_reclaims ⟨⟨counts, full⟩, above⟩]
    refine ⟨fun _ => Run.heldCurrent_refreshHeld c _, fun _ short => ?_, fun none => absurd pos (by omega),
      fun none => absurd pos (by omega)⟩
    rw [Run.refreshHeld_queued]
    refine Run.joinIfShort_queued (by rw [Run.modBooks_life]; exact tracking) ?_
    rw [Run.wantCost, Run.modBooks_books_self]
    show costAt c i (r.ceiling c i) < r.wantCost c i
    omega
  · have zero : r.reclaimCut c i = 0 := Nat.eq_zero_of_not_pos fun pos => reclaims (Run.reclaims_iff.mpr pos)
    rw [Run.advanceReclaim_of_not_reclaims reclaims]
    exact ⟨fun pos => absurd pos (by omega), fun pos => absurd pos (by omega), fun _ => rfl,
      fun _ held => Run.heldCurrent_countReclaim held⟩

/-- The boost's advance keeps the queue's places, and the end of a boost brings the held flags up to date. -/
theorem Run.advanceBoost_queue (c : Cfg) (i : Sled) (r : Run) :
    (r.advanceBoost c i).queue.map (fun e => (e.sled, e.cls, e.wanted)) = r.queue.map (fun e => (e.sled, e.cls, e.wanted))
      ∧ ((r.books i).boostEnds → (r.advanceBoost c i).heldCurrent c) := by
  by_cases ends : (r.books i).boostEnds
  · rw [Run.advanceBoost_of_ends ends]
    exact ⟨Run.refreshHeld_places c (r.endBoost i), fun _ => Run.heldCurrent_refreshHeld c _⟩
  · rw [Run.advanceBoost_of_not_ends ends]
    exact ⟨rfl, fun h => absurd h ends⟩

end Sys2Proof.Machine

open Sys2Proof Sys2Proof.Machine

/-- Settles O43: the channel settles, and the books' step and the service leave every channel but its boost step mark. -/
theorem boundarySettlesTheLevel : Obligations.BoundarySettlesTheLevel := by
  unfold Obligations.BoundarySettlesTheLevel
  intro i s up enabled x target dwell level e idle
  let u := s.run.boundaryChan s.cfg i
  obtain ⟨t, done⟩ : ∃ t, s.after (s.run.boundary i s.cfg) = t := ⟨_, rfl⟩
  have acc : Run.Accounts u t.run := done ▸ (Run.Accounts.boundaryBooks ..).trans (.after ..)
  have cfg : t.cfg = s.cfg := done ▸ State.after_cfg ..
  have settled : settledLevel x.active target dwell x.boostStep = level := settledLevel_eq ..
  have own : u.chan i = x.boundary s.cfg.globals.rampFrames s.cfg.levels target ((s.run.life i).state == .absent) :=
    Run.modChan_chan_self ..
  have other (j : Sled) (h : j ≠ i) : u.chan j = s.run.chan j := by
    show (s.run.modChan i _).chan j = _
    rw [Run.modChan_chan, if_neg h]
  rw [exec_boundaryEvent up enabled, done]
  refine ⟨t, rfl, ?_, ?_, ?_, fun j h => ?_, ?_⟩
  · refine (acc.chan_of_clear (by rw [own]; rfl)).trans (own.trans ?_)
    unfold Channel.boundary
    dsimp only
    rw [settled]
    by_cases absent : (s.run.life i).state = .absent
    · simp [idle, absent, e, level, dwell]
    · simp [idle, absent, e, level, dwell]
  · exact settled ▸ settledLevel_keeps_above ..
  · exact fun tight => settled ▸ settledLevel_reaches tight
  · rw [acc.chan j, other j h]
  · have therm (j : Sled) : t.run.therm j = s.run.therm j := (acc.therm j).trans (Run.modChan_therm ..)
    have alert (j : Sled) : t.run.alert j = s.run.alert j := (acc.alert j).trans (Run.modChan_alert ..)
    exact ⟨(congrArg Run.lanes acc.frame).trans rfl, (congrArg Run.probes acc.frame).trans rfl,
      (congrArg Run.zone acc.frame).trans rfl, (congrArg Run.mode acc.frame).trans rfl, (congrArg Run.pool acc.frame).trans rfl,
      (congrArg Run.clock acc.frame).trans rfl, cfg, fun j => ⟨therm j, alert j⟩⟩

/-- Settles O44: substep 1 returns the draining figure, substep 2 advances the boost, substep 3 the reclaim. -/
theorem boundaryAdvancesTheBooks : Obligations.BoundaryAdvancesTheBooks := by
  unfold Obligations.BoundaryAdvancesTheBooks
  intro i s up r₀ b st ended loan ceiling level counts counted full cut
  refine ⟨fun disabled => ?_, fun enabled => ?_⟩
  · exact State.runEvent_not (.inr (by simpa [Run.hasBoundary, st] using disabled))
  let u := r₀.boundaryChan s.cfg i
  let v := u.returnDraining i
  let w := v.advanceBoost s.cfg i
  let r := w.advanceReclaim s.cfg i
  have vbooks : v.books i = { b with draining := 0 } := (Run.returnDraining_books ..).trans (by rw [Run.boundaryChan_books])
  have ends : (v.books i).boostEnds ↔ ended := by rw [vbooks]
  have wbooks := u.advanceBoost_returnDraining_books s.cfg i
  rw [Run.boundaryChan_books] at wbooks
  change w.books i = _ at wbooks
  have wcut : Run.Cuts v w := .advanceBoost ..
  have wframe : w = { r₀ with
      sleds := w.sleds, queue := w.queue, boostList := if ended then r₀.boostList.filter (fun j => j != i) else r₀.boostList
      arbiterDue := w.arbiterDue } := by
    have frame := v.advanceBoost_frame s.cfg i
    rw [show (if (v.books i).boostEnds then _ else _) = _ from ite_of_iff ends] at frame
    exact frame
  have wmode : w.mode = r₀.mode := (congrArg Run.mode wframe).trans rfl
  have wzone : w.zone = r₀.zone := (congrArg Run.zone wframe).trans rfl
  have wlife : w.life i = r₀.life i := by
    have same : w.life i = v.life i := (congrArg SledRun.life (wcut.sled i).same).trans rfl
    refine same.trans ?_
    simp [v, u, Run.returnDraining, Run.boundaryChan]
  have wtherm : w.therm i = r₀.therm i := by
    have same : w.therm i = v.therm i := (congrArg SledRun.therm (wcut.sled i).same).trans rfl
    refine same.trans ?_
    simp [v, u, Run.returnDraining, Run.boundaryChan]
  have walert : w.alert i = r₀.alert i := by
    have same : w.alert i = v.alert i := (congrArg SledRun.alert (wcut.sled i).same).trans rfl
    refine same.trans ?_
    simp [v, u, Run.returnDraining, Run.boundaryChan]
  have wceiling : w.ceiling s.cfg i = ceiling := by
    show ceilingOf s.cfg (w.therm i).state = _
    rw [wtherm]
    rfl
  have wcounted : (w.books i).counted = counted := by rw [wbooks]; rfl
  have counts_iff : w.reclaimCounts s.cfg i = true ↔ counts := by
    rw [Run.reclaimCounts_iff, wlife, wbooks, wceiling, wmode, wzone]
  have full_iff : (w.reclaimCounts s.cfg i = true ∧ s.cfg.globals.reclaimFrames ≤ (w.books i).counted + 1) ↔ full := by
    rw [counts_iff, wcounted]
  have rises_iff : (w.reclaimCounts s.cfg i = true ∧ ¬s.cfg.globals.reclaimFrames ≤ (w.books i).counted + 1) ↔ counts ∧ ¬full := by
    rw [counts_iff, wcounted]
    exact and_congr_right fun h => ⟨fun few f => few f.2, fun part k => part ⟨h, k⟩⟩
  have wcut_eq : w.reclaimCut s.cfg i = cut := by
    unfold Run.reclaimCut
    rw [ite_of_iff full_iff, wceiling, wbooks]
  have rcut : Run.Cuts w r := .advanceReclaim ..
  have other (j : Sled) (h : j ≠ i) : r.sleds.get j = r₀.sleds.get j :=
    (Run.boundaryBooks_sleds_other s.cfg h u).trans (modAt_get_other h ..)
  have triggers : Run.Triggers r₀ r :=
    Run.Triggers.trans (t := u) (.of_sub id fun _ => id) <| (u.returnDraining_triggers i).trans (wcut.triggers.trans rcut.triggers)
  have returned : 0 < b.draining → v.arbiterDue = true := fun some => by
    simp [v, Run.returnDraining, Run.triggerIf, u, some, b]
  have life : r.life i = r₀.life i := ((congrArg SledRun.life (rcut.sled i).same).trans rfl).trans wlife
  have therm : r.therm i = r₀.therm i := ((congrArg SledRun.therm (rcut.sled i).same).trans rfl).trans wtherm
  have alert : r.alert i = r₀.alert i := ((congrArg SledRun.alert (rcut.sled i).same).trans rfl).trans walert
  have due : 0 < b.draining ∨ r₀.unholds r → r.arbiterDue = true := by
    rintro (some | lost)
    · exact rcut.triggers.due (wcut.triggers.due (returned some))
    · exact triggers.unholds lost
  obtain ⟨cutHeld, cutQueued, uncut, uncutHeld⟩ := w.advanceReclaim_queue s.cfg i
  obtain ⟨boostPlaces, boostHeld⟩ := v.advanceBoost_queue s.cfg i
  rw [wcut_eq] at cutHeld cutQueued uncut uncutHeld
  have rframe := w.advanceReclaim_frame s.cfg i
  have boosts : r.boostList = if ended then r₀.boostList.filter (fun j => j != i) else r₀.boostList :=
    (congrArg Run.boostList rframe).trans (congrArg Run.boostList wframe)
  refine ⟨r, exec_boundaryEvent up enabled, ?_, ?_, other, life, therm, alert, ?_, due, ?_, ?_, ?_⟩
  · have books := w.advanceReclaim_books s.cfg i
    rw [ite_of_iff rises_iff, wcut_eq, wcounted, wbooks] at books
    exact books
  · rw [boosts]
    exact rframe.trans (congrArg (fun x : Run => { x with sleds := r.sleds, queue := r.queue, arbiterDue := r.arbiterDue }) wframe)
  · exact boosts
  · intro cause
    rcases Nat.eq_zero_or_pos cut with zero | pos
    · exact uncutHeld zero (boostHeld (ends.mpr (cause.resolve_right (by omega))))
    · exact cutHeld pos
  · intro pos short
    refine cutQueued pos ?_
    have wanted : w.wantCost s.cfg i = r.wantCost s.cfg i := congrArg (costAt s.cfg i) (rcut.wanted i).symm
    rw [wanted, wbooks]
    exact short
  · intro zero
    exact (congrArg (List.map _) (uncut zero)).trans boostPlaces
end

section
/-! SUPPORT. The expiry of the lease (R30). -/

namespace Sys2Proof.Machine

open Sys2Proof

/-- The units of a sled: granted, lent and draining. -/
def Run.units (r : Run) (i : Sled) : Nat := (r.books i).grant + (r.books i).loan + (r.books i).draining

theorem Run.Cuts.units {r t : Run} (h : Run.Cuts r t) (i : Sled) : t.units i = r.units i := (h.sled i).total

/-- The entry to SAFE is a cut but for the mode: the loans drain (R155). -/
theorem Run.toSafe_cuts (c : Cfg) (r : Run) : Run.Cuts { r with mode := .safe, cause := .fault } (r.toSafe c) :=
  (Run.Cuts.endAllBoosts _).trans ((Run.Cuts.refreshHeld ..).trans (Run.Cuts.post ..))

/-- A fault whose subject covers no sled leaves every sled its units and a due service due. -/
theorem Run.raise_uncovered_units {c : Cfg} {k : FaultClass} {x : Subject} {d : Nat} {r : Run} (h : r.covered x = []) :
    (∀ i, (r.raise c k x d).units i = r.units i) ∧ (r.arbiterDue = true → (r.raise c k x d).arbiterDue = true) := by
  obtain ⟨severe, advisory, notices, e | ⟨-, e⟩⟩ := Run.raise_uncovered (c := c) (k := k) (d := d) h
  · rw [e]
    exact ⟨fun i => rfl, id⟩
  · rw [e]
    have cut := { r with severe := severe, advisory := advisory, notices := notices }.toSafe_cuts c
    exact ⟨cut.units, cut.triggers.due⟩

theorem Run.post_pool_notices {c : Cfg} {r : Run} (masked : c.mask.pool = true) (works : r.mode ≠ .config) :
    (r.post c .pool).notices.pool = true := by
  have allowed : noticeAllowed c r.mode .pool = true := by
    unfold noticeAllowed Mode.works
    cases h : r.mode <;> simp_all
  rw [Run.post, if_pos allowed]
  rfl

end Sys2Proof.Machine

open Sys2Proof Sys2Proof.Machine

/-- Settles O46: the expiry is a new pool size, the LAPSED state, a fault on the pool and a notice. -/
theorem leaseExpires : Obligations.LeaseExpires := by
  unfold Obligations.LeaseExpires
  intro s up r₀ size deficit
  have event : exec .leaseExpiry s = s.runEvent s.run.leaseCounts Run.expireLease := rfl
  refine ⟨?_, fun running works => ?_, fun stopped => ?_⟩
  · show s.run.leaseEnds = true ↔ _
    unfold Run.leaseEnds
    rw [Bool.and_eq_true, Run.leaseCounts_iff, decide_eq_true_iff, and_assoc]
  · let u := r₀.resizePool s.cfg size
    let v : Run := { u with pool := { u.pool with leaseState := .lapsed, leaseRemaining := 0 } }
    let r := (v.raise s.cfg .leaseLapsed .pool deficit).post s.cfg .pool
    have cut := r₀.resizePool_cuts s.cfg size
    have raised := Run.raise_uncovered_units (c := s.cfg) (k := .leaseLapsed) (d := deficit) (r := v) (x := .pool) rfl
    have posted : Run.Cuts (v.raise s.cfg .leaseLapsed .pool deficit) r := .post ..
    have upool : u.pool = { r₀.pool with size := size } := (congrArg Run.pool cut.frame).trans rfl
    have pool : r.pool = { r₀.pool with size := size, leaseState := .lapsed, leaseRemaining := 0 } := by
      refine ((Run.Quiet.post ..).pool.trans (Run.Quiet.raise ..).pool).trans ?_
      show ({ u.pool with leaseState := .lapsed, leaseRemaining := 0 } : Pool) = _
      rw [upool]
    have mode : (v.raise s.cfg .leaseLapsed .pool deficit).mode ≠ .config := by
      have vmode : v.mode = r₀.mode := (congrArg Run.mode cut.frame).trans rfl
      rcases (Run.Quiet.raise s.cfg .leaseLapsed .pool deficit v).mode with e | ⟨-, e⟩
      · rw [e, vmode]
        exact works
      · rw [e]
        nofun
    refine ⟨r, u, ?_, pool, rfl, ?_, fun masked => Run.post_pool_notices masked mode, fun i => ?_, fun more => ?_⟩
    · rw [event, State.runEvent_after up (r₀.leaseCounts_iff.mpr ⟨running, works⟩)]
      rfl
    · have lapsed : ({ u.pool with leaseState := .lapsed, leaseRemaining := 0 } : Pool) = r.pool := by
        rw [pool, upool]
      exact congrArg (fun p => ({ u with pool := p }.raise s.cfg .leaseLapsed .pool deficit).post s.cfg .pool) lapsed
    · exact (posted.units i).trans ((raised.1 i).trans (cut.units i))
    · exact posted.triggers.due (raised.2 (Run.resizePool_due more))
  · refine State.runEvent_not (.inr ?_)
    rw [← Bool.not_eq_true, Run.leaseCounts_iff]
    exact fun ⟨running, works⟩ => stopped.elim (fun idle => idle running) works
end

section
/-! SUPPORT. The sums over the sleds (R23), the place at the back of a class (R38, R39), and the requests on the budget of one
sled: SET_WANT, BOOST and RELEASE_SLED (R32, R33, R40, R53, R54, R71). -/

namespace Sys2Proof.Machine

open Sys2Proof

/-! ## Headroom (R23) -/

/-- Headroom where the books of one sled differ: what its units gain, headroom loses (R23). -/
theorem Run.headroom_of_other {r t : Run} {i : Sled} (size : t.pool.size = r.pool.size) (h : ∀ j, j ≠ i → t.books j = r.books j) :
    t.headroom + t.units i = r.headroom + r.units i := by
  have grants := sumSleds_of_other (f := fun j => (t.books j).grant) (g := fun j => (r.books j).grant) fun j hj => by rw [h j hj]
  have loans := sumSleds_of_other (f := fun j => (t.books j).loan) (g := fun j => (r.books j).loan) fun j hj => by rw [h j hj]
  have drains := sumSleds_of_other (f := fun j => (t.books j).draining) (g := fun j => (r.books j).draining) fun j hj => by
    rw [h j hj]
  unfold Run.headroom Run.units Run.sumGrants Run.sumLoans Run.sumDraining
  omega

theorem Run.holds_of_running {c : Cfg} {r : Run} {i : Sled} {k : QClass} (h : (r.books i).boost = .running) (class_ : k ≠ .floor) :
    r.entryHeld c i k = true := by
  cases k with
  | floor => exact absurd rfl class_
  | cls k => simp [Run.entryHeld, Run.holds, h]

/-! ## The back of a class -/

/-- An entry that joins stands behind the entries of its rank and before those of a higher one (R38). -/
theorem insertEntry_split (e : Entry) (q : List Entry) :
    ∃ front back, insertEntry e q = front ++ e :: back ∧ front ++ back = q ∧ (∀ x ∈ front, x.cls.rank ≤ e.cls.rank)
      ∧ ∀ x ∈ back.head?, e.cls.rank < x.cls.rank := by
  refine ⟨_, _, rfl, List.takeWhile_append_dropWhile, fun x hx => by simpa using List.all_eq_true.mp List.all_takeWhile x hx, fun x hx => ?_⟩
  have stops := List.head?_dropWhile_not (fun x : Entry => decide (x.cls.rank ≤ e.cls.rank)) q
  rw [Option.mem_def.mp hx] at stops
  simpa using stops

/-! ## The requests that need a sled in its slot (R166) -/

theorem not_isPresent_iff {x : SledState} : x.isPresent = false ↔ x = .absent ∨ x = .disabled := by
  cases x <;> simp [SledState.isPresent]

theorem withPresence_absent {i : Sled} {body : Body} {s : State} (h : (s.run.life i).state = .absent ∨ (s.run.life i).state = .disabled) :
    withPresence i body s = (s, .refuse .notPresent) := if_pos (by simp [not_isPresent_iff.mpr h])

theorem withPresence_present {i : Sled} {body : Body} {s : State} (h1 : (s.run.life i).state ≠ .absent)
    (h2 : (s.run.life i).state ≠ .disabled) : withPresence i body s = body s := by
  refine if_neg ?_
  have present : (s.run.life i).state.isPresent = true := by
    rw [← Bool.not_eq_false, not_isPresent_iff]
    exact not_or.mpr ⟨h1, h2⟩
  simp [present]

/-! ## A boost begun (R54) -/

/-- A budget that covers the cost at L0 allows L0. -/
theorem loosest_zero {c : Cfg} {i : Sled} {bound : Int} (h : (costAt c i 0 : Int) ≤ bound) : loosest c i 0 bound = some 0 := by
  unfold loosest allLevels
  rw [find?_finRange_eq_some]
  exact ⟨by simp [h], fun j hj => absurd hj (by simp)⟩

theorem Run.target_eq_zero {c : Cfg} {r : Run} {i : Sled} (grant : r.grantLevel c i = 0) (cool : (r.therm i).state = .cool)
    (mode : r.mode = .run) (zone : r.zone.state ≠ .emergency) (tracking : (r.life i).state = .tracking) : r.target c i = 0 := by
  simp [Run.target, grant, Run.ceiling, ceilingOf, cool, mode, zone, tracking, tighter]

theorem boostBarred_iff {i : Sled} {s : State} :
    boostBarred i s = true ↔
      s.run.zone.state = .emergency ∨ (s.run.life i).state ≠ .tracking ∨ (s.run.therm i).state ≠ .cool
        ∨ costAt s.cfg i 0 ≤ (s.run.books i).grant ∨ s.run.headroom < (costAt s.cfg i 0 : Int) - (s.run.books i).grant := by
  unfold boostBarred
  rw [Bool.or_eq_true, Bool.or_eq_true, Bool.or_eq_true, Bool.or_eq_true, decide_eq_true_iff, decide_eq_true_iff, or_assoc, or_assoc,
    or_assoc]
  simp only [beq_iff_eq, bne_iff_ne]

theorem boostBusy_iff {i : Sled} {s : State} : boostBusy i s = true ↔ (s.run.books i).boost ≠ .none := bne_iff_ne

/-- A boost that begins: one sled's loan, its step mark, its place in the list, and the held flags (R54). -/
theorem Run.startBoost_spec (c : Cfg) (i : Sled) (frames : Nat) (r : Run) :
    (r.startBoost c i frames = { r with
        sleds := (r.startBoost c i frames).sleds, queue := (r.startBoost c i frames).queue, boostList := r.boostList ++ [i]
        arbiterDue := (r.startBoost c i frames).arbiterDue })
      ∧ (∀ j, j ≠ i → (r.startBoost c i frames).sleds.get j = r.sleds.get j)
      ∧ (r.startBoost c i frames).sleds.get i =
          { r.sleds.get i with
            books := { r.books i with loan := costAt c i 0 - (r.books i).grant, boost := .running, boostFrames := frames }
            chan := { r.chan i with boostStep := true } }
      ∧ (r.startBoost c i frames).queue.map (fun e => (e.sled, e.cls, e.wanted)) = r.queue.map (fun e => (e.sled, e.cls, e.wanted))
      ∧ (r.startBoost c i frames).heldCurrent c := by
  have sleds : (r.startBoost c i frames).sleds =
      modAt i (fun x => { x with chan := { x.chan with boostStep := true } })
        (modAt i (fun x => { x with books :=
          { x.books with loan := costAt c i 0 - x.books.grant, boost := .running, boostFrames := frames } }) r.sleds) := rfl
  refine ⟨rfl, fun j h => ?_, ?_, Run.refreshHeld_places c _, Run.heldCurrent_refreshHeld c _⟩
  · rw [sleds, modAt_get_other h, modAt_get_other h]
  · rw [sleds, modAt_get_self, modAt_get_self]
    rfl

end Sys2Proof.Machine

open Sys2Proof Sys2Proof.Machine

/-- Settles O32: the checks in their order, and an accepted boost lends what the grant lacks of the cost at L0. -/
theorem boostIsCheckedAndStarted : Obligations.BoostIsCheckedAndStarted := by
  unfold Obligations.BoostIsCheckedAndStarted
  intro tag p s length sled frames run ready i r₀ b top st f
  have passes : firstFailing [atMost p 0 23, byteIn p 1 1 255] = none := by
    have fits : byteAt p 1 ≤ 255 := byteAt_le ..
    simp [firstFailing, atMost, byteIn, sled, frames, fits]
  have replied {r : Run} {a : Answer} (hb : ownRule (.boost tag p) s.popFrame = ({ s.popFrame with cfg := s.cfg, run := r }, a)) :
      exec (.boost tag p) s = .next (s.replied f (put8 a.status.code ++ a.content) s.cfg r) :=
    exec_replied (c := .boost tag p) (payloadFits_of_length length (by decide)) rfl ready (by simp [lengthAllowed, length])
      (by simp [acceptedIn, run]) passes rfl hb
  have barred_iff : boostBarred i s.popFrame = true ↔
      r₀.zone.state = .emergency ∨ st ≠ .tracking ∨ (r₀.therm i).state ≠ .cool ∨ top ≤ b.grant ∨ r₀.headroom < top - b.grant :=
    boostBarred_iff
  have busy_iff : boostBusy i s.popFrame = true ↔ b.boost ≠ .none := boostBusy_iff
  have present (body : Body) (h1 : st ≠ .absent) (h2 : st ≠ .disabled) : withPresence i body s.popFrame = body s.popFrame :=
    withPresence_present h1 h2
  refine ⟨fun absent => ?_, fun h1 h2 busy => ?_, fun h1 h2 free barred => ?_, fun free zone tracking cool below room => ?_⟩
  · exact replied (r := s.run) (a := .refuse .notPresent) (withPresence_absent absent)
  · exact replied (r := s.run) (a := .refuse .busy) ((present _ h1 h2).trans (if_pos (busy_iff.mpr busy)))
  · have idle : ¬boostBusy i s.popFrame = true := fun h => busy_iff.mp h free
    exact replied (r := s.run) (a := .refuse .notAllowed)
      ((present _ h1 h2).trans ((if_neg idle).trans (if_pos (barred_iff.mpr barred))))
  · have idle : ¬boostBusy i s.popFrame = true := fun h => busy_iff.mp h free
    have allowed : ¬boostBarred i s.popFrame = true := fun h => by
      rcases barred_iff.mp h with h | h | h | h | h
      · exact zone h
      · exact h tracking
      · exact h cool
      · omega
      · omega
    have started : exec (.boost tag p) s = .next (s.replied f [0] s.cfg (r₀.startBoost s.cfg i (byteAt p 1))) :=
      replied (a := .ok [])
        ((present _ (by rw [tracking]; nofun) (by rw [tracking]; nofun)).trans ((if_neg idle).trans (if_neg allowed)))
    obtain ⟨frame, other, own, places, held⟩ := r₀.startBoost_spec s.cfg i (byteAt p 1)
    generalize r₀.startBoost s.cfg i (byteAt p 1) = r at *
    have books : r.books i = { b with loan := top - b.grant, boost := .running, boostFrames := byteAt p 1 } :=
      (congrArg SledRun.books own).trans rfl
    have life : r.life i = r₀.life i := (congrArg SledRun.life own).trans rfl
    have therm : r.therm i = r₀.therm i := (congrArg SledRun.therm own).trans rfl
    have grantLevel : r.grantLevel s.cfg i = 0 := by
      unfold Run.grantLevel
      rw [life, books, if_neg (by rw [show (r₀.life i).state = .tracking from tracking]; nofun), loosest_zero]
      · rfl
      · show (top : Int) ≤ (b.grant + (top - b.grant) : Nat)
        omega
    refine ⟨r, started, frame, other, own, grantLevel, Run.target_eq_zero grantLevel ?_ ?_ ?_ ?_, fun noLoan => ?_, places,
      fun e he same notFloor => ?_⟩
    · rw [therm]
      exact cool
    · rw [frame]
      exact run
    · rw [frame]
      exact zone
    · rw [life]
      exact tracking
    · have moved := Run.headroom_of_other (r := r₀) (t := r) (i := i) (by rw [frame]) fun j hj => congrArg SledRun.books (other j hj)
      unfold Run.units at moved
      rw [books] at moved
      change b.loan = 0 at noLoan
      change (r.headroom : Int) + (b.grant + (top - b.grant) + b.draining : Nat) = r₀.headroom + (b.grant + b.loan + b.draining : Nat)
        at moved
      omega
    · rw [held e he]
      exact Run.holds_of_running (by rw [same, books]) notFloor
end

section
/-! SUPPORT. RELEASE_SLED and SET_WANT (R32, R33, R39 to R42, R71). -/

namespace Sys2Proof.Machine

open Sys2Proof

/-! ## Joins (R39) -/

/-- The join of a sled that is not queued: nothing where its grant covers its want, else a place at the back of its class. -/
theorem Run.joinIfShort_of_covered {c : Cfg} {i : Sled} {r : Run} (h : r.wantCost c i ≤ (r.books i).grant) :
    r.joinIfShort c i = r := if_pos (by simp [h])

theorem Run.joinIfShort_of_short {c : Cfg} {i : Sled} {r : Run} (new : r.queued i = false)
    (tracking : (r.life i).state = .tracking) (short : (r.books i).grant < r.wantCost c i) :
    r.joinIfShort c i = r.join c i (.cls (r.books i).cls) := if_neg (by simp [new, tracking, short])

/-- A join: the entry stands behind its class with the want and the held flag of the moment. -/
theorem Run.join_queue (c : Cfg) (i : Sled) (k : QClass) (r : Run) :
    ∃ front back, (r.join c i k).queue = front ++ { sled := i, cls := k, wanted := (r.books i).wanted, held := r.entryHeld c i k } :: back
      ∧ front ++ back = r.queue ∧ (∀ x ∈ front, x.cls.rank ≤ k.rank) ∧ ∀ x ∈ back.head?, k.rank < x.cls.rank :=
  insertEntry_split ..

theorem Run.join_arbiterDue (c : Cfg) (i : Sled) (k : QClass) (r : Run) (h : r.entryHeld c i k = false) :
    (r.join c i k).arbiterDue = true := by
  simp [Run.join, h]

theorem Run.post_sled_notices (c : Cfg) (i : Sled) {r : Run} (works : r.mode ≠ .config) :
    (r.post c (.sled i)).notices = if c.mask.sled then r.notices.insert (.sled i) else r.notices := by
  have allowed : noticeAllowed c r.mode (.sled i) = c.mask.sled := by simp [noticeAllowed, r.mode.works_iff.mpr works]
  rw [Run.post, allowed]
  split
  · rfl
  · rfl

/-- The state that the release of an ISOLATED sled gives it (R71). -/
def Run.freed (i : Sled) (r : Run) : Run :=
  (r.modBooks i fun b => { b with recount := true }).modLife i fun l => { l with state := .tracking, admission := none }

theorem Run.freed_get (i : Sled) (r : Run) :
    (r.freed i).sleds.get i =
      { r.sleds.get i with
        life := { r.life i with state := .tracking, admission := none }, books := { r.books i with recount := true } } := by
  refine (modAt_get_self ..).trans ?_
  exact congrArg (fun x : SledRun => { x with life := { x.life with state := .tracking, admission := none } }) (modAt_get_self ..)

theorem Run.freed_get_other {i j : Sled} (h : j ≠ i) (r : Run) : (r.freed i).sleds.get j = r.sleds.get j :=
  (modAt_get_other h ..).trans (modAt_get_other h ..)

theorem Run.release_of_isolated {c : Cfg} {i : Sled} {r : Run} (h : (r.life i).state = .isolated) :
    r.release c i = ((r.freed i).post c (.sled i)).joinIfShort c i := by
  rw [Run.release, h]
  rfl

/-- The release of an ISOLATED sled that is not queued (R71). -/
theorem Run.release_spec {c : Cfg} {i : Sled} {r₀ : Run} (state : (r₀.life i).state = .isolated) (works : r₀.mode ≠ .config)
    (new : r₀.queued i = false) :
    let r := r₀.release c i
    let short := (r₀.books i).grant < costAt c i (r₀.books i).wanted
    r = { r₀ with sleds := r.sleds, queue := r.queue, notices := r.notices, arbiterDue := r.arbiterDue }
      ∧ (∀ j, j ≠ i → r.sleds.get j = r₀.sleds.get j)
      ∧ r.sleds.get i =
          { r₀.sleds.get i with
            life := { r₀.life i with state := .tracking, admission := none }, books := { r₀.books i with recount := true } }
      ∧ r.notices = (if c.mask.sled then r₀.notices.insert (.sled i) else r₀.notices)
      ∧ (¬short → r.queue = r₀.queue)
      ∧ (short →
          ∃ front e back,
            r.queue = front ++ e :: back ∧ front ++ back = r₀.queue ∧ (e.sled, e.cls) = (i, QClass.cls (r₀.books i).cls)
              ∧ e.wanted = (r₀.books i).wanted ∧ e.held = r₀.holds c i
              ∧ (∀ x ∈ front, x.cls.rank ≤ (r₀.books i).cls.val + 1)
              ∧ (∀ x ∈ back.head?, (r₀.books i).cls.val + 1 < x.cls.rank)
              ∧ (e.held = false → r.arbiterDue = true)) := by
  intro r short
  obtain ⟨n, posted⟩ := (r₀.freed i).post_eq c (.sled i)
  have whole : r = ((r₀.freed i).post c (.sled i)).joinIfShort c i := Run.release_of_isolated state
  have notices : ((r₀.freed i).post c (.sled i)).notices = if c.mask.sled then r₀.notices.insert (.sled i) else r₀.notices :=
    Run.post_sled_notices c i (r := r₀.freed i) works
  rw [posted] at whole notices
  obtain ⟨v, hv⟩ : ∃ v : Run, { r₀.freed i with notices := n } = v := ⟨_, rfl⟩
  rw [hv] at whole notices
  have vbooks : v.books i = { r₀.books i with recount := true } := hv ▸ (congrArg SledRun.books (r₀.freed_get i)).trans rfl
  have vlife : v.life i = { r₀.life i with state := .tracking, admission := none } :=
    hv ▸ (congrArg SledRun.life (r₀.freed_get i)).trans rfl
  have vsleds : v.sleds = (r₀.freed i).sleds := hv ▸ rfl
  have vwant : v.wantCost c i = costAt c i (r₀.books i).wanted := by rw [Run.wantCost, vbooks]
  have frame : r = { v with queue := r.queue, arbiterDue := r.arbiterDue } := by rw [whole, ← v.joinIfShort_frame]
  have sleds : r.sleds = (r₀.freed i).sleds := (congrArg Run.sleds frame).trans vsleds
  refine ⟨?_, fun j h => ?_, ?_, ?_, fun covered => ?_, fun lacks => ?_⟩
  · rw [frame, ← hv]
    rfl
  · rw [sleds, Run.freed_get_other h]
  · rw [sleds, Run.freed_get]
  · exact (congrArg Run.notices frame).trans notices
  · rw [whole, Run.joinIfShort_of_covered, ← hv]
    · rfl
    · rw [vwant, vbooks]
      exact Nat.not_lt.mp covered
  · have join : r = v.join c i (.cls (r₀.books i).cls) := by
      rw [whole, Run.joinIfShort_of_short, vbooks]
      · rw [← hv]
        exact new
      · rw [vlife]
      · rw [vwant, vbooks]
        exact lacks
    have holds : v.entryHeld c i (.cls (r₀.books i).cls) = r₀.holds c i := by
      have vget (j : Sled) : (v.sleds.get j).therm = (r₀.sleds.get j).therm
          ∧ (v.sleds.get j).books.grant = (r₀.sleds.get j).books.grant ∧ (v.sleds.get j).books.boost = (r₀.sleds.get j).books.boost := by
        rw [vsleds]
        by_cases h : j = i
        · rw [h, Run.freed_get]
          exact ⟨rfl, rfl, rfl⟩
        · rw [Run.freed_get_other h]
          exact ⟨rfl, rfl, rfl⟩
      have same : v.entryHeld c = r₀.entryHeld c :=
        Run.entryHeld_congr (fun j => (vget j).1) (fun j => (vget j).2) (hv ▸ rfl) (hv ▸ rfl)
      exact congrFun (congrFun same i) _
    obtain ⟨front, back, queue, parts, below, above⟩ := v.join_queue c i (.cls (r₀.books i).cls)
    refine ⟨front, _, back, (congrArg Run.queue join).trans queue, parts.trans (hv ▸ rfl), rfl, ?_, holds, below, above, fun free => ?_⟩
    · show (v.books i).wanted = _
      rw [vbooks]
    · rw [join]
      exact v.join_arbiterDue c i _ free

theorem releaseBarred_iff {i : Sled} {s : State} :
    releaseBarred i s = true ↔
      s.run.zone.state = .emergency
        ∨ (s.run.life i).state ≠ .isolated ∧ ((s.run.life i).state = .admitting → (s.run.life i).containPending = false) := by
  unfold releaseBarred
  cases (s.run.life i).state <;> simp

end Sys2Proof.Machine

open Sys2Proof Sys2Proof.Machine

/-- Settles O33: the checks in their order; an ISOLATED sled is freed, noticed and joins behind its class. -/
theorem sledIsReleased : Obligations.SledIsReleased := by
  unfold Obligations.SledIsReleased
  intro tag p s length sled run ready i r₀ l f place short
  have replied {r : Run} {a : Answer} (hb : ownRule (.releaseSled tag p) s.popFrame = ({ s.popFrame with cfg := s.cfg, run := r }, a)) :
      exec (.releaseSled tag p) s = .next (s.replied f (put8 a.status.code ++ a.content) s.cfg r) :=
    exec_replied (c := .releaseSled tag p) (payloadFits_of_length length (by decide)) rfl ready (by simp [lengthAllowed, length])
      (by simp [acceptedIn, run]) (passes_atMost sled) rfl hb
  have barred_iff : releaseBarred i s.popFrame = true ↔
      r₀.zone.state = .emergency ∨ l.state ≠ .isolated ∧ (l.state = .admitting → l.containPending = false) := releaseBarred_iff
  have present (body : Body) (h1 : l.state ≠ .absent) (h2 : l.state ≠ .disabled) :
      withPresence i body s.popFrame = body s.popFrame := withPresence_present h1 h2
  have carried (h : l.state = .admitting ∧ l.containPending = true ∨ l.state = .isolated) (zone : r₀.zone.state ≠ .emergency) :
      exec (.releaseSled tag p) s = .next (s.replied f [0] s.cfg (r₀.release s.cfg i)) := by
    have allowed : ¬releaseBarred i s.popFrame = true := by
      rw [barred_iff]
      rcases h with ⟨state, pending⟩ | state
      · simp [zone, state, pending]
      · simp [zone, state]
    refine replied (a := .ok []) ((present _ ?_ ?_).trans (if_neg allowed))
    · rcases h with ⟨state, -⟩ | state <;> simp [state]
    · rcases h with ⟨state, -⟩ | state <;> simp [state]
  refine ⟨fun absent => ?_, fun h1 h2 barred => ?_, fun state pending zone => ?_, fun state zone new => ?_⟩
  · exact replied (r := s.run) (a := .refuse .notPresent) (withPresence_absent absent)
  · refine replied (r := s.run) (a := .refuse .notAllowed) ((present _ h1 h2).trans (if_pos (barred_iff.mpr ?_)))
    rcases barred with emergency | tracking | ⟨admitting, free⟩
    · exact .inl emergency
    · exact .inr (by simp [tracking])
    · exact .inr (by simp [admitting, free])
  · have freed : r₀.release s.cfg i = r₀.modLife i fun l => { l with containPending := false } := by
      rw [Run.release, show (r₀.life i).state = .admitting from state]
    rw [carried (.inl ⟨state, pending⟩) zone, freed]
  · obtain ⟨frame, other, own, notices, covered, joins⟩ := Run.release_spec (c := s.cfg) state (by rw [run]; nofun) new
    exact ⟨r₀.release s.cfg i, carried (.inr state) zone, frame, other, own, notices, covered, joins⟩
end

section
/-! SUPPORT. SET_WANT (R32, R33, R39 to R42). -/

namespace Sys2Proof.Machine

open Sys2Proof

/-! ## The new want in the books (R32, R33) -/

theorem Run.storeWant_books (c : Cfg) (i : Sled) (w : Level) (k : Fin 4) (r : Run) :
    (r.storeWant c i w k).books i =
      { r.books i with
        wanted := w
        cls := k
        grant := (r.books i).grant - ((r.books i).grant - costAt c i w)
        loan := (r.books i).loan + (if (r.books i).boost = .running then (r.books i).grant - costAt c i w else 0)
        draining := (r.books i).draining + (if (r.books i).boost = .running then 0 else (r.books i).grant - costAt c i w) } := by
  rw [Run.storeWant, Run.modBooks_books_self]
  by_cases running : (r.books i).boost = .running
  · simp [running]
  · simp [running]

theorem Run.modBooks_get (r : Run) (i : Sled) (f : Books → Books) :
    (r.modBooks i f).sleds.get i = { r.sleds.get i with books := f (r.books i) } := modAt_get_self ..

theorem Run.storeWant_get (c : Cfg) (i : Sled) (w : Level) (k : Fin 4) (r : Run) :
    (r.storeWant c i w k).sleds.get i = { r.sleds.get i with books := (r.storeWant c i w k).books i } := by
  rw [Run.storeWant, Run.modBooks_books_self]
  exact Run.modBooks_get ..

theorem Run.storeWant_get_other {c : Cfg} {i j : Sled} (h : j ≠ i) (w : Level) (k : Fin 4) (r : Run) :
    (r.storeWant c i w k).sleds.get j = r.sleds.get j := modAt_get_other h ..

/-- The grant covers the want after the store exactly where it did before. -/
theorem Run.storeWant_covered {c : Cfg} {i : Sled} {w : Level} {k : Fin 4} {r : Run} :
    (r.storeWant c i w k).wantCost c i ≤ ((r.storeWant c i w k).books i).grant ↔ costAt c i w ≤ (r.books i).grant := by
  rw [Run.wantCost, Run.storeWant_books]
  dsimp only
  omega

/-! ## The new want in the queue (R40) -/

/-- A sled with its class, as the queue orders them. -/
def Entry.seat (e : Entry) : Sled × QClass := (e.sled, e.cls)

theorem Run.refreshHeld_seats (c : Cfg) (r : Run) : (r.refreshHeld c).queue.map Entry.seat = r.queue.map Entry.seat := by
  rw [Run.refreshHeld_queue, List.map_map]
  rfl

theorem Run.updateWant_seats (i : Sled) (w : Level) (r : Run) : (r.updateWant i w).queue.map Entry.seat = r.queue.map Entry.seat := by
  refine (List.map_map ..).trans (List.map_congr_left fun e _ => ?_)
  show Entry.seat (if e.sled == i then { e with wanted := w } else e) = _
  split <;> rfl

theorem Run.updateWant_wanted {i : Sled} {w : Level} {r : Run} {e : Entry} (he : e ∈ (r.updateWant i w).queue) (h : e.sled = i) :
    e.wanted = w := by
  obtain ⟨x, -, rfl⟩ := List.mem_map.mp he
  split
  · rfl
  · next other =>
    rw [if_neg other] at h
    exact absurd (beq_iff_eq.mpr h) other

/-- A new want on an entry that is not held is a trigger (R43). -/
theorem Run.updateWant_arbiterDue {i : Sled} {w : Level} {r : Run} {e : Entry} (he : e ∈ (r.updateWant i w).queue) (h : e.sled = i)
    (free : e.held = false) (new : ∀ x ∈ r.queue, x.sled = i → x.wanted ≠ w) : (r.updateWant i w).arbiterDue = true := by
  obtain ⟨x, hx, rfl⟩ := List.mem_map.mp he
  have same : x.sled = i := by
    split at h
    · exact h
    · exact h
  rw [if_pos (beq_iff_eq.mpr same)] at free
  have found : (r.queue.any fun e => e.sled == i && !e.held && e.wanted != w) = true :=
    List.any_eq_true.mpr ⟨x, hx, by simpa [same, show x.held = false from free] using new x hx same⟩
  simp [Run.updateWant, found]

/-- The queue of a sled whose entry keeps its place: the want changes, and where its entry is not held, a new want brings a service. -/
theorem Run.updateWant_spec (c : Cfg) (i : Sled) (w : Level) (r : Run) :
    ((r.updateWant i w).refreshHeld c).queue.map Entry.seat = r.queue.map Entry.seat
      ∧ ∀ e ∈ ((r.updateWant i w).refreshHeld c).queue, e.sled = i →
          e.wanted = w
            ∧ (e.held = false → (∀ x ∈ r.queue, x.sled = i → x.wanted ≠ w) →
                ((r.updateWant i w).refreshHeld c).arbiterDue = true) := by
  refine ⟨(Run.refreshHeld_seats ..).trans (Run.updateWant_seats ..), fun e he same => ⟨?_, fun free new => ?_⟩⟩
  · obtain ⟨x, hx, rfl⟩ := List.mem_map.mp he
    exact Run.updateWant_wanted (e := x) hx same
  · rcases (Run.Triggers.refreshHeld c (r.updateWant i w)).unheld e he free with due | ⟨x, hx, same', free'⟩
    · exact due
    · exact (Run.Triggers.refreshHeld ..).due (Run.updateWant_arbiterDue hx (same'.trans same) free' new)

/-- The queue of a sled whose entry goes to the back of a class. -/
theorem Run.requeue_spec (c : Cfg) (i : Sled) (k : Fin 4) (r : Run) :
    ∃ front back,
      ((r.requeue c i k).refreshHeld c).queue.map Entry.seat = front ++ (i, .cls k) :: back
        ∧ front ++ back = (r.queue.filter fun e => e.sled != i).map Entry.seat
        ∧ (∀ x ∈ front, x.2.rank ≤ k.val + 1) ∧ (∀ x ∈ back.head?, k.val + 1 < x.2.rank)
        ∧ (∀ e ∈ ((r.requeue c i k).refreshHeld c).queue, e.sled = i →
            e.wanted = (r.books i).wanted ∧ (e.held = false → ((r.requeue c i k).refreshHeld c).arbiterDue = true)) := by
  obtain ⟨front, back, queue, parts, below, above⟩ := (r.leaveQueue i).join_queue c i (.cls k)
  change (r.requeue c i k).queue = _ at queue
  change front ++ back = r.queue.filter (fun e => e.sled != i) at parts
  have own {x : Entry} (hx : x ∈ (r.requeue c i k).queue) (same : x.sled = i) :
      x = { sled := i, cls := .cls k, wanted := (r.books i).wanted, held := (r.leaveQueue i).entryHeld c i (.cls k) } := by
    rcases mem_insertEntry.mp hx with new | old
    · exact new
    · exact absurd same (by simpa using (List.mem_filter.mp old).2)
  refine ⟨front.map Entry.seat, back.map Entry.seat, ?_, ?_, ?_, ?_, fun e he same => ⟨?_, fun free => ?_⟩⟩
  · rw [Run.refreshHeld_seats, queue, List.map_append, List.map_cons]
    rfl
  · rw [← List.map_append, parts]
  · exact List.forall_mem_map.mpr below
  · intro x hx
    rw [List.head?_map] at hx
    obtain ⟨e, he, rfl⟩ := Option.map_eq_some_iff.mp hx
    exact above e he
  · obtain ⟨x, hx, rfl⟩ := List.mem_map.mp he
    rw [own hx same]
  · rcases (Run.Triggers.refreshHeld c (r.requeue c i k)).unheld e he free with due | ⟨x, hx, same', free'⟩
    · exact due
    · refine (Run.Triggers.refreshHeld ..).due (Run.join_arbiterDue c i _ _ ?_)
      rw [own hx (same'.trans same)] at free'
      exact free'

theorem Run.queueWant_of_covered {c : Cfg} {i : Sled} {w : Level} {k : Fin 4} {r : Run} (tracking : (r.life i).state = .tracking)
    (covered : r.wantCost c i ≤ (r.books i).grant) : r.queueWant c i w k = r.leaveQueue i := by
  rw [Run.queueWant, tracking]
  exact if_pos covered

theorem Run.queueWant_of_inClass {c : Cfg} {i : Sled} {w : Level} {k : Fin 4} {r : Run} (tracking : (r.life i).state = .tracking)
    (lacks : ¬r.wantCost c i ≤ (r.books i).grant) (inClass : (r.queue.any fun e => e.sled == i && e.cls == .cls k) = true) :
    r.queueWant c i w k = r.updateWant i w := by
  rw [Run.queueWant, tracking]
  exact (if_neg lacks).trans (if_pos inClass)

theorem Run.queueWant_of_moved {c : Cfg} {i : Sled} {w : Level} {k : Fin 4} {r : Run} (tracking : (r.life i).state = .tracking)
    (lacks : ¬r.wantCost c i ≤ (r.books i).grant) (moved : (r.queue.any fun e => e.sled == i && e.cls == .cls k) = false) :
    r.queueWant c i w k = r.requeue c i k := by
  rw [Run.queueWant, tracking]
  exact (if_neg lacks).trans (if_neg (by simp [moved]))

theorem Run.queueWant_of_admitting {c : Cfg} {i : Sled} {w : Level} {k : Fin 4} {r : Run}
    (admitting : (r.life i).state = .admitting) : r.queueWant c i w k = r.updateWant i w := by
  rw [Run.queueWant, admitting]

theorem Run.queueWant_frame (c : Cfg) (i : Sled) (w : Level) (k : Fin 4) (r : Run) :
    r.queueWant c i w k = { r with queue := (r.queueWant c i w k).queue, arbiterDue := (r.queueWant c i w k).arbiterDue } := by
  unfold Run.queueWant
  split
  · split
    · rfl
    · split
      · rfl
      · rfl
  · rfl
  · rfl
  · rfl
  · rfl
  · rfl

end Sys2Proof.Machine

open Sys2Proof Sys2Proof.Machine

/-- Settles O31: the want is stored in the books, the queue follows it by the sled's state, and the held flags by R42. -/
theorem wantIsSet : Obligations.WantIsSet := by
  unfold Obligations.WantIsSet
  intro tag p s length sled level cls works ready i w k r₀ b st cut place covered inClass newWant
  have passes : firstFailing [atMost p 0 23, atMost p 1 15, atMost p 2 3] = none := by simp [firstFailing, atMost, sled, level, cls]
  have accepted : acceptedIn (.setWant tag p) s.run.mode = true := by
    unfold acceptedIn
    cases h : s.run.mode <;> simp_all
  have replied {r : Run} {a : Answer} (hb : ownRule (.setWant tag p) s.popFrame = ({ s.popFrame with cfg := s.cfg, run := r }, a)) :
      exec (.setWant tag p) s = .next (s.replied (frame tag 0x22 p) (put8 a.status.code ++ a.content) s.cfg r) :=
    exec_replied (c := .setWant tag p) (payloadFits_of_length length (by decide)) rfl ready (by simp [lengthAllowed, length])
      accepted passes rfl hb
  refine ⟨fun absent => ?_, fun h1 h2 => ?_⟩
  · exact replied (r := s.run) (a := .refuse .notPresent) (withPresence_absent absent)
  · let u := r₀.storeWant s.cfg i w k
    let v := u.queueWant s.cfg i w k
    let r := v.refreshHeld s.cfg
    have present : withPresence i (carryOutRun fun c r => r.setWant c i w k) s.popFrame
        = carryOutRun (fun c r => r.setWant c i w k) s.popFrame := withPresence_present h1 h2
    have vframe : v = { u with queue := v.queue, arbiterDue := v.arbiterDue } := u.queueWant_frame s.cfg i w k
    have sleds : r.sleds = u.sleds := (congrArg Run.sleds vframe).trans rfl
    have books : r.books i = u.books i := congrArg (fun x => (x.get i).books) sleds
    have ulife : (u.life i).state = st := by simp [u, Run.storeWant, st]
    have lacks_iff (h : ¬covered) : ¬u.wantCost s.cfg i ≤ (u.books i).grant := fun k => h (Run.storeWant_covered.mp k)
    refine ⟨r, replied (a := .ok []) present, ?_, fun j => ⟨?_, fun other => ?_⟩, ?_, Run.heldCurrent_refreshHeld s.cfg v,
      fun tracking full => ?_, fun tracking lacks same => ?_, fun tracking lacks moved => ?_, fun admitting => ?_⟩
    · have frame : r = { v with queue := r.queue, arbiterDue := r.arbiterDue } := rfl
      rw [frame, vframe]
      rfl
    · show r.sleds.get j = { r₀.sleds.get j with books := (r.sleds.get j).books }
      rw [sleds]
      by_cases own : j = i
      · rw [own]
        exact Run.storeWant_get ..
      · rw [Run.storeWant_get_other own]
    · show (r.sleds.get j).books = _
      rw [sleds, Run.storeWant_get_other other]
      rfl
    · rw [books]
      exact Run.storeWant_books ..
    · have left : v = u.leaveQueue i := Run.queueWant_of_covered (ulife.trans tracking) (Run.storeWant_covered.mpr full)
      show (v.refreshHeld s.cfg).queue.map Entry.seat = _
      rw [Run.refreshHeld_seats, left]
      rfl
    · have kept : v = u.updateWant i w := Run.queueWant_of_inClass (ulife.trans tracking) (lacks_iff lacks) same
      have spec := u.updateWant_spec s.cfg i w
      rw [← kept] at spec
      exact spec
    · have gone : v = u.requeue s.cfg i k := Run.queueWant_of_moved (ulife.trans tracking) (lacks_iff lacks) moved
      have spec := u.requeue_spec s.cfg i k
      rw [← gone, show (u.books i).wanted = w by rw [show u.books i = _ from Run.storeWant_books ..]] at spec
      exact spec
    · have kept : v = u.updateWant i w := Run.queueWant_of_admitting (ulife.trans admitting)
      have spec := u.updateWant_spec s.cfg i w
      rw [← kept] at spec
      exact spec
end

section
/-! SUPPORT. SET_MODE CONFIG (R36, R57, R117, R157). -/

namespace Sys2Proof.Machine

open Sys2Proof

/-! ## The lanes are stopped (R116, R117) -/

/-- A lane whose poll is aborted and whose queue is empty. -/
def Lane.stopped (x : Lane) : Lane :=
  match x.poll with
  | .poll q => if q.phase = .settle ∨ q.phase = .wait then { x with state := .idle, poll := .absent } else { x with poll := .aborting }
  | .absent | .aborting => x

/-- What the abort of polls leaves alone: everything but the lanes and which probes wait or are polled; a probe can become idle. -/
structure Run.Stops (r t : Run) : Prop where
  frame : t = { r with lanes := t.lanes, probes := t.probes }
  probe : ∀ p, t.probe p = { r.probe p with run := (t.probe p).run }
  run : ∀ p, (t.probe p).run = (r.probe p).run ∨ (t.probe p).run = .idle

theorem Run.Stops.refl (r : Run) : Run.Stops r r where
  frame := rfl
  probe _ := rfl
  run _ := .inl rfl

theorem Run.Stops.trans {r t u : Run} (h : Run.Stops r t) (k : Run.Stops t u) : Run.Stops r u where
  frame := by
    rw [k.frame, h.frame]
  probe p := by
    rw [k.probe, h.probe]
  run p := by
    rcases k.run p with e | e
    · rw [e]
      exact h.run p
    · exact .inr e

/-- A probe that is idle stays so. -/
theorem Run.Stops.idle {r t : Run} (h : Run.Stops r t) {p : Probe} (idle : (r.probe p).run = .idle) : (t.probe p).run = .idle :=
  (h.run p).elim (fun e => e.trans idle) id

theorem Run.Stops.of_probe {r : Run} {p : Probe} {n : LaneNo} {f : Lane → Lane} :
    Run.Stops r ((r.modProbe p fun x => { x with run := .idle }).modLane n f) where
  frame := rfl
  probe q := by
    rw [Run.modLane_probe, Run.modProbe_probe]
    split
    · next e => rw [e]
    · rfl
  run q := by
    rw [Run.modLane_probe, Run.modProbe_probe]
    split
    · exact .inr rfl
    · exact .inl rfl

theorem Run.serveLane_of_empty {c : Cfg} {n : LaneNo} {r : Run} (h : (r.lane n).queue = []) : r.serveLane c n = r := by
  unfold Run.serveLane
  rw [h]
  cases (r.lane n).state <;> rfl

/-- The abort of the poll on a lane whose queue is empty (R116). -/
theorem Run.abortPoll_spec {c : Cfg} {n : LaneNo} {r : Run} (empty : (r.lane n).queue = []) :
    (r.abortPoll c n).lanes = modAt n Lane.stopped r.lanes ∧ Run.Stops r (r.abortPoll c n)
      ∧ ∀ q, (r.lane n).poll = .poll q → ((r.abortPoll c n).probe q.probe).run = .idle := by
  have still (h : ∀ q, (r.lane n).poll ≠ .poll q) (e : r.abortPoll c n = r) (s : (r.lane n).stopped = r.lane n) :
      (r.abortPoll c n).lanes = modAt n Lane.stopped r.lanes ∧ Run.Stops r (r.abortPoll c n)
        ∧ ∀ q, (r.lane n).poll = .poll q → ((r.abortPoll c n).probe q.probe).run = .idle := by
    rw [e]
    exact ⟨(modAt_of_fixed s).symm, .refl r, fun q hq => absurd hq (h q)⟩
  cases poll : (r.lane n).poll with
  | absent => exact poll ▸ still (by simp [poll]) (by rw [Run.abortPoll, poll]) (by rw [Lane.stopped, poll])
  | aborting => exact poll ▸ still (by simp [poll]) (by rw [Run.abortPoll, poll]) (by rw [Lane.stopped, poll])
  | poll q =>
    have aborted (f : Lane → Lane) (e : r.abortPoll c n = (r.modProbe q.probe fun x => { x with run := .idle }).modLane n f)
        (s : f (r.lane n) = (r.lane n).stopped) :
        (r.abortPoll c n).lanes = modAt n Lane.stopped r.lanes ∧ Run.Stops r (r.abortPoll c n)
          ∧ ∀ x, InProgress.poll q = .poll x → ((r.abortPoll c n).probe x.probe).run = .idle := by
      rw [e]
      refine ⟨modAt_congr s, .of_probe, fun x hx => ?_⟩
      cases hx
      rw [Run.modLane_probe, Run.modProbe_probe_self]
    by_cases waits : q.phase = .settle ∨ q.phase = .wait
    · refine aborted (fun x => { x with state := .idle, poll := .absent }) ?_ ?_
      · have free : r.abortPoll c n = (r.modProbe q.probe fun x => { x with run := .idle }).freeLane c n := by
          rw [Run.abortPoll, poll]
          rcases waits with h | h <;> simp only [h]
        rw [free, Run.freeLane, Run.serveLane_of_empty]
        rw [Run.modLane_lane_self]
        exact empty
      · rw [Lane.stopped, poll]
        exact (if_pos waits).symm
    · refine aborted (fun x => { x with poll := .aborting }) ?_ ?_
      · rw [Run.abortPoll, poll]
        cases h : q.phase <;> simp_all
      · rw [Lane.stopped, poll]
        exact (if_neg waits).symm

/-- The aborts on several lanes whose queues are empty. -/
theorem Run.foldl_abortPoll_spec {c : Cfg} {ns : List LaneNo} (nodup : ns.Nodup) {r : Run} (empty : ∀ n, (r.lane n).queue = []) :
    (∀ m, (ns.foldl (fun r n => r.abortPoll c n) r).lane m = if m ∈ ns then (r.lane m).stopped else r.lane m)
      ∧ Run.Stops r (ns.foldl (fun r n => r.abortPoll c n) r)
      ∧ ∀ n q, n ∈ ns → (r.lane n).poll = .poll q → ((ns.foldl (fun r n => r.abortPoll c n) r).probe q.probe).run = .idle := by
  induction ns generalizing r with
  | nil => exact ⟨fun m => by simp, .refl r, fun n q hn => absurd hn (by simp)⟩
  | cons n ns ih =>
    obtain ⟨fresh, rest⟩ := List.nodup_cons.mp nodup
    obtain ⟨lanes, stops, idles⟩ := Run.abortPoll_spec (c := c) (empty n)
    have lane (m : LaneNo) : (r.abortPoll c n).lane m = if m = n then (r.lane n).stopped else r.lane m := by
      rw [Run.lane, lanes, modAt_get]
      rfl
    have still (m : LaneNo) : ((r.abortPoll c n).lane m).queue = [] := by
      rw [lane]
      split
      · unfold Lane.stopped
        split
        · split
          · exact empty n
          · exact empty n
        · exact empty n
        · exact empty n
      · exact empty m
    obtain ⟨lanes', stops', idles'⟩ := ih rest still
    refine ⟨fun m => ?_, stops.trans stops', fun m q hm poll => ?_⟩
    · rw [List.foldl_cons, lanes', lane]
      by_cases h : m = n
      · subst h
        simp [fresh]
      · simp [h]
    · rcases List.mem_cons.mp hm with rfl | later
      · exact stops'.idle (idles q poll)
      · refine idles' m q later ?_
        have other : m ≠ n := fun h => by
          subst h
          exact fresh later
        rw [lane, if_neg other]
        exact poll

/-! ## The entry to CONFIG (R157) -/

/-- The books, the queue and the lists are cleared, every lane's queue is empty, and every due timer stops. -/
def Run.cleared (r : Run) : Run :=
  let u := { r with mode := .config, cause := .request }.clearBooks
  { u with
    lanes := mapAt (fun _ x => { x with queue := [] }) u.lanes
    probes := mapAt (fun _ x => { x with due := none, run := if x.run == .queued then .idle else x.run }) u.probes }

/-- The lanes stopped, in lane order. -/
def Run.halted (c : Cfg) (r : Run) : Run := allLanes.foldl (fun r n => r.abortPoll c n) r.cleared

theorem Run.halted_spec (c : Cfg) (r : Run) :
    (∀ m, (r.halted c).lane m = ({ r.lane m with queue := [] } : Lane).stopped) ∧ Run.Stops r.cleared (r.halted c)
      ∧ ∀ n q, (r.lane n).poll = .poll q → ((r.halted c).probe q.probe).run = .idle := by
  have lane (n : LaneNo) : r.cleared.lane n = { r.lane n with queue := [] } := mapAt_get ..
  obtain ⟨lanes, stops, idles⟩ := Run.foldl_abortPoll_spec (c := c) (List.nodup_finRange 4) (r := r.cleared) fun n => by rw [lane]
  refine ⟨fun m => ?_, stops, fun n q poll => idles n q (List.mem_finRange n) (by rw [lane]; exact poll)⟩
  refine (lanes m).trans ?_
  rw [if_pos (List.mem_finRange m), lane]

/-- The entry to CONFIG, its MODE notice written out. -/
theorem Run.toConfig_eq (c : Cfg) (r : Run) :
    r.toConfig c =
      { r.halted c with
        probes := mapAt (fun _ x => ProbeRun.forget x) (r.halted c).probes
        sleds := mapAt (fun _ x => SledRun.leaveService c.globals.rampFrames x) (r.halted c).sleds
        notices :=
          { r.notices with
            sled := tabulate fun _ => false, pool := false, mode := c.mask.mode || r.notices.mode } } := by
  have notices : (r.halted c).notices = r.notices := (congrArg Run.notices (r.halted_spec c).2.1.frame).trans rfl
  have whole : r.toConfig c =
      Run.post c .mode
        { r.halted c with
          probes := mapAt (fun _ x => ProbeRun.forget x) (r.halted c).probes
          sleds := mapAt (fun _ x => SledRun.leaveService c.globals.rampFrames x) (r.halted c).sleds
          notices := (r.halted c).notices.dropRunKinds } := rfl
  rw [whole, notices]
  unfold Run.post noticeAllowed
  cases c.mask.mode
  · rw [Bool.false_or]
    rfl
  · rw [Bool.true_or]
    rfl

theorem Run.toConfig_frame (c : Cfg) (r : Run) :
    r.toConfig c =
      { r with
        mode := .config, cause := .request, pool := { r.pool with leaseState := .none, leaseRemaining := 0 }
        sleds := (r.toConfig c).sleds, queue := [], raiseOrder := [], boostList := [], lanes := (r.toConfig c).lanes
        probes := (r.toConfig c).probes, notices := (r.toConfig c).notices } := by
  have halted := congrArg (fun h : Run => { h with
    sleds := (r.toConfig c).sleds, lanes := (r.toConfig c).lanes, probes := (r.toConfig c).probes
    notices := (r.toConfig c).notices }) (r.halted_spec c).2.1.frame
  have whole := r.toConfig_eq c
  have own : r.toConfig c = { r.halted c with
      sleds := (r.toConfig c).sleds, lanes := (r.toConfig c).lanes, probes := (r.toConfig c).probes
      notices := (r.toConfig c).notices } := by
    rw [whole]
  exact own.trans halted

theorem Run.toConfig_lane (c : Cfg) (r : Run) (n : LaneNo) :
    (r.toConfig c).lane n = ({ r.lane n with queue := [] } : Lane).stopped := by
  rw [← (r.halted_spec c).1 n, Run.toConfig_eq]
  rfl

/-- A sled with its books cleared: the want and the class stay (R36). -/
def SledRun.bookless (x : SledRun) : SledRun :=
  { x with books := { Books.initial with wanted := x.books.wanted, cls := x.books.cls } }

/-- A sled's records after the entry to CONFIG (R157). -/
theorem Run.toConfig_get (c : Cfg) (r : Run) (i : Sled) :
    (r.toConfig c).sleds.get i =
      (r.sleds.get i).bookless.leaveService c.globals.rampFrames := by
  have sleds : (r.halted c).sleds = r.cleared.sleds := (congrArg Run.sleds (r.halted_spec c).2.1.frame).trans rfl
  rw [Run.toConfig_eq]
  dsimp only
  rw [mapAt_get, sleds]
  exact congrArg _ (mapAt_get ..)

theorem SledRun.leaveService_books (ramp : Nat) (x : SledRun) : (x.leaveService ramp).books = x.books := by
  unfold SledRun.leaveService
  split <;> rfl

theorem SledRun.leaveService_of_out {ramp : Nat} {x : SledRun} (h : x.life.state.inService = false) : x.leaveService ramp = x :=
  if_neg (by simp [h])

theorem SledRun.leaveService_of_in {ramp : Nat} {x : SledRun} (h : x.life.state.inService = true) :
    x.leaveService ramp =
      { x with
        chan := x.chan.force ramp
        life :=
          { x.life with
            state := .standby, admission := none, admitTimeout := false, awaitA := false, awaitB := false
            containPending := false }
        therm := .initial
        alert := if x.alert.filtered then x.alert.endAssertion else x.alert } := if_pos h

/-- A probe's record after the entry to CONFIG. -/
theorem Run.toConfig_probe (c : Cfg) (r : Run) (p : Probe) :
    (r.toConfig c).probe p = { ProbeRun.forget (r.probe p) with due := none, run := ((r.halted c).probe p).run } := by
  have kept := (r.halted_spec c).2.1.probe p
  have cleared : r.cleared.probe p = { r.probe p with due := none, run := if (r.probe p).run == .queued then .idle else (r.probe p).run } :=
    mapAt_get ..
  have forgot : (r.toConfig c).probe p = ProbeRun.forget ((r.halted c).probe p) := by
    rw [Run.toConfig_eq]
    exact mapAt_get ..
  rw [forgot, kept, cleared]
  rfl

theorem Run.toConfig_probe_run (c : Cfg) (r : Run) (p : Probe) (h : (r.probe p).run ≠ .active) : ((r.halted c).probe p).run = .idle := by
  refine (r.halted_spec c).2.1.idle ?_
  have cleared : (r.cleared.probe p).run = if (r.probe p).run == .queued then .idle else (r.probe p).run :=
    congrArg ProbeRun.run (mapAt_get ..)
  rw [cleared]
  cases e : (r.probe p).run with
  | idle => rfl
  | queued => rfl
  | active => exact absurd e h

end Sys2Proof.Machine

open Sys2Proof Sys2Proof.Machine

/-- Settles O38: in CONFIG the request is refused, and elsewhere every block gives up what it holds; SET_MODE SAFE is refused. -/
theorem configIsEntered : Obligations.ConfigIsEntered := by
  unfold Obligations.ConfigIsEntered
  refine ⟨?_, fun tag s ready => ?_⟩
  · intro tag s ready f r₀
    have replied {r : Run} {a : Answer} (hb : ownRule (.setModeConfig tag) s.popFrame = ({ s.popFrame with cfg := s.cfg, run := r }, a)) :
        exec (.setModeConfig tag) s = .next (s.replied f (put8 a.status.code ++ a.content) s.cfg r) :=
      exec_replied (c := .setModeConfig tag) rfl rfl ready rfl rfl rfl rfl hb
    refine ⟨fun config => ?_, fun works => ?_⟩
    · exact replied (r := s.run) (a := .refuse .notAllowed) (if_pos (beq_iff_eq.mpr config))
    · have get := r₀.toConfig_get s.cfg
      have frame := r₀.toConfig_frame s.cfg
      have pool : (r₀.toConfig s.cfg).pool = { r₀.pool with leaseState := .none, leaseRemaining := 0 } :=
        (congrArg Run.pool frame).trans rfl
      refine ⟨r₀.toConfig s.cfg, replied (a := .ok []) (if_neg (by simpa using works)), ?_, pool, ?_, fun i => ?_, fun i out => ?_,
        fun i within => ?_, fun n => ?_, fun p => ?_, fun p quiet => ?_, fun n q poll => ?_⟩
      · rw [pool]
        exact frame
      · exact (congrArg Run.notices (r₀.toConfig_eq s.cfg)).trans rfl
      · show ((r₀.toConfig s.cfg).sleds.get i).books = _
        rw [get, SledRun.leaveService_books]
        rfl
      · show ((r₀.toConfig s.cfg).sleds.get i).life = _ ∧ ((r₀.toConfig s.cfg).sleds.get i).chan = _
          ∧ ((r₀.toConfig s.cfg).sleds.get i).therm = _ ∧ ((r₀.toConfig s.cfg).sleds.get i).alert = _
        rw [get, SledRun.leaveService_of_out (x := (r₀.sleds.get i).bookless) out]
        exact ⟨rfl, rfl, rfl, rfl⟩
      · show ((r₀.toConfig s.cfg).sleds.get i).life = _ ∧ ((r₀.toConfig s.cfg).sleds.get i).chan = _
          ∧ ((r₀.toConfig s.cfg).sleds.get i).therm = _ ∧ ((r₀.toConfig s.cfg).sleds.get i).alert = _
        rw [get, SledRun.leaveService_of_in (x := (r₀.sleds.get i).bookless) within]
        exact ⟨rfl, rfl, rfl, rfl⟩
      · rw [Run.toConfig_lane]
        obtain ⟨x, hx⟩ : ∃ x, r₀.lane n = x := ⟨_, rfl⟩
        obtain ⟨state, queue, poll⟩ := x
        rw [hx]
        cases poll with
        | absent => rfl
        | aborting => rfl
        | poll q => rfl
      · rw [Run.toConfig_probe]
        rfl
      · rw [Run.toConfig_probe]
        exact Run.toConfig_probe_run _ _ _ quiet
      · rw [Run.toConfig_probe]
        exact (r₀.halted_spec s.cfg).2.2 n q poll
  · exact exec_replied (c := .setModeSafe tag [2]) (r := s.run) (d := s.cfg) (a := .refuse .notAllowed) rfl rfl ready rfl rfl rfl rfl rfl
end

section
/-! SUPPORT. The operations on the lanes, and the moves that every nested operation is made of. -/

namespace Sys2Proof.Machine

open Sys2Proof

/-! ## The operations on the lanes -/

/-- What an operation on lanes and probes alone leaves: everything else but the count of free values. -/
def Run.OnLanes (r t : Run) : Prop := t = { r with lanes := t.lanes, probes := t.probes, free := t.free }

namespace Run.OnLanes

theorem refl (r : Run) : Run.OnLanes r r := rfl

theorem trans {r t u : Run} (h : Run.OnLanes r t) (k : Run.OnLanes t u) : Run.OnLanes r u :=
  Eq.trans (show u = _ from k) (congrArg (fun x : Run => { x with lanes := u.lanes, probes := u.probes, free := u.free }) h)

theorem foldl {α : Type} {f : Run → α → Run} (hf : ∀ r a, Run.OnLanes r (f r a)) (as : List α) (r : Run) :
    Run.OnLanes r (as.foldl f r) := by
  induction as generalizing r with
  | nil => exact refl r
  | cons a as ih => exact (hf r a).trans (ih _)

theorem sleds {r t : Run} (h : Run.OnLanes r t) : t.sleds = r.sleds := (congrArg Run.sleds h).trans rfl

theorem openOnLane (c : Cfg) (n : LaneNo) (r : Run) : Run.OnLanes r (r.openOnLane c n) := rfl
theorem closeOnLane (n : LaneNo) (r : Run) : Run.OnLanes r (r.closeOnLane n) := rfl
theorem setPoll (n : LaneNo) (p : Poll) (r : Run) : Run.OnLanes r (r.setPoll n p) := rfl
theorem modLane (n : LaneNo) (f : Lane → Lane) (r : Run) : Run.OnLanes r (r.modLane n f) := rfl
theorem modProbe (p : Probe) (f : ProbeRun → ProbeRun) (r : Run) : Run.OnLanes r (r.modProbe p f) := rfl
theorem spendFree (r : Run) : Run.OnLanes r r.spendFree := rfl
theorem beginRead (c : Cfg) (n : LaneNo) (p : Probe) (r : Run) : Run.OnLanes r (r.beginRead c n p) := rfl
theorem beginAttempt (c : Cfg) (n : LaneNo) (k : Nat) (r : Run) : Run.OnLanes r (r.beginAttempt c n k) := rfl
theorem abandonLane (n : LaneNo) (r : Run) : Run.OnLanes r (r.abandonLane n) := rfl
theorem enterRecover (c : Cfg) (n : LaneNo) (r : Run) : Run.OnLanes r (r.enterRecover c n) := rfl
theorem unqueue (p : Probe) (r : Run) : Run.OnLanes r (r.unqueue p) := rfl

theorem beginWaitOrRead (c : Cfg) (n : LaneNo) (p : Probe) (r : Run) : Run.OnLanes r (r.beginWaitOrRead c n p) := by
  unfold Run.beginWaitOrRead
  split
  · exact beginRead ..
  · exact setPoll ..
  · exact setPoll ..

theorem beginPoll (c : Cfg) (n : LaneNo) (p : Probe) (r : Run) : Run.OnLanes r (r.beginPoll c n p) := by
  unfold Run.beginPoll
  split
  · exact (setPoll n _ r).trans (openOnLane ..)
  · exact beginWaitOrRead ..

theorem endInit (c : Cfg) (n : LaneNo) (p : Probe) (r : Run) : Run.OnLanes r (r.endInit c n p) := by
  unfold Run.endInit
  dsimp only
  split
  · exact ((closeOnLane n r).trans (modProbe ..)).trans (setPoll ..)
  · exact ((closeOnLane n r).trans (modProbe ..)).trans (beginWaitOrRead ..)

theorem initEnds (c : Cfg) (n : LaneNo) (p : Poll) (r : Run) : Run.OnLanes r (r.initEnds c n p) := by
  unfold Run.initEnds
  split
  · exact ((closeOnLane n r).trans (setPoll ..)).trans (openOnLane ..)
  · exact endInit ..

theorem serveLane (c : Cfg) (n : LaneNo) (r : Run) : Run.OnLanes r (r.serveLane c n) := by
  unfold Run.serveLane
  split
  · exact ((modLane n _ r).trans (modProbe ..)).trans (beginPoll ..)
  · exact refl r

theorem freeLane (c : Cfg) (n : LaneNo) (r : Run) : Run.OnLanes r (r.freeLane c n) := (modLane n _ r).trans (serveLane ..)

theorem attemptSucceeded (c : Cfg) (n : LaneNo) (r : Run) : Run.OnLanes r (r.attemptSucceeded c n) :=
  ((modLane n _ r).trans (foldl (fun r p => modProbe p _ r) _ _)).trans (serveLane ..)

theorem abortPoll (c : Cfg) (n : LaneNo) (r : Run) : Run.OnLanes r (r.abortPoll c n) := by
  unfold Run.abortPoll
  split
  · dsimp only
    split
    · exact (modProbe _ _ r).trans (freeLane ..)
    · exact (modProbe _ _ r).trans (freeLane ..)
    · exact (modProbe _ _ r).trans (modLane ..)
    · exact (modProbe _ _ r).trans (modLane ..)
  · exact refl r
  · exact refl r

theorem dropProbes (c : Cfg) (i : Sled) (r : Run) : Run.OnLanes r (r.dropProbes c i) := by
  unfold Run.dropProbes
  dsimp only
  refine Run.OnLanes.trans ?_ (foldl (fun r p => modProbe p _ r) _ _)
  split
  · exact ((unqueue _ r).trans (unqueue ..)).trans (abortPoll ..)
  · exact (unqueue _ r).trans (unqueue ..)

end Run.OnLanes

/-! ## Moves -/

/-- What no move that the Budget Unit does not make touches: the queue, the lists, the mode, the pool size, the books that count
and the sled states. -/
structure Run.SameAccounts (r t : Run) : Prop where
  queue : t.queue = r.queue
  raiseOrder : t.raiseOrder = r.raiseOrder
  boostList : t.boostList = r.boostList
  mode : t.mode = r.mode
  size : t.pool.size = r.pool.size
  units : ∀ i, (t.books i).grant = (r.books i).grant ∧ (t.books i).loan = (r.books i).loan
    ∧ (t.books i).draining = (r.books i).draining ∧ (t.books i).floorReserved = (r.books i).floorReserved
    ∧ (t.books i).boost = (r.books i).boost
  state : ∀ i, (t.life i).state = (r.life i).state

theorem Run.SameAccounts.of_frame {r t : Run}
    (frame : t = { t with
      sleds := r.sleds, queue := r.queue, raiseOrder := r.raiseOrder, boostList := r.boostList, mode := r.mode, pool := r.pool }) :
    Run.SameAccounts r t := by
  rw [frame]
  exact ⟨rfl, rfl, rfl, rfl, rfl, fun _ => ⟨rfl, rfl, rfl, rfl, rfl⟩, fun _ => rfl⟩

/-- A change of one sled's records that leaves its books and its state. -/
theorem Run.SameAccounts.modSled {r : Run} {i : Sled} {f : SledRun → SledRun}
    (units : (f (r.sleds.get i)).books.grant = (r.books i).grant ∧ (f (r.sleds.get i)).books.loan = (r.books i).loan
      ∧ (f (r.sleds.get i)).books.draining = (r.books i).draining
      ∧ (f (r.sleds.get i)).books.floorReserved = (r.books i).floorReserved ∧ (f (r.sleds.get i)).books.boost = (r.books i).boost)
    (state : (f (r.sleds.get i)).life.state = (r.life i).state) : Run.SameAccounts r (r.modSled i f) := by
  have get (j : Sled) : (r.modSled i f).sleds.get j = if j = i then f (r.sleds.get i) else r.sleds.get j := modAt_get ..
  refine ⟨rfl, rfl, rfl, rfl, rfl, fun j => ?_, fun j => ?_⟩
  · unfold Run.books
    rw [get]
    split
    · next e => rw [e]; exact units
    · exact ⟨rfl, rfl, rfl, rfl, rfl⟩
  · unfold Run.life
    rw [get]
    split
    · next e => rw [e]; exact state
    · rfl

/-- The moves that a nested operation is made of, as far as the books and the queue are concerned. -/
inductive Run.Moves (c : Cfg) : Run → Run → Prop
  | same {r t : Run} (h : Run.SameAccounts r t) : Run.Moves c r t
  | trans {r t u : Run} (h : Run.Moves c r t) (k : Run.Moves c t u) : Run.Moves c r u
  | refresh (r : Run) : Run.Moves c r (r.refreshHeld c)
  | endBoost {r : Run} {i : Sled} (running : (r.books i).boost = .running) : Run.Moves c r (r.endBoost i)
  | isolate {r : Run} {i : Sled}
      (held : (r.life i).state = .tracking ∨ (r.life i).state = .admitting ∧ (r.books i).floorReserved = true) :
      Run.Moves c r (r.isolate c i)
  | track {r : Run} {i : Sled}
      (held : (r.life i).state = .isolated ∨ (r.life i).state = .admitting ∧ (r.books i).floorReserved = true) :
      Run.Moves c r (r.becomeTracking c i)
  | safe {r : Run} (run : r.mode = .run) : Run.Moves c r { r with mode := .safe, cause := .fault }

namespace Run.Moves

variable {c : Cfg}

theorem refl (r : Run) : Run.Moves c r r := same (.of_frame rfl)

theorem foldl {α : Type} {f : Run → α → Run} (hf : ∀ r a, Run.Moves c r (f r a)) (as : List α) (r : Run) :
    Run.Moves c r (as.foldl f r) := by
  induction as generalizing r with
  | nil => exact refl r
  | cons a as ih => exact (hf r a).trans (ih _)

/-- An operation that leaves the Budget Unit's blocks and the sleds as they are. -/
theorem of_frame {r t : Run}
    (frame : t = { t with
      sleds := r.sleds, queue := r.queue, raiseOrder := r.raiseOrder, boostList := r.boostList, mode := r.mode, pool := r.pool }) :
    Run.Moves c r t := same (.of_frame frame)

theorem onLanes {r t : Run} (h : Run.OnLanes r t) : Run.Moves c r t :=
  of_frame (by rw [show t = _ from h])

theorem modLife {r : Run} {i : Sled} {f : Life → Life} (h : ∀ l, (f l).state = l.state) : Run.Moves c r (r.modLife i f) :=
  same (.modSled ⟨rfl, rfl, rfl, rfl, rfl⟩ (h _))

theorem modTherm (i : Sled) (f : Thermal → Thermal) (r : Run) : Run.Moves c r (r.modTherm i f) :=
  same (.modSled ⟨rfl, rfl, rfl, rfl, rfl⟩ rfl)

theorem modAlert (i : Sled) (f : Alert → Alert) (r : Run) : Run.Moves c r (r.modAlert i f) :=
  same (.modSled ⟨rfl, rfl, rfl, rfl, rfl⟩ rfl)

theorem modChan (i : Sled) (f : Channel → Channel) (r : Run) : Run.Moves c r (r.modChan i f) :=
  same (.modSled ⟨rfl, rfl, rfl, rfl, rfl⟩ rfl)

theorem post (d : Cfg) (k : Notice) (r : Run) : Run.Moves c r (r.post d k) := by
  obtain ⟨n, e⟩ := r.post_eq d k
  rw [e]
  exact of_frame rfl

/-! ## Boosts and containment -/

theorem endBoostEarly (i : Sled) (r : Run) : Run.Moves c r (r.endBoostEarly i) := by
  unfold Run.endBoostEarly
  split
  · next running => exact (endBoost (by simpa using running)).trans (modChan ..)
  · exact refl r

theorem endAllBoosts (r : Run) : Run.Moves c r r.endAllBoosts := foldl (fun r i => endBoostEarly i r) _ r

theorem containSled (i : Sled) (r : Run) : Run.Moves c r (r.containSled c i) := by
  unfold Run.containSled
  split
  · exact refl r
  · exact refl r
  · exact refl r
  · exact refl r
  · next tracking => exact isolate (.inl tracking)
  · next admitting =>
    split
    · next reserved => exact isolate (.inr ⟨admitting, reserved⟩)
    · exact modLife fun _ => rfl

theorem settleAdmission (i : Sled) (r : Run) : Run.Moves c r (r.settleAdmission c i) := by
  unfold Run.settleAdmission
  dsimp only
  split
  · next held =>
    have held : (r.life i).state = .admitting ∧ (r.books i).floorReserved = true := by simpa using held
    split
    · exact isolate (.inr held)
    · split
      · exact refl r
      · exact track (.inr held)
  · exact refl r

/-! ## Faults -/

theorem record (v : Severity) (f : FaultRecord) (r : Run) : Run.Moves c r (r.record c v f) := by
  rw [r.record_frame]
  exact of_frame rfl

theorem demandSafe (r : Run) : Run.Moves c r (r.demandSafe c) := by
  unfold Run.demandSafe
  split
  · next run => exact (safe run).trans ((endAllBoosts _).trans ((refresh _).trans (post ..)))
  · exact refl r
  · exact refl r

theorem raise (k : FaultClass) (x : Subject) (d : Nat) (r : Run) : Run.Moves c r (r.raise c k x d) := by
  unfold Run.raise
  dsimp only
  split
  · exact refl r
  · exact record ..
  · exact (record ..).trans (foldl (fun r i => containSled i r) _ _)
  · exact (record ..).trans (demandSafe _)

/-! ## Heat -/

theorem handThermal (i : Sled) (old : Heat) (r : Run) : Run.Moves c r (r.handThermal c i old) := by
  unfold Run.handThermal
  split
  · exact refl r
  · refine .trans ?_ ((refresh _).trans (post ..))
    split
    · exact endBoostEarly ..
    · exact refl r

theorem evaluate (i : Sled) (r : Run) : Run.Moves c r (r.evaluate c i) := by
  unfold Run.evaluate
  split
  · exact (modTherm i _ r).trans (handThermal ..)
  · exact refl r

/-! ## Outcomes and due events -/

theorem leaveAwaiting (p : Probe) (r : Run) : Run.Moves c r (r.leaveAwaiting p) :=
  modLife fun l => by split <;> rfl

theorem handSuccess (p : Probe) (k : Heat) (v : Option Int) (r : Run) : Run.Moves c r (r.handSuccess c p k v) := by
  unfold Run.handSuccess
  dsimp only
  refine .trans ?_ (evaluate ..)
  split
  · exact (onLanes (.modProbe ..)).trans ((leaveAwaiting ..).trans (settleAdmission ..))
  · exact onLanes (.modProbe ..)

theorem handFailure (p : Probe) (k : Reason) (raw : Option Nat) (r : Run) : Run.Moves c r (r.handFailure c p k raw) := by
  unfold Run.handFailure
  dsimp only
  refine .trans ?_ (evaluate ..)
  have counted : Run.Moves c r (r.modProbe p fun x => x.fail r.clock.stamp (c.probe p).lostLimit k) := onLanes (.modProbe ..)
  cases raw with
  | none =>
    dsimp only
    split
    · exact counted.trans (raise ..)
    · exact counted
  | some d =>
    dsimp only
    split
    · exact (counted.trans (raise ..)).trans (raise ..)
    · exact counted.trans (raise ..)

theorem handOutcome (p : Probe) (o : PollResult) (r : Run) : Run.Moves c r (r.handOutcome c p o) := by
  cases o with
  | success k v => exact handSuccess ..
  | failure k raw => exact handFailure ..

theorem endPoll (n : LaneNo) (p : Probe) (o : PollResult) (r : Run) : Run.Moves c r (r.endPoll c n p o) :=
  (handOutcome p o r).trans ((onLanes (.modProbe ..)).trans (onLanes (.freeLane ..)))

theorem dueEvent (p : Probe) (r : Run) : Run.Moves c r (r.dueEvent c p) := by
  unfold Run.dueEvent
  dsimp only
  split
  · exact (onLanes ((Run.OnLanes.modProbe p _ r).trans (.modProbe ..))).trans (raise ..)
  · exact (onLanes ((Run.OnLanes.modProbe p _ r).trans (.modProbe ..))).trans (raise ..)
  · split
    · exact (onLanes (.modProbe ..)).trans (handFailure ..)
    · exact onLanes ((Run.OnLanes.modProbe p _ r).trans
        ((Run.OnLanes.modProbe ..).trans ((Run.OnLanes.modLane ..).trans (.serveLane ..))))

theorem notAcknowledged (n : LaneNo) (k : Reason) (p : Poll) (r : Run) : Run.Moves c r (r.notAcknowledged c n k p) := by
  unfold Run.notAcknowledged
  dsimp only
  split
  · exact onLanes ((Run.OnLanes.closeOnLane n r).trans ((Run.OnLanes.setPoll ..).trans (.openOnLane ..)))
  · exact (onLanes ((Run.OnLanes.closeOnLane n r).trans (.modProbe ..))).trans (endPoll ..)

theorem transactionExpired (n : LaneNo) (r : Run) : Run.Moves c r (r.transactionExpired n c) := by
  unfold Run.transactionExpired
  dsimp only
  have abandoned (f : Lane → Lane) : Run.Moves c r ((r.abandonLane n).modLane n f) :=
    onLanes ((Run.OnLanes.abandonLane n r).trans (.modLane ..))
  refine .trans ?_ (onLanes (.enterRecover ..))
  split
  · exact (abandoned _).trans ((onLanes (.modProbe ..)).trans (handOutcome ..))
  · exact abandoned _
  · exact abandoned _

theorem failLane (n : LaneNo) (r : Run) : Run.Moves c r (r.failLane c n) := by
  unfold Run.failLane
  dsimp only
  refine .trans ((onLanes (.modLane ..)).trans (raise ..)) (foldl (fun r p => ?_) _ _)
  exact (onLanes ((Run.OnLanes.modLane n _ r).trans (.modProbe ..))).trans (handFailure ..)

theorem attemptFailed (n : LaneNo) (r : Run) : Run.Moves c r (r.attemptFailed c n) := by
  unfold Run.attemptFailed
  split
  · exact onLanes (.beginAttempt ..)
  · exact failLane ..

theorem attemptChecked (n : LaneNo) (l : Pin) (r : Run) : Run.Moves c r (r.attemptChecked n l c) := by
  unfold Run.attemptChecked
  dsimp only
  split
  · exact onLanes ((Run.OnLanes.modLane n _ r).trans (.attemptSucceeded ..))
  · exact (onLanes (.modLane ..)).trans (attemptFailed ..)

/-! ## Alert lines -/

theorem offerReady (i : Sled) (r : Run) : Run.Moves c r (r.offerReady c i) := by
  unfold Run.offerReady
  split
  · split
    · unfold Run.readyAssertion
      split
      · exact endPoll ..
      · exact onLanes (.beginRead ..)
      · exact onLanes (.beginRead ..)
    · exact refl r
  · exact refl r

theorem assertingEdge (i : Sled) (r : Run) : Run.Moves c r (r.assertingEdge c i) := by
  unfold Run.assertingEdge
  dsimp only
  split
  · exact (modAlert i _ r).trans (evaluate ..)
  · exact (modAlert i _ r).trans (offerReady ..)
  · exact modAlert ..

theorem deassertingEdge (i : Sled) (r : Run) : Run.Moves c r (r.deassertingEdge c i) := by
  unfold Run.deassertingEdge
  dsimp only
  split
  · exact (modAlert i _ r).trans (evaluate ..)
  · exact modAlert ..
  · exact modAlert ..

theorem followAlert (i : Sled) (r : Run) : Run.Moves c r (r.followAlert c i) := by
  unfold Run.followAlert
  split
  · exact assertingEdge ..
  · exact deassertingEdge ..
  · exact refl r
  · exact refl r

theorem acceptAlert (i : Sled) (r : Run) : Run.Moves c r (r.acceptAlert c i) := (modAlert i _ r).trans (followAlert ..)

theorem sampleAlert (i : Sled) (l : Pin) (r : Run) : Run.Moves c r (r.sampleAlert c i l) := by
  unfold Run.sampleAlert
  dsimp only
  split
  · exact (modAlert i _ r).trans (acceptAlert ..)
  · exact modAlert ..

theorem markSustained (i : Sled) (r : Run) : Run.Moves c r (r.markSustained c i) := by
  unfold Run.markSustained
  dsimp only
  split
  · exact (modAlert i _ r).trans (evaluate ..)
  · exact modAlert ..
  · exact modAlert ..

theorem markStuck (i : Sled) (r : Run) : Run.Moves c r (r.markStuck c i) := by
  unfold Run.markStuck
  dsimp only
  split
  · exact (modAlert i _ r).trans (raise ..)
  · exact (modAlert i _ r).trans (raise ..)
  · exact modAlert ..

theorem sustain (i : Sled) (r : Run) : Run.Moves c r (r.sustain c i) := by
  unfold Run.sustain
  dsimp only
  split
  · exact ((modAlert ..).trans (markSustained ..)).trans (markStuck ..)
  · exact (modAlert ..).trans (markSustained ..)

theorem stick (i : Sled) (r : Run) : Run.Moves c r (r.stick c i) := by
  unfold Run.stick
  dsimp only
  split
  · exact ((modAlert ..).trans (markStuck ..)).trans (markSustained ..)
  · exact (modAlert ..).trans (markStuck ..)

/-! ## Admission -/

theorem firstDue (p : Probe) (r : Run) : Run.Moves c r (r.firstDue c p) := (onLanes (.modProbe ..)).trans (dueEvent ..)

theorem admissionExpired (i : Sled) (r : Run) : Run.Moves c r (r.admissionExpired c i) := by
  unfold Run.admissionExpired
  exact (modLife (f := fun l => { l with admitTimeout := true, admission := none }) fun _ => rfl).trans (raise ..)

theorem hotExpired (i : Sled) (r : Run) : Run.Moves c r (r.hotExpired i c) := by
  unfold Run.hotExpired
  exact (modTherm ..).trans (raise ..)

/-! ## The zone -/

theorem setZone (k : ZoneState) (n : Count) (r : Run) : Run.Moves c r (r.setZone k n) := of_frame rfl

theorem assertZone (z : ZoneNo) (r : Run) : Run.Moves c r (r.assertZone c z) := by
  have alarmed : Run.Moves c r ((r.setZone .emergency none).alarmed c z r.zone.state) :=
    (setZone ..).trans ((raise ..).trans (post ..))
  rw [Run.assertZone_eq]
  split
  · exact alarmed.trans ((endAllBoosts _).trans (refresh _))
  · exact alarmed

theorem endEmergency (r : Run) : Run.Moves c r (r.endEmergency c) := by
  rw [Run.endEmergency_eq]
  refine .trans ?_ ((post ..).trans (refresh _))
  split
  · exact setZone ..
  · exact setZone ..

theorem deassertZone (r : Run) : Run.Moves c r (r.deassertZone c) := by
  rw [Run.deassertZone_eq]
  split
  · split
    · exact endEmergency r
    · exact post ..
  · exact refl r

end Run.Moves

end Sys2Proof.Machine
end

section
/-! SUPPORT. The raise queue stays in order (R38 to R41): under every move, join and service. -/

namespace Sys2Proof.Machine

open Sys2Proof

/-! ## Queues as seats -/

/-- The order of two seats of the queue: by class, and of two sleds. -/
def seatsInOrder (a b : Sled × QClass) : Prop := a.2.rank ≤ b.2.rank ∧ a.1 ≠ b.1

theorem pairwise_seats {q : List Entry} :
    (q.map Entry.seat).Pairwise seatsInOrder ↔ q.Pairwise fun a b => a.cls.rank ≤ b.cls.rank ∧ a.sled ≠ b.sled := List.pairwise_map

theorem Run.queued_iff {r : Run} {i : Sled} : r.queued i = true ↔ ∃ e ∈ r.queue, e.sled = i := by
  simp [Run.queued]

theorem Run.queued_of_mem {r : Run} {e : Entry} (he : e ∈ r.queue) : r.queued e.sled = true := Run.queued_iff.mpr ⟨e, he, rfl⟩

theorem Run.ne_of_queued {r : Run} {i j : Sled} (hi : r.queued i = false) (hj : r.queued j = true) : j ≠ i := by
  rintro rfl
  exact Bool.false_ne_true (hi.symm.trans hj)

/-- A queue whose seats are some of those of a queue in order, for sleds whose state and reservation are the same. -/
theorem Run.queueSound_of_seats {r t : Run} (h : r.queueSound) (seats : (t.queue.map Entry.seat).Sublist (r.queue.map Entry.seat))
    (floor : ∀ e ∈ t.queue, e.cls = .floor → e.held = false)
    (kept : ∀ i, t.queued i = true → (t.life i).state = (r.life i).state ∧ (t.books i).floorReserved = (r.books i).floorReserved)
    (config : t.mode = .config → r.mode = .config ∧ ∀ i, (r.life i).state.inService = false → (t.life i).state.inService = false) :
    t.queueSound := by
  obtain ⟨order, floors, classes, empty⟩ := h
  have source {e : Entry} (he : e ∈ t.queue) : ∃ x ∈ r.queue, x.sled = e.sled ∧ x.cls = e.cls := by
    obtain ⟨x, hx, same⟩ := List.mem_map.mp (seats.subset (List.mem_map_of_mem (f := Entry.seat) he))
    exact ⟨x, hx, congrArg Prod.fst same, congrArg Prod.snd same⟩
  refine ⟨pairwise_seats.mp ((pairwise_seats.mpr order).sublist seats), fun e he hk => ?_, fun e he hk => ?_, fun hm => ?_⟩
  · obtain ⟨x, hx, sled, cls⟩ := source he
    obtain ⟨admitting, waits, -⟩ := floors x hx (cls.trans hk)
    obtain ⟨state, reserved⟩ := kept e.sled (Run.queued_of_mem he)
    rw [sled] at admitting waits
    exact ⟨state.trans admitting, reserved.trans waits, floor e he hk⟩
  · obtain ⟨x, hx, sled, cls⟩ := source he
    have tracking := classes x hx (cls ▸ hk)
    rw [sled] at tracking
    exact (kept e.sled (Run.queued_of_mem he)).1.trans tracking
  · obtain ⟨was, out⟩ := config hm
    obtain ⟨none, idle⟩ := empty was
    refine ⟨?_, fun i => out i (idle i)⟩
    rw [none] at seats
    simpa using seats

/-- Where queue and mode are as they were, for sleds whose state and reservation are the same. -/
theorem Run.queueSound_of_same {r t : Run} (h : r.queueSound) (queue : t.queue = r.queue) (mode : t.mode = r.mode)
    (state : ∀ i, (t.life i).state = (r.life i).state)
    (reserved : ∀ i, (t.books i).floorReserved = (r.books i).floorReserved) : t.queueSound := by
  refine Run.queueSound_of_seats h (queue ▸ .refl _) (fun e he hk => ?_) (fun i _ => ⟨state i, reserved i⟩)
    (fun hm => ⟨mode ▸ hm, fun i out => by rw [state]; exact out⟩)
  exact (h.2.1 e (queue ▸ he) hk).2.2

/-- A sled in service finds the part out of CONFIG. -/
theorem Run.queueSound.works {r : Run} (h : r.queueSound) {i : Sled} (service : (r.life i).state.inService = true) : r.mode ≠ .config :=
  fun config => by simp [(h.2.2.2 config).2 i] at service

/-- A sled that is neither ADMITTING without its floor nor TRACKING is not queued. -/
theorem Run.queueSound.not_queued {r : Run} (h : r.queueSound) {i : Sled} (tracking : (r.life i).state ≠ .tracking)
    (admitting : (r.life i).state = .admitting → (r.books i).floorReserved = true) : r.queued i = false := by
  rw [← Bool.not_eq_true, Run.queued_iff]
  rintro ⟨e, he, rfl⟩
  by_cases floor : e.cls = .floor
  · obtain ⟨state, waits, -⟩ := h.2.1 e he floor
    exact Bool.false_ne_true (waits.symm.trans (admitting state))
  · exact tracking (h.2.2.1 e he floor)

/-! ## Joins -/

theorem pairwise_insertEntry {e : Entry} {q : List Entry} (order : q.Pairwise fun a b => a.cls.rank ≤ b.cls.rank ∧ a.sled ≠ b.sled)
    (new : ∀ x ∈ q, x.sled ≠ e.sled) :
    (insertEntry e q).Pairwise fun a b => a.cls.rank ≤ b.cls.rank ∧ a.sled ≠ b.sled := by
  obtain ⟨front, back, whole, rfl, below, above⟩ := insertEntry_split e q
  obtain ⟨hf, hb, cross⟩ := List.pairwise_append.mp order
  have later (x : Entry) (hx : x ∈ back) : e.cls.rank ≤ x.cls.rank := by
    cases back with
    | nil => simp at hx
    | cons y ys =>
      have first := above y rfl
      rcases List.mem_cons.mp hx with rfl | hx
      · omega
      · have := ((List.pairwise_cons.mp hb).1 x hx).1
        omega
  rw [whole, List.pairwise_append, List.pairwise_cons]
  refine ⟨hf, ⟨fun x hx => ⟨later x hx, (new x (by simp [hx])).symm⟩, hb⟩, fun a ha x hx => ?_⟩
  rcases List.mem_cons.mp hx with rfl | hx
  · exact ⟨below a ha, new a (by simp [ha])⟩
  · exact cross a ha x hx

/-- A sled that is not queued joins with a FLOOR entry before it has its floor, and with a class entry where it is TRACKING. -/
theorem Run.queueSound_join {c : Cfg} {i : Sled} {k : QClass} {r : Run} (h : r.queueSound) (new : r.queued i = false)
    (floor : k = .floor → (r.life i).state = .admitting ∧ (r.books i).floorReserved = false)
    (cls : k ≠ .floor → (r.life i).state = .tracking) : (r.join c i k).queueSound := by
  have works : r.mode ≠ .config := by
    refine h.works (i := i) ?_
    by_cases hk : k = .floor
    · rw [(floor hk).1]; rfl
    · rw [cls hk]; rfl
  refine ⟨pairwise_insertEntry h.1 fun x hx => Run.ne_of_queued new (Run.queued_of_mem hx), fun e he hk => ?_, fun e he hk => ?_,
    fun hm => absurd hm works⟩
  · rcases mem_insertEntry.mp he with rfl | old
    · obtain ⟨state, waits⟩ := floor hk
      refine ⟨state, waits, ?_⟩
      show r.entryHeld c i k = false
      rw [show k = .floor from hk]
      rfl
    · exact h.2.1 e old hk
  · rcases mem_insertEntry.mp he with rfl | old
    · exact cls hk
    · exact h.2.2.1 e old hk

theorem Run.queueSound_joinIfShort {c : Cfg} {i : Sled} {r : Run} (h : r.queueSound) : (r.joinIfShort c i).queueSound := by
  unfold Run.joinIfShort
  split
  · exact h
  · next joins =>
    simp only [Bool.or_eq_true, not_or, Bool.not_eq_true, Bool.not_eq_false', beq_iff_eq] at joins
    exact Run.queueSound_join h joins.1.1 nofun fun _ => joins.1.2

theorem Run.queueSound_leaveQueue {i : Sled} {r : Run} (h : r.queueSound) : (r.leaveQueue i).queueSound :=
  Run.queueSound_of_seats h (List.filter_sublist.map _) (fun e he hk => (h.2.1 e (List.mem_filter.mp he).1 hk).2.2)
    (fun _ _ => ⟨rfl, rfl⟩) fun hm => ⟨hm, fun _ => id⟩

theorem Run.leaveQueue_queued (i : Sled) (r : Run) : (r.leaveQueue i).queued i = false := by
  simp [Run.queued, Run.leaveQueue]

theorem Run.queueSound_refreshHeld {c : Cfg} {r : Run} (h : r.queueSound) : (r.refreshHeld c).queueSound := by
  refine Run.queueSound_of_seats h (Run.refreshHeld_seats c r ▸ .refl _) (fun e he hk => ?_) (fun _ _ => ⟨rfl, rfl⟩)
    fun hm => ⟨hm, fun _ => id⟩
  rw [Run.held_of_mem_refreshHeld he, hk]
  rfl

/-! ## Moves -/

theorem Run.SameAccounts.queueSound {r t : Run} (same : Run.SameAccounts r t) (h : r.queueSound) : t.queueSound :=
  Run.queueSound_of_same h same.queue same.mode same.state fun i => (same.units i).2.2.2.1

theorem Run.queueSound_post {c : Cfg} {k : Notice} {r : Run} (h : r.queueSound) : (r.post c k).queueSound := by
  obtain ⟨n, e⟩ := r.post_eq c k
  rw [e]
  exact h

theorem Run.modBooks_reserved {r : Run} {i : Sled} {f : Books → Books} (h : (f (r.books i)).floorReserved = (r.books i).floorReserved)
    (j : Sled) : ((r.modBooks i f).books j).floorReserved = (r.books j).floorReserved := by
  rw [Run.modBooks_books]
  split
  · next e => rw [e]; exact h
  · rfl

/-- A change of books that leaves the reservation. -/
theorem Run.queueSound_modBooks {r : Run} {i : Sled} {f : Books → Books} (h : r.queueSound)
    (reserved : (f (r.books i)).floorReserved = (r.books i).floorReserved) : (r.modBooks i f).queueSound :=
  Run.queueSound_of_same h rfl rfl (fun j => by rw [Run.modBooks_life]) (Run.modBooks_reserved reserved)

theorem Run.modLife_state (r : Run) (i : Sled) (f : Life → Life) {j : Sled} (h : j ≠ i) :
    ((r.modLife i f).life j).state = (r.life j).state := by
  rw [Run.modLife_life, if_neg h]

/-- A change of the state of a sled that is not queued, within the service or out of it. -/
theorem Run.queueSound_modLife {r : Run} {i : Sled} {f : Life → Life} (h : r.queueSound) (new : r.queued i = false)
    (service : (r.life i).state.inService = true ∨ (f (r.life i)).state.inService = false ∨ r.mode ≠ .config) :
    (r.modLife i f).queueSound := by
  refine Run.queueSound_of_seats h (.refl _) (fun e he hk => (h.2.1 e he hk).2.2) (fun j hj => ⟨?_, by rw [Run.modLife_books]⟩)
    fun hm => ⟨hm, fun j out => ?_⟩
  · exact Run.modLife_state r i f (Run.ne_of_queued new hj)
  · rw [Run.modLife_life]
    split
    · next e =>
      subst e
      rcases service with within | out' | works
      · exact absurd (out.symm.trans within) Bool.false_ne_true
      · exact out'
      · exact absurd hm works
    · exact out

/-! ## Isolation (R69) -/

/-- A sled's records once it is isolated: its boost has ended, its grant is cut to its floor. -/
def SledRun.isolated (floor : Nat) (x : SledRun) : SledRun :=
  let y := x.boostEnded
  { y with
    life := { x.life with state := .isolated, admission := none, containPending := false }
    books := { y.books with grant := min y.books.grant floor, draining := y.books.draining + (y.books.grant - floor) } }

theorem SledRun.boostEnded_of_life (x : SledRun) (l : Life) :
    ({ x with life := l } : SledRun).boostEnded = { x.boostEnded with life := l } := by
  unfold SledRun.boostEnded
  dsimp only
  split <;> rfl

theorem Run.isolate_get (c : Cfg) (i j : Sled) (r : Run) :
    (r.isolate c i).sleds.get j = if j = i then (r.sleds.get i).isolated (floorCost c i) else r.sleds.get j := by
  let u := r.modLife i fun l => { l with state := .isolated, admission := none, containPending := false }
  let w := (u.endBoostEarly i).modBooks i fun b =>
    { b with grant := min b.grant (floorCost c i), draining := b.draining + (b.grant - floorCost c i) }
  have sleds : (r.isolate c i).sleds = w.sleds := by
    unfold Run.isolate Run.cutToFloor
    obtain ⟨n, e⟩ := Run.post_eq c (.sled i) ((w.leaveQueue i).refreshHeld c)
    exact (congrArg Run.sleds e).trans rfl
  have ended (j : Sled) : (u.endBoostEarly i).sleds.get j = if j = i then (u.sleds.get i).boostEnded else u.sleds.get j :=
    Run.endBoostEarly_get ..
  rw [sleds]
  by_cases h : j = i
  · subst h
    rw [if_pos rfl]
    refine (modAt_get_self ..).trans ?_
    have own : u.sleds.get j = { r.sleds.get j with life := { (r.sleds.get j).life with
      state := .isolated, admission := none, containPending := false } } := modAt_get_self ..
    rw [ended, if_pos rfl, own, SledRun.boostEnded_of_life]
    rfl
  · rw [if_neg h]
    refine (modAt_get_other h ..).trans ?_
    rw [ended, if_neg h]
    exact modAt_get_other h ..

theorem Run.isolate_queue (c : Cfg) (i : Sled) (r : Run) :
    (r.isolate c i).queue.map Entry.seat = (r.queue.filter fun e => e.sled != i).map Entry.seat := by
  unfold Run.isolate Run.cutToFloor
  rw [Run.post_queue, Run.refreshHeld_seats]
  show (List.filter (fun e => e.sled != i) ((r.modLife i _).endBoostEarly i).queue).map Entry.seat = _
  rw [Run.endBoostEarly_queue]
  rfl

theorem Run.isolate_accounts (c : Cfg) (i : Sled) (r : Run) : Run.Accounts r (r.isolate c i) := .isolate ..

theorem Run.isolate_mode (c : Cfg) (i : Sled) (r : Run) : (r.isolate c i).mode = r.mode :=
  (congrArg Run.mode (r.isolate_accounts c i).frame).trans rfl

theorem Run.isolate_queued (c : Cfg) (i : Sled) (r : Run) : (r.isolate c i).queued i = false := by
  rw [← Bool.not_eq_true, Run.queued_iff]
  rintro ⟨e, he, rfl⟩
  have mem := List.mem_map_of_mem (f := Entry.seat) he
  rw [Run.isolate_queue] at mem
  obtain ⟨x, hx, same⟩ := List.mem_map.mp mem
  have other : x.sled ≠ e.sled := by simpa using (List.mem_filter.mp hx).2
  exact other (congrArg Prod.fst same)

theorem Run.held_of_mem_isolate {c : Cfg} {i : Sled} {r : Run} {e : Entry} (he : e ∈ (r.isolate c i).queue) (hk : e.cls = .floor) :
    e.held = false := by
  unfold Run.isolate Run.cutToFloor at he
  rw [Run.post_queue] at he
  rw [Run.held_of_mem_refreshHeld he, hk]
  rfl

theorem Run.queueSound_isolate {c : Cfg} {i : Sled} {r : Run} (h : r.queueSound) (service : (r.life i).state.inService = true) :
    (r.isolate c i).queueSound := by
  refine Run.queueSound_of_seats h ?_ (fun e he hk => Run.held_of_mem_isolate he hk) (fun j hj => ?_) fun hm => ⟨?_, fun j out => ?_⟩
  · rw [Run.isolate_queue]
    exact List.filter_sublist.map _
  · have other : j ≠ i := Run.ne_of_queued (Run.isolate_queued c i r) hj
    unfold Run.life Run.books
    rw [Run.isolate_get, if_neg other]
    exact ⟨rfl, rfl⟩
  · exact (r.isolate_mode c i) ▸ hm
  · have works := h.works service
    exact absurd ((r.isolate_mode c i) ▸ hm) works

theorem Run.queueSound_becomeTracking {c : Cfg} {i : Sled} {r : Run} (h : r.queueSound)
    (service : (r.life i).state.inService = true) (new : r.queued i = false) : (r.becomeTracking c i).queueSound :=
  Run.queueSound_joinIfShort (Run.queueSound_post (Run.queueSound_modLife h new (.inl service)))

theorem Run.Moves.queueSound {c : Cfg} {r t : Run} (m : Run.Moves c r t) (h : r.queueSound) : t.queueSound := by
  induction m with
  | same same => exact same.queueSound h
  | trans _ _ ih ik => exact ik (ih h)
  | refresh r => exact Run.queueSound_refreshHeld h
  | @endBoost r i running =>
    exact Run.queueSound_modBooks (f := fun b => { b with draining := b.draining + b.loan, loan := 0, boost := .rearm, boostFrames := 0 })
      h rfl
  | isolate held =>
    refine Run.queueSound_isolate h ?_
    rcases held with state | ⟨state, -⟩ <;> rw [state] <;> rfl
  | track held =>
    refine Run.queueSound_becomeTracking h ?_ (h.not_queued ?_ ?_)
    · rcases held with state | ⟨state, -⟩ <;> rw [state] <;> rfl
    · rcases held with state | ⟨state, -⟩ <;> rw [state] <;> nofun
    · rcases held with state | ⟨-, reserved⟩
      · rw [state]; nofun
      · exact fun _ => reserved
  | safe run => exact ⟨h.1, h.2.1, h.2.2.1, nofun⟩

/-! ## The service of the arbiter -/

theorem Run.queueSound_takeNewest {i : Sled} {r : Run} (h : r.queueSound) : (r.takeNewest i).queueSound := h

/-- A FLOOR entry that is served leaves, and its sled has its floor. -/
theorem Run.queueSound_serveFloor {c : Cfg} {i : Sled} {r : Run} (h : r.queueSound) : (r.serveFloor c i).1.queueSound := by
  unfold Run.serveFloor
  split
  · refine (Run.Moves.settleAdmission ..).queueSound (Run.queueSound_takeNewest ?_)
    have left := Run.queueSound_leaveQueue (i := i) h
    refine Run.queueSound_of_seats left (.refl _) (fun e he hk => (left.2.1 e he hk).2.2) (fun j hj => ?_) fun hm => ⟨hm, fun j out => ?_⟩
    · have other : j ≠ i := Run.ne_of_queued (r.leaveQueue_queued i) hj
      have sled : (r.modBooks i fun b => { b with grant := floorCost c i, floorReserved := true }).sleds.get j = r.sleds.get j :=
        modAt_get_other other ..
      exact ⟨congrArg (fun x => x.life.state) sled, congrArg (fun x => x.books.floorReserved) sled⟩
    · have life := r.modBooks_life (i := i) (f := fun b => { b with grant := floorCost c i, floorReserved := true }) (j := j)
      exact (congrArg (fun l => l.state.inService) life).trans out
  · exact h

theorem Run.queueSound_serveClass {c : Cfg} {i : Sled} {r : Run} (h : r.queueSound) : (r.serveClass c i).1.queueSound := by
  unfold Run.serveClass
  split
  · exact h
  · next k _ =>
    have raised : ((r.modBooks i fun b => { b with grant := costAt c i k }).takeNewest i).queueSound :=
      Run.queueSound_takeNewest (Run.queueSound_modBooks h rfl)
    dsimp only
    split
    · exact Run.queueSound_leaveQueue raised
    · exact Run.queueSound_refreshHeld raised

theorem Run.queueSound_serveEntry {c : Cfg} {e : Entry} {r : Run} (h : r.queueSound) : (r.serveEntry c e).1.queueSound := by
  unfold Run.serveEntry
  split
  · exact Run.queueSound_serveFloor h
  · exact Run.queueSound_serveClass h

theorem Run.queueSound_walk {c : Cfg} {n : Nat} {r : Run} (h : r.queueSound) : (r.walk c n).queueSound := by
  induction n generalizing r with
  | zero => exact h
  | succ n ih =>
    rw [Run.walk]
    split
    · exact h
    · split
      · exact ih (Run.queueSound_serveEntry h)
      · exact Run.queueSound_serveEntry h

theorem Run.queueSound_serve {c : Cfg} {r : Run} (h : r.queueSound) : (r.serve c).queueSound := Run.queueSound_walk (n := walkTurns) h

theorem Run.queueSound_serveIfDue {c : Cfg} {r : Run} (h : r.queueSound) : (r.serveIfDue c).queueSound := by
  unfold Run.serveIfDue
  split
  · exact Run.queueSound_serve h
  · exact h

end Sys2Proof.Machine
end

section
/-! SUPPORT. The raise queue stays in order under the effect of every command (R38 to R41). -/

namespace Sys2Proof.Machine

open Sys2Proof

theorem Run.queueSound_triggerIf {b : Bool} {r : Run} (h : r.queueSound) : (r.triggerIf b).queueSound := h

/-- A change of a sled that is not queued, whose state stays within the service or out of it. -/
theorem Run.queueSound_modSled {r : Run} {i : Sled} {f : SledRun → SledRun} (h : r.queueSound) (new : r.queued i = false)
    (service : (f (r.sleds.get i)).life.state.inService = false ∨ r.mode ≠ .config) : (r.modSled i f).queueSound := by
  refine Run.queueSound_of_seats h (.refl _) (fun e he hk => (h.2.1 e he hk).2.2) (fun j hj => ?_) fun hm => ⟨hm, fun j out => ?_⟩
  · have same : (r.modSled i f).sleds.get j = r.sleds.get j := modAt_get_other (Run.ne_of_queued new hj) ..
    exact ⟨congrArg (fun x => x.life.state) same, congrArg (fun x => x.books.floorReserved) same⟩
  · rcases service with out' | works
    · by_cases e : j = i
      · have own : (r.modSled i f).sleds.get j = f (r.sleds.get i) := e ▸ modAt_get_self ..
        exact (congrArg (fun x => x.life.state.inService) own).trans out'
      · have same : (r.modSled i f).sleds.get j = r.sleds.get j := modAt_get_other e ..
        exact (congrArg (fun x => x.life.state.inService) same).trans out
    · exact absurd hm works

/-! ## Revocation -/

theorem Run.queueSound_revoked {c : Cfg} {v : Revoked} (h : v.run.queueSound) (order : List Sled) :
    (order.foldl (revokeGrant c) v).run.queueSound := by
  refine List.foldlRecOn (motive := fun v : Revoked => v.run.queueSound) order _ h fun v hv i _ => ?_
  unfold revokeGrant
  dsimp only
  split
  · exact hv
  · exact Run.queueSound_modBooks hv rfl

theorem Run.queueSound_revokedLoans {v : Revoked} (h : v.run.queueSound) (order : List Sled) :
    (order.foldl revokeLoan v).run.queueSound := by
  refine List.foldlRecOn (motive := fun v : Revoked => v.run.queueSound) order _ h fun v hv i _ => ?_
  unfold revokeLoan
  split
  · exact hv
  · exact (Run.Moves.endBoostEarly (c := .default) i _).queueSound hv

theorem Run.queueSound_revoke {c : Cfg} {r : Run} (h : r.queueSound) : (r.revoke c).queueSound := by
  unfold Run.revoke
  dsimp only
  split
  · refine Run.queueSound_post (Run.queueSound_refreshHeld ?_)
    exact List.foldlRecOn (motive := Run.queueSound) _ _
      (Run.queueSound_revoked (Run.queueSound_revokedLoans h _) _) fun _ hr _ _ => Run.queueSound_joinIfShort hr
  · exact h

theorem Run.queueSound_resizePool {c : Cfg} {n : Nat} {r : Run} (h : r.queueSound) : (r.resizePool c n).queueSound :=
  Run.queueSound_triggerIf (Run.queueSound_revoke h)

theorem Run.queueSound_setPool {x : PoolSetting} {c : Cfg} {r : Run} (h : r.queueSound) : (r.setPool x c).queueSound := by
  unfold Run.setPool
  split
  · exact Run.queueSound_resizePool (r := { r with pool := { r.pool with leasePeriod := x.leasePeriod, fallback := x.fallback } }) h
  · exact h

theorem Run.queueSound_expireLease {c : Cfg} {r : Run} (h : r.queueSound) : (r.expireLease c).queueSound := by
  refine Run.queueSound_post ((Run.Moves.raise ..).queueSound ?_)
  exact Run.queueSound_resizePool (n := r.fallbackSize c) h

/-! ## Boundaries -/

theorem Run.queueSound_advanceReclaim {c : Cfg} {i : Sled} {r : Run} (h : r.queueSound) : (r.advanceReclaim c i).queueSound := by
  have counted (n : Nat) : (r.countReclaim n i).queueSound := Run.queueSound_modBooks h rfl
  unfold Run.advanceReclaim
  split
  · split
    · unfold Run.reclaim
      dsimp only
      split
      · exact counted 0
      · exact Run.queueSound_refreshHeld (Run.queueSound_joinIfShort (Run.queueSound_modBooks (counted 0) rfl))
    · exact counted _
  · exact counted 0

theorem Run.queueSound_advanceBoost {c : Cfg} {i : Sled} {r : Run} (h : r.queueSound) : (r.advanceBoost c i).queueSound := by
  unfold Run.advanceBoost
  split
  · exact h
  · exact Run.queueSound_modBooks h rfl
  · next running =>
    split
    · exact Run.queueSound_refreshHeld ((Run.Moves.endBoost (c := c) running).queueSound h)
    · exact Run.queueSound_modBooks h rfl

theorem Run.queueSound_boundary {c : Cfg} {i : Sled} {r : Run} (h : r.queueSound) : (r.boundary i c).queueSound := by
  have counted := (Run.Moves.modChan (c := c) i (fun x =>
    x.boundary c.globals.rampFrames c.levels (r.target c i) ((r.life i).state == .absent)) r).queueSound h
  exact Run.queueSound_advanceReclaim (Run.queueSound_advanceBoost (Run.queueSound_triggerIf (Run.queueSound_modBooks counted rfl)))

/-! ## Wants and boosts -/

theorem Run.queueSound_updateWant {i : Sled} {w : Level} {r : Run} (h : r.queueSound) : (r.updateWant i w).queueSound := by
  refine Run.queueSound_of_seats h (Run.updateWant_seats i w r ▸ .refl _) (fun e he hk => ?_) (fun _ _ => ⟨rfl, rfl⟩)
    fun hm => ⟨hm, fun _ => id⟩
  obtain ⟨x, hx, rfl⟩ := List.mem_map.mp he
  have kept : (if x.sled == i then { x with wanted := w } else x).cls = x.cls
      ∧ (if x.sled == i then { x with wanted := w } else x).held = x.held := by split <;> exact ⟨rfl, rfl⟩
  obtain ⟨cls, held⟩ := kept
  exact held.trans (h.2.1 x hx (cls.symm.trans hk)).2.2

theorem Run.queueSound_requeue {c : Cfg} {i : Sled} {k : Fin 4} {r : Run} (h : r.queueSound) (tracking : (r.life i).state = .tracking) :
    (r.requeue c i k).queueSound :=
  Run.queueSound_join (Run.queueSound_leaveQueue h) (r.leaveQueue_queued i) nofun fun _ => tracking

theorem Run.queueSound_queueWant {c : Cfg} {i : Sled} {w : Level} {k : Fin 4} {r : Run} (h : r.queueSound) :
    (r.queueWant c i w k).queueSound := by
  unfold Run.queueWant
  split
  · next tracking =>
    split
    · exact Run.queueSound_leaveQueue h
    · split
      · exact Run.queueSound_updateWant h
      · exact Run.queueSound_requeue h tracking
  · exact Run.queueSound_updateWant h
  all_goals exact h

theorem Run.queueSound_setWant {c : Cfg} {i : Sled} {w : Level} {k : Fin 4} {r : Run} (h : r.queueSound) :
    (r.setWant c i w k).queueSound :=
  Run.queueSound_refreshHeld (Run.queueSound_queueWant (Run.queueSound_modBooks h rfl))

theorem Run.queueSound_startBoost {c : Cfg} {i : Sled} {n : Nat} {r : Run} (h : r.queueSound) : (r.startBoost c i n).queueSound := by
  refine Run.queueSound_refreshHeld ?_
  have lent : (r.modBooks i fun b => { b with loan := costAt c i 0 - b.grant, boost := .running, boostFrames := n }).queueSound :=
    Run.queueSound_modBooks h rfl
  exact (Run.Moves.modChan (c := c) i (fun x => { x with boostStep := true }) _).queueSound lent

/-! ## Presence, admission and release -/

/-- A sled's records as its admission begins (R64). -/
def SledRun.admitting (c : Cfg) (i : Sled) (x : SledRun) : SledRun :=
  { x with
    life := { x.life with
      state := .admitting, containPending := false, admitTimeout := false, awaitA := (c.probe (probeA i)).enable
      awaitB := (c.probe (probeB i)).enable, admission := some c.globals.admitLimitMs }
    books := { x.books with grant := 0, floorReserved := false } }

/-- The sled has joined for its floor, and the queue has been served. -/
def Run.seated (c : Cfg) (i : Sled) (r : Run) : Run := ((r.modSled i (SledRun.admitting c i)).join c i .floor).serve c

/-- What follows the service moves nothing else. -/
theorem Run.Moves.startAdmission (c : Cfg) (i : Sled) (r : Run) : Run.Moves c (r.seated c i) (r.startAdmission c i) := by
  have begun : (r.modLife i fun l => { l with
      state := .admitting, containPending := false, admitTimeout := false, awaitA := (c.probe (probeA i)).enable
      awaitB := (c.probe (probeB i)).enable, admission := some c.globals.admitLimitMs }).modBooks i
        (fun b => { b with grant := 0, floorReserved := false }) = r.modSled i (SledRun.admitting c i) := by
    unfold Run.modBooks Run.modLife Run.modSled
    rw [modAt_modAt]
    unfold SledRun.admitting
    rfl
  unfold Run.startAdmission
  dsimp only
  rw [begun]
  exact (Run.Moves.of_frame rfl).trans ((Run.Moves.foldl (fun r p => .firstDue p r) _ _).trans ((Run.Moves.followAlert ..).trans (.post ..)))

theorem Run.queueSound_startAdmission {c : Cfg} {i : Sled} {r : Run} (h : r.queueSound) (works : r.mode ≠ .config)
    (new : r.queued i = false) : (r.startAdmission c i).queueSound := by
  have own : (r.modSled i (SledRun.admitting c i)).sleds.get i = (r.sleds.get i).admitting c i := modAt_get_self ..
  refine (Run.Moves.startAdmission c i r).queueSound (Run.queueSound_serve ?_)
  refine Run.queueSound_join (Run.queueSound_modSled h new (.inr works)) new (fun _ => ?_) fun other => absurd rfl other
  exact ⟨congrArg (fun x => x.life.state) own, congrArg (fun x => x.books.floorReserved) own⟩

theorem Run.queueSound_teardown {c : Cfg} {i : Sled} {r : Run} (h : r.queueSound) : (r.teardown c i).queueSound := by
  let gone (l : Life) : Life := { l with
    state := .absent, admission := none, awaitA := false, awaitB := false, containPending := false, admitTimeout := false }
  have removed : ((r.modLife i gone).zeroBooks i).queueSound := by
    have left := Run.queueSound_leaveQueue (i := i) h
    have new := r.leaveQueue_queued i
    have absent : ((r.leaveQueue i).modLife i gone).queueSound :=
      Run.queueSound_modSled (f := fun x => { x with life := gone x.life }) left new (.inl rfl)
    refine Run.queueSound_modSled (f := fun x => { x with books := .initial }) absent new (.inl ?_)
    exact congrArg (fun x => x.life.state.inService) (modAt_get_self i _ (r.leaveQueue i).sleds)
  refine Run.Moves.queueSound (c := c) ?_ removed
  exact (Run.Moves.modChan ..).trans ((Run.Moves.onLanes (.dropProbes ..)).trans
    ((Run.Moves.modAlert ..).trans ((Run.Moves.modTherm ..).trans (Run.Moves.post ..))))

theorem Run.queueSound.not_queued_of_out {r : Run} (h : r.queueSound) {i : Sled} (out : (r.life i).state.inService = false) :
    r.queued i = false := by
  refine h.not_queued ?_ ?_ <;> intro e <;> rw [e] at out <;> cases out

theorem Run.queueSound_presenceEvent {c : Cfg} {i : Sled} {b : Bool} {r : Run} (h : r.queueSound) : (r.presenceEvent c i b).queueSound := by
  unfold Run.presenceEvent
  split
  · next absent =>
    have new := h.not_queued_of_out (i := i) (by rw [absent]; rfl)
    split
    · next works => exact Run.queueSound_startAdmission h ((Mode.works_iff _).mp works) new
    · exact Run.queueSound_modSled (f := fun x => { x with life := { x.life with state := .standby } }) h new (.inl rfl)
  all_goals first | exact Run.queueSound_teardown h | exact h

theorem Run.queueSound_settlePresence {c : Cfg} {i : Sled} {r : Run} (h : r.queueSound) : (r.settlePresence c i).queueSound := by
  have settled := (Run.Moves.modLife (c := c) (r := r) (i := i)
    (f := fun l => { l with settle := none, present := (r.life i).prs == .low }) fun _ => rfl).queueSound h
  unfold Run.settlePresence
  dsimp only
  split
  · exact Run.queueSound_presenceEvent settled
  · exact settled

theorem Run.queueSound_release {c : Cfg} {i : Sled} {r : Run} (h : r.queueSound) : (r.release c i).queueSound := by
  unfold Run.release
  split
  · next isolated =>
    have state : ((r.modBooks i fun b => { b with recount := true }).life i).state = .isolated := by
      rw [Run.modBooks_life, isolated]
    exact (Run.Moves.track (c := c) (.inl state)).queueSound (Run.queueSound_modBooks h rfl)
  · exact (Run.Moves.modLife (c := c) (f := fun l => { l with containPending := false }) fun _ => rfl).queueSound h
  all_goals exact h

theorem Run.queueSound_sledWritten {c : Cfg} {i : Sled} {x : SledCfg} {r : Run} (h : r.queueSound) (config : r.mode = .config) :
    (r.sledWritten c i x).queueSound := by
  have new := h.not_queued_of_out ((h.2.2.2 config).2 i)
  unfold Run.sledWritten Run.changeEnable
  split
  · exact h
  · split
    · refine Run.queueSound_modSled
        (f := fun x => { x with life := { x.life with state := if x.life.present then .standby else .absent } }) h new (.inl ?_)
      dsimp only
      split <;> rfl
    · refine (Run.Moves.modChan (c := c) ..).queueSound ?_
      exact Run.queueSound_modSled (f := fun x => { x with life := { x.life with state := .disabled } }) h new (.inl rfl)

/-! ## Modes -/

/-- No move takes the part out of service. -/
theorem Run.Moves.works {c : Cfg} {r t : Run} (m : Run.Moves c r t) (h : r.mode ≠ .config) : t.mode ≠ .config := by
  induction m with
  | same same => rw [same.mode]; exact h
  | trans _ _ ih ik => exact ik (ih h)
  | refresh | endBoost => exact h
  | isolate => rw [Run.isolate_mode]; exact h
  | @track r i =>
    rw [congrArg Run.mode (Run.Accounts.becomeTracking c i r).frame]
    exact h
  | safe => nofun

theorem Run.seated_mode (c : Cfg) (i : Sled) (r : Run) : (r.seated c i).mode = r.mode :=
  (congrArg Run.mode (Run.Accounts.serve c ((r.modSled i (SledRun.admitting c i)).join c i .floor)).frame).trans rfl

theorem Run.startAdmission_works {c : Cfg} {i : Sled} {r : Run} (h : r.mode ≠ .config) : (r.startAdmission c i).mode ≠ .config :=
  (Run.Moves.startAdmission c i r).works (by rw [Run.seated_mode]; exact h)

theorem Run.queueSound_enterRun {c : Cfg} {r : Run} (h : r.queueSound) : (r.enterRun c).queueSound := by
  refine Run.queueSound_post ?_
  refine (List.foldlRecOn (motive := fun u : Run => u.queueSound ∧ u.mode ≠ .config) allSleds _ ⟨?_, fun e => ?_⟩ fun u hu i _ => ?_).1
  · exact ⟨h.1, h.2.1, h.2.2.1, nofun⟩
  · cases e
  · obtain ⟨sound, works⟩ := hu
    split
    · next standby =>
      have standby : (u.life i).state = .standby := by simpa using standby
      exact ⟨Run.queueSound_startAdmission sound works (sound.not_queued_of_out (by rw [standby]; rfl)), Run.startAdmission_works works⟩
    · exact ⟨sound, works⟩

/-- A change of every sled that leaves its books and its state. -/
theorem Run.SameAccounts.mapSleds {r : Run} {f : Sled → SledRun → SledRun}
    (units : ∀ i x, (f i x).books.grant = x.books.grant ∧ (f i x).books.loan = x.books.loan ∧ (f i x).books.draining = x.books.draining
      ∧ (f i x).books.floorReserved = x.books.floorReserved ∧ (f i x).books.boost = x.books.boost)
    (state : ∀ i x, (f i x).life.state = x.life.state) : Run.SameAccounts r { r with sleds := mapAt f r.sleds } := by
  refine ⟨rfl, rfl, rfl, rfl, rfl, fun i => ?_, fun i => ?_⟩
  · have get : Run.books { r with sleds := mapAt f r.sleds } i = (f i (r.sleds.get i)).books := congrArg SledRun.books (mapAt_get ..)
    rw [get]
    exact units ..
  · have get : Run.life { r with sleds := mapAt f r.sleds } i = (f i (r.sleds.get i)).life := congrArg SledRun.life (mapAt_get ..)
    rw [get]
    exact state ..

theorem Run.queueSound_runFromSafe {c : Cfg} {r : Run} (h : r.queueSound) : (r.runFromSafe c).queueSound := by
  refine Run.queueSound_post (Run.queueSound_refreshHeld ?_)
  have recounted := (Run.SameAccounts.mapSleds (r := r) (f := fun _ x => SledRun.recount x)
    (fun _ _ => ⟨rfl, rfl, rfl, rfl, rfl⟩) fun _ _ => rfl).queueSound h
  exact ⟨recounted.1, recounted.2.1, recounted.2.2.1, nofun⟩

theorem SledRun.leaveService_out (n : Nat) (x : SledRun) : (x.leaveService n).life.state.inService = false := by
  unfold SledRun.leaveService
  split
  · rfl
  · next out => exact Bool.not_eq_true _ ▸ out

theorem Run.toConfig_queue (c : Cfg) (r : Run) : (r.toConfig c).queue = [] := (congrArg Run.queue (r.toConfig_frame c)).trans rfl

theorem Run.toConfig_out (c : Cfg) (r : Run) (i : Sled) : ((r.toConfig c).life i).state.inService = false := by
  unfold Run.life
  rw [Run.toConfig_get]
  exact SledRun.leaveService_out ..

theorem Run.queueSound_toConfig (c : Cfg) (r : Run) : (r.toConfig c).queueSound := by
  have empty := r.toConfig_queue c
  exact ⟨by simp [empty], by simp [empty], by simp [empty], fun _ => ⟨empty, r.toConfig_out c⟩⟩

/-! ## The zone's writes -/

namespace Run.Moves

theorem zoneFieldChange (b a : Cfg) (z : ZoneNo) (r : Run) : Run.Moves a r (r.zoneFieldChange b a z) := by
  unfold Run.zoneFieldChange
  split
  · exact assertZone ..
  · exact deassertZone ..
  · exact refl r
  · exact refl r

theorem zoneWrite (b a : Cfg) (r : Run) : Run.Moves a r (r.zoneWrite b a) := by
  unfold Run.zoneWrite
  dsimp only
  have fields := (zoneFieldChange b a 0 r).trans (zoneFieldChange b a 1 _)
  split
  · exact fields.trans (endEmergency _)
  · exact fields

theorem restartFrame {c : Cfg} (r : Run) : Run.Moves c r r.restartFrame := by
  refine (same (Run.SameAccounts.mapSleds (f := fun _ x => { x with chan := Channel.idle x.chan })
    (fun _ _ => ⟨rfl, rfl, rfl, rfl, rfl⟩) fun _ _ => rfl)).trans ?_
  exact of_frame rfl

theorem loadDwells {c : Cfg} (n : Nat) (r : Run) : Run.Moves c r (r.loadDwells n) :=
  same (Run.SameAccounts.mapSleds (f := fun _ x => { x with chan := { x.chan with dwell := n } })
    (fun _ _ => ⟨rfl, rfl, rfl, rfl, rfl⟩) fun _ _ => rfl)

theorem globalsWritten (c : Cfg) (g : Globals) (r : Run) : Run.Moves { c with globals := g } r (r.globalsWritten c g) := by
  unfold Run.globalsWritten
  dsimp only
  refine .trans ?_ (zoneWrite ..)
  have restarted (b : Prop) [Decidable b] : Run.Moves { c with globals := g } r (if b then r else r.restartFrame) := by
    split
    · exact refl r
    · exact restartFrame r
  split
  · exact restarted _
  · exact (restarted _).trans (loadDwells ..)

theorem settleZone {c : Cfg} (z : ZoneNo) (r : Run) : Run.Moves c r (r.settleZone c z) := by
  unfold Run.settleZone
  dsimp only
  have accepted : Run.Moves c r { r with zone := { r.zone with
      filters := modAt z (fun f => { f with accepted := f.pin, settle := none }) r.zone.filters } } := of_frame rfl
  split
  · exact accepted
  · split
    · exact accepted.trans (assertZone ..)
    · exact accepted.trans (deassertZone _)

/-! ## The channel, the pins and the counts -/

theorem clock (k : Clock) {c : Cfg} (r : Run) : Run.Moves c r { r with clock := k } := of_frame rfl

end Run.Moves

theorem Run.queueSound_refclk {s : State} (h : s.run.queueSound) : s.refclk.run.queueSound := by
  have run := s.refclk_run
  refine Run.queueSound_of_same h ((congrArg Run.queue run).trans rfl) s.refclk_mode (fun i => ?_) fun i => ?_
  · exact congrArg (fun x => x.life.state) (s.refclk_sled_counts i).1
  · exact congrArg (fun x => x.books.floorReserved) (s.refclk_sled_counts i).1

theorem Run.softReset_atReset (c : Cfg) (r : Run) : (r.softReset c).AtReset c := (Run.initial_atReset ..).post ..

theorem Run.pinReset_atReset (b : Bool) (r : Run) : (r.pinReset b).AtReset .default := Run.initial_atReset ..

/-- Every effect of a command keeps the raise queue in order. -/
theorem Does.queueSound {c c' : Cfg} {r r' : Run} {i : Instr} (d : Does c r i c' r') (h : r.queueSound) : r'.queueSound := by
  have moves {k : Cfg} {t : Run} (m : Run.Moves k r t) : t.queueSound := m.queueSound h
  cases d with
  | keep => exact h
  | linkFault _ e => exact moves (.raise (c := c) ..)
  | powerOn => exact (Run.pinReset_atReset ..).queueSound
  | rstNLow => exact (Run.pinReset_atReset ..).queueSound
  | resetRelease rate => exact ((Run.pinReset_atReset ..).post ..).queueSound
  | softReset => exact (Run.softReset_atReset ..).queueSound
  | boundary i => exact Run.queueSound_boundary h
  | sectionEnd i => exact moves (.modChan (c := c) ..)
  | expireLease => exact Run.queueSound_expireLease h
  | setPrs i l => exact moves (.modLife (c := c) fun _ => rfl)
  | presenceLine i l => exact moves (.modLife (c := c) fun _ => rfl)
  | settlePresence i => exact Run.queueSound_settlePresence h
  | admissionExpired i => exact moves (.admissionExpired (c := c) ..)
  | settleZone z => exact moves (.settleZone (c := c) ..)
  | releaseExpired => exact moves ((Run.Moves.setZone (c := c) ..).trans (.post ..))
  | setAlr i l => exact moves (.modAlert (c := c) ..)
  | sampleAlert i l => exact moves (.sampleAlert (c := c) ..)
  | acceptSample i => exact moves ((Run.Moves.modAlert (c := c) ..).trans (.acceptAlert ..))
  | sustain i => exact moves (.sustain (c := c) ..)
  | stick i => exact moves (.stick (c := c) ..)
  | hotExpired i => exact moves (.hotExpired (c := c) ..)
  | dueEvent p => exact moves (.dueEvent (c := c) ..)
  | initEnds n p => exact moves (.onLanes (c := c) (.initEnds ..))
  | notAcknowledged n k p => exact moves (.notAcknowledged (c := c) ..)
  | settleEnds n p => exact moves (.onLanes (c := c) (.beginWaitOrRead ..))
  | waitEnds n p o => exact moves (.endPoll (c := c) ..)
  | readEnds n b0 b1 p o => exact moves ((Run.Moves.onLanes (c := c) (.closeOnLane ..)).trans (.endPoll ..))
  | transactionExpired n => exact moves (.transactionExpired (c := c) ..)
  | abortEnds n => exact moves (.onLanes (c := c) ((Run.OnLanes.closeOnLane ..).trans (.freeLane ..)))
  | attemptChecked n l => exact moves (.attemptChecked (c := c) ..)
  | attemptTimesOut n => exact moves ((Run.Moves.onLanes (c := c) (.abandonLane ..)).trans (.attemptFailed ..))
  | enterRun => exact Run.queueSound_enterRun h
  | runFromSafe => exact Run.queueSound_runFromSafe h
  | toConfig => exact Run.queueSound_toConfig ..
  | writeGlobals t p => exact moves (.globalsWritten ..)
  | writeSled t p config => exact Run.queueSound_sledWritten h config
  | setPool => exact Run.queueSound_setPool h
  | setWant => exact Run.queueSound_setWant h
  | startBoost => exact Run.queueSound_startBoost h
  | release => exact Run.queueSound_release h
  | clearZone => exact moves (.endEmergency (c := c) ..)
  | resetLane t p n => exact moves (.onLanes (c := c) (.beginAttempt ..))
  | clearAlert t x i => exact moves (.modAlert (c := c) ..)
  | setZonePin | zoneLine | failValidation | writeLevels | writeProbe | writeScript | writeRouting | setNotices | renewLease
  | queryProbe | clearFaults => exact h

end Sys2Proof.Machine

open Sys2Proof Sys2Proof.Machine

/-- Settles O7: every effect of a command, the service after it and the passing of time keep the queue in order. -/
theorem raiseQueueStaysInOrder : Obligations.RaiseQueueStaysInOrder := by
  unfold Obligations.RaiseQueueStaysInOrder
  intro s t h ht
  exact step_preserves (P := fun _ r => r.queueSound) ⟨fun _ _ _ => id, fun _ _ => Run.queueSound_serveIfDue⟩
    (fun _ _ _ _ _ d => d.queueSound) (fun _ _ _ => id) (fun _ _ _ => id) (fun _ => Run.queueSound_refclk) ht h
end

section
/-! SUPPORT. The books stay sound (R23 to R25, R35, R46, R52): sled by sled and in their sum. -/

namespace Sys2Proof.Machine

open Sys2Proof

/-! ## Costs -/

/-- The costs of an enabled sled that validation passes fall from level to level (R22). -/
theorem costAt_antitone {c : Cfg} {i : Sled} (fall : costsFall c i) (enabled : (c.sled i).enable = true) {a b : Level} (h : a ≤ b) :
    costAt c i b ≤ costAt c i a := by
  obtain ⟨b, hb⟩ := b
  induction b with
  | zero =>
    obtain rfl : a = ⟨0, hb⟩ := Fin.ext (Nat.le_zero.mp h)
    exact Nat.le_refl _
  | succ b ih =>
    by_cases last : a = ⟨b + 1, hb⟩
    · exact last ▸ Nat.le_refl _
    · have before : a ≤ ⟨b, by omega⟩ := Nat.le_of_lt_succ (Nat.lt_of_le_of_ne h fun e => last (Fin.ext e))
      exact Nat.le_trans (fall enabled ⟨b, by omega⟩) (ih (by omega) before)

theorem floorCost_le_costAt {c : Cfg} {i : Sled} (fall : costsFall c i) (enabled : (c.sled i).enable = true) (k : Level) :
    floorCost c i ≤ costAt c i k := costAt_antitone fall enabled (Fin.le_last k)

/-! ## The books of one sled -/

/-- The books of a sled are sound by themselves: `raised` says that it stands in the raise order, `lending` in the boost list. -/
structure SledRun.Sound (c : Cfg) (i : Sled) (raised lending : Prop) (x : SledRun) : Prop where
  enabled : (c.sled i).enable = false → x.life.state = .disabled
  out : x.life.state.inService = false → x.books.grant = 0 ∧ x.books.loan = 0 ∧ x.books.draining = 0
  admitting : x.life.state = .admitting → x.books.grant = if x.books.floorReserved then floorCost c i else 0
  floor : x.life.state = .tracking ∨ x.life.state = .isolated → floorCost c i ≤ x.books.grant
  raised : floorCost c i < x.books.grant → raised
  loan : 0 < x.books.loan → x.books.boost = .running
  boost : x.books.boost = .running → lending ∧ x.life.state = .tracking

def Run.SledSound (c : Cfg) (r : Run) (i : Sled) : Prop := SledRun.Sound c i (i ∈ r.raiseOrder) (i ∈ r.boostList) (r.sleds.get i)

/-- What a sled's grant and loan take of the pool (R23). -/
def Run.lent (r : Run) (i : Sled) : Nat := (r.books i).grant + (r.books i).loan

theorem Run.sum_lent (r : Run) : r.sumGrants + r.sumLoans = sumSleds r.lent := by
  unfold Run.sumGrants Run.sumLoans Run.lent
  exact sumSleds_add fun _ => rfl

theorem Run.booksSound_iff {c : Cfg} {r : Run} :
    r.booksSound c ↔ (r.mode ≠ .config → costsFault c = none) ∧ (∀ i, r.SledSound c i) ∧ sumSleds r.lent ≤ r.pool.size := by
  rw [← Run.sum_lent]
  constructor
  · rintro ⟨costs, enabled, out, admitting, floor, order, loan, boost, fits⟩
    exact ⟨costs, fun i => ⟨enabled i, out i, admitting i, floor i, order i, loan i, boost i⟩, fits⟩
  · rintro ⟨costs, each, fits⟩
    exact ⟨costs, fun i => (each i).enabled, fun i => (each i).out, fun i => (each i).admitting, fun i => (each i).floor,
      fun i => (each i).raised, fun i => (each i).loan, fun i => (each i).boost, fits⟩

/-- The books do not hang on anything else of the sled, nor on which sleds besides stand in the lists. -/
theorem SledRun.Sound.of_same {c : Cfg} {i : Sled} {raised lending raised' lending' : Prop} {x y : SledRun}
    (h : SledRun.Sound c i raised lending x)
    (units : y.books.grant = x.books.grant ∧ y.books.loan = x.books.loan ∧ y.books.draining = x.books.draining
      ∧ y.books.floorReserved = x.books.floorReserved ∧ y.books.boost = x.books.boost)
    (state : y.life.state = x.life.state) (order : raised → raised') (boosts : lending → lending') :
    SledRun.Sound c i raised' lending' y := by
  obtain ⟨grant, loan, draining, reserved, boost⟩ := units
  constructor
  · rw [state]; exact h.enabled
  · rw [state, grant, loan, draining]; exact h.out
  · rw [state, grant, reserved]; exact h.admitting
  · rw [state, grant]; exact h.floor
  · rw [grant]; exact fun above => order (h.raised above)
  · rw [loan, boost]; exact h.loan
  · rw [boost, state]
    exact fun running => ⟨boosts (h.boost running).1, (h.boost running).2⟩

theorem Run.SledSound.of_get {c : Cfg} {r t : Run} {i : Sled} (h : r.SledSound c i) (same : t.sleds.get i = r.sleds.get i)
    (order : i ∈ r.raiseOrder → i ∈ t.raiseOrder) (boosts : i ∈ r.boostList → i ∈ t.boostList) : t.SledSound c i :=
  SledRun.Sound.of_same h (by rw [same]; exact ⟨rfl, rfl, rfl, rfl, rfl⟩) (by rw [same]) order boosts

namespace SledRun.Sound

variable {c : Cfg} {i : Sled} {raised lending : Prop} {x : SledRun} (h : SledRun.Sound c i raised lending x)
include h

/-- A sled in service is enabled. -/
theorem enabled_of_ne (state : x.life.state ≠ .disabled) : (c.sled i).enable = true := by
  refine Classical.byContradiction fun off => ?_
  exact state (h.enabled (Bool.not_eq_true _ ▸ off))

theorem loan_zero (still : x.books.boost ≠ .running) : x.books.loan = 0 := Nat.eq_zero_of_not_pos fun some => still (h.loan some)

/-- A boost that ends leaves no loan (R55). -/
theorem boostEnded {lending' : Prop} : SledRun.Sound c i raised lending' x.boostEnded := by
  unfold SledRun.boostEnded
  split
  · next running =>
    have tracking := (h.boost running).2
    refine ⟨h.enabled, fun out => ?_, h.admitting, h.floor, h.raised, nofun, nofun⟩
    rw [show x.life.state = .tracking from tracking] at out
    cases out
  · next still =>
    exact ⟨h.enabled, h.out, h.admitting, h.floor, h.raised, h.loan, fun running => absurd running still⟩

/-- A sled that held its floor is isolated with it (R69, R70). -/
theorem isolated {lending' : Prop}
    (held : x.life.state = .tracking ∨ x.life.state = .admitting ∧ x.books.floorReserved = true) :
    SledRun.Sound c i raised lending' (x.isolated (floorCost c i)) := by
  have ended : SledRun.Sound c i raised lending' x.boostEnded := h.boostEnded
  have floor : floorCost c i ≤ x.boostEnded.books.grant := by
    rw [(SledRun.boostEnded_units x).1]
    rcases held with tracking | ⟨admitting, reserved⟩
    · exact h.floor (.inl tracking)
    · exact Nat.le_of_eq ((h.admitting admitting).trans (if_pos reserved)).symm
  have grant : (x.isolated (floorCost c i)).books.grant = floorCost c i := Nat.min_eq_right floor
  have still : x.boostEnded.books.boost ≠ .running := SledRun.boostEnded_boost x
  refine ⟨fun off => ?_, nofun, nofun, fun _ => Nat.le_of_eq grant.symm,
    fun above => absurd grant (Nat.ne_of_gt above), fun some => ?_, fun running => ?_⟩
  · have state := h.enabled off
    rcases held with tracking | ⟨admitting, -⟩
    · cases tracking.symm.trans state
    · cases admitting.symm.trans state
  · exact absurd (ended.loan_zero still) (Nat.pos_iff_ne_zero.mp some)
  · exact absurd running still

/-- A sled that holds its floor becomes TRACKING (R65, R71). -/
theorem tracking (held : x.life.state = .isolated ∨ x.life.state = .admitting ∧ x.books.floorReserved = true) (l : Life)
    (state : l.state = .tracking) : SledRun.Sound c i raised lending { x with life := l } := by
  have service : x.life.state ≠ .disabled := by
    rcases held with e | ⟨e, -⟩ <;> rw [e] <;> nofun
  have floor : floorCost c i ≤ x.books.grant := by
    rcases held with isolated | ⟨admitting, reserved⟩
    · exact h.floor (.inr isolated)
    · exact Nat.le_of_eq ((h.admitting admitting).trans (if_pos reserved)).symm
  refine ⟨fun off => ?_, fun out => ?_, fun admitting => ?_, fun _ => floor, h.raised, h.loan, fun running => ?_⟩
  · exact absurd (h.enabled off) service
  · rw [show ({ x with life := l } : SledRun).life.state = .tracking from state] at out
    cases out
  · cases (state.symm.trans admitting)
  · exact ⟨(h.boost running).1, state⟩

end SledRun.Sound

/-! ## Sums -/

theorem Run.lent_of_get {r t : Run} {i : Sled} (h : t.sleds.get i = r.sleds.get i) : t.lent i = r.lent i := by
  unfold Run.lent Run.books
  rw [h]

/-- Headroom and what is lent fit the pool together. -/
theorem Run.headroom_le (r : Run) : r.headroom + sumSleds r.lent ≤ r.pool.size := by
  rw [← r.sum_lent]
  unfold Run.headroom
  omega

/-- A change that lends no sled more. -/
theorem Run.booksSound_of_each {c : Cfg} {r t : Run} (h : r.booksSound c) (mode : t.mode ≠ .config → r.mode ≠ .config)
    (size : t.pool.size = r.pool.size) (each : ∀ i, t.SledSound c i) (lent : ∀ i, t.lent i ≤ r.lent i) : t.booksSound c := by
  obtain ⟨costs, -, fits⟩ := Run.booksSound_iff.mp h
  exact Run.booksSound_iff.mpr ⟨fun works => costs (mode works), each, size ▸ Nat.le_trans (sumSleds_le lent) fits⟩

/-- A change of one sled, which lends it no more or what headroom covers. -/
theorem Run.booksSound_of_one {c : Cfg} {r t : Run} {i : Sled} (h : r.booksSound c) (mode : t.mode = r.mode)
    (size : t.pool.size = r.pool.size) (other : ∀ j, j ≠ i → t.sleds.get j = r.sleds.get j)
    (order : ∀ j, j ≠ i → j ∈ r.raiseOrder → j ∈ t.raiseOrder) (boosts : ∀ j, j ≠ i → j ∈ r.boostList → j ∈ t.boostList)
    (own : t.SledSound c i) (lent : t.lent i ≤ r.lent i ∨ (t.lent i : Int) ≤ r.lent i + r.headroom) : t.booksSound c := by
  obtain ⟨costs, each, fits⟩ := Run.booksSound_iff.mp h
  have total := sumSleds_of_other (f := t.lent) (g := r.lent) (i := i) fun j hj => Run.lent_of_get (other j hj)
  have room := r.headroom_le
  refine Run.booksSound_iff.mpr ⟨fun works => costs (mode ▸ works), fun j => ?_, ?_⟩
  · by_cases e : j = i
    · exact e ▸ own
    · exact (each j).of_get (other j e) (order j e) (boosts j e)
  · rw [size]
    rcases lent with less | covered <;> omega

/-- A change of one sled's records. -/
theorem Run.booksSound_modSled {c : Cfg} {r : Run} {i : Sled} {f : SledRun → SledRun} (h : r.booksSound c)
    (own : SledRun.Sound c i (i ∈ r.raiseOrder) (i ∈ r.boostList) (f (r.sleds.get i)))
    (lent : (f (r.sleds.get i)).books.grant + (f (r.sleds.get i)).books.loan ≤ r.lent i) : (r.modSled i f).booksSound c := by
  have get : (r.modSled i f).sleds.get i = f (r.sleds.get i) := modAt_get_self ..
  refine Run.booksSound_of_one (i := i) h rfl rfl (fun j hj => modAt_get_other hj ..) (fun _ _ => id) (fun _ _ => id) ?_ (.inl ?_)
  · unfold Run.SledSound
    rw [get]
    exact own
  · unfold Run.lent Run.books
    rw [get]
    exact lent

theorem Run.booksSound.sled {c : Cfg} {r : Run} (h : r.booksSound c) (i : Sled) :
    SledRun.Sound c i (i ∈ r.raiseOrder) (i ∈ r.boostList) (r.sleds.get i) := (Run.booksSound_iff.mp h).2.1 i

/-! ## Moves -/

theorem Run.SameAccounts.lent {r t : Run} (same : Run.SameAccounts r t) (i : Sled) : t.lent i = r.lent i := by
  obtain ⟨grant, loan, -⟩ := same.units i
  unfold Run.lent
  rw [grant, loan]

theorem Run.SameAccounts.sledSound {c : Cfg} {r t : Run} (same : Run.SameAccounts r t) {i : Sled} (h : r.SledSound c i) :
    t.SledSound c i :=
  SledRun.Sound.of_same h (same.units i) (same.state i) (by rw [same.raiseOrder]; exact id) (by rw [same.boostList]; exact id)

theorem Run.SameAccounts.booksSound {c : Cfg} {r t : Run} (same : Run.SameAccounts r t) (h : r.booksSound c) : t.booksSound c :=
  Run.booksSound_of_each h (fun works => same.mode ▸ works) same.size (fun i => same.sledSound (h.sled i)) fun i => Nat.le_of_eq (same.lent i)

theorem Run.booksSound_endBoost {c : Cfg} {r : Run} {i : Sled} (h : r.booksSound c) (running : (r.books i).boost = .running) :
    (r.endBoost i).booksSound c := by
  have get : (r.endBoost i).sleds.get i = { r.sleds.get i with
      books := { r.books i with
        draining := (r.books i).draining + (r.books i).loan, loan := 0, boost := .rearm, boostFrames := 0 } } := modAt_get_self ..
  refine Run.booksSound_of_one (i := i) h rfl rfl (fun j hj => modAt_get_other hj ..) (fun _ _ => id) (fun j hj hm => ?_) ?_ (.inl ?_)
  · exact List.mem_filter.mpr ⟨hm, by simpa using hj⟩
  · have sound := h.sled i
    unfold Run.SledSound
    rw [get]
    refine ⟨sound.enabled, fun out => ?_, sound.admitting, sound.floor, sound.raised, nofun, nofun⟩
    have tracking : (r.sleds.get i).life.state = .tracking := (sound.boost running).2
    dsimp only at out
    rw [tracking] at out
    cases out
  · unfold Run.lent Run.books
    rw [get]
    exact Nat.le_add_right ..

theorem Run.isolate_lists (c : Cfg) (i : Sled) (r : Run) :
    (r.isolate c i).raiseOrder = r.raiseOrder ∧ ∀ j, j ≠ i → j ∈ r.boostList → j ∈ (r.isolate c i).boostList := by
  let u := r.modLife i fun l => { l with state := .isolated, admission := none, containPending := false }
  obtain ⟨n, e⟩ := Run.post_eq c (.sled i) (u.cutToFloor c i)
  have whole : r.isolate c i = _ := e
  rw [whole]
  constructor
  · exact (congrArg Run.raiseOrder (u.endBoostEarly_frame i)).trans rfl
  · intro j hj hm
    show j ∈ (u.endBoostEarly i).boostList
    unfold Run.endBoostEarly
    split
    · exact List.mem_filter.mpr ⟨hm, by simpa using hj⟩
    · exact hm

theorem SledRun.isolated_lent (n : Nat) (x : SledRun) :
    (x.isolated n).books.grant + (x.isolated n).books.loan ≤ x.books.grant + x.books.loan := by
  have units := SledRun.boostEnded_units x
  have loan : x.boostEnded.books.loan ≤ x.books.loan := by
    unfold SledRun.boostEnded
    split
    · exact Nat.zero_le _
    · exact Nat.le_refl _
  show min x.boostEnded.books.grant n + x.boostEnded.books.loan ≤ _
  omega

theorem Run.booksSound_isolate {c : Cfg} {r : Run} {i : Sled} (h : r.booksSound c)
    (held : (r.life i).state = .tracking ∨ (r.life i).state = .admitting ∧ (r.books i).floorReserved = true) :
    (r.isolate c i).booksSound c := by
  obtain ⟨order, boosts⟩ := r.isolate_lists c i
  have own : (r.isolate c i).sleds.get i = (r.sleds.get i).isolated (floorCost c i) := (r.isolate_get c i i).trans (if_pos rfl)
  refine Run.booksSound_of_one (i := i) h (r.isolate_mode c i) ?_ (fun j hj => (r.isolate_get c i j).trans (if_neg hj))
    (fun j _ hm => order ▸ hm) boosts ?_ (.inl ?_)
  · exact (congrArg (fun x : Run => x.pool.size) (r.isolate_accounts c i).frame).trans rfl
  · unfold Run.SledSound
    rw [own, order]
    exact (h.sled i).isolated held
  · unfold Run.lent Run.books
    rw [own]
    exact SledRun.isolated_lent ..

theorem Run.booksSound_post {c d : Cfg} {k : Notice} {r : Run} (h : r.booksSound c) : (r.post d k).booksSound c := by
  obtain ⟨n, e⟩ := r.post_eq d k
  rw [e]
  exact h

theorem Run.booksSound_joinIfShort {c d : Cfg} {i : Sled} {r : Run} (h : r.booksSound c) : (r.joinIfShort d i).booksSound c := by
  unfold Run.joinIfShort
  split
  · exact h
  · exact h

theorem Run.Moves.booksSound {c : Cfg} {r t : Run} (m : Run.Moves c r t) (h : r.booksSound c) : t.booksSound c := by
  induction m with
  | same same => exact same.booksSound h
  | trans _ _ ih ik => exact ik (ih h)
  | refresh r => exact h
  | endBoost running => exact Run.booksSound_endBoost h running
  | isolate held => exact Run.booksSound_isolate h held
  | @track r i held =>
    refine Run.booksSound_joinIfShort (Run.booksSound_post ?_)
    exact Run.booksSound_modSled (f := fun x => { x with life := { x.life with state := .tracking, admission := none } }) h
      ((h.sled i).tracking held _ rfl) (Nat.le_refl _)
  | safe run =>
    refine Run.booksSound_of_each h (fun _ config => ?_) rfl h.sled fun _ => Nat.le_refl _
    cases run.symm.trans config

end Sys2Proof.Machine
end

section
/-! SUPPORT. The books stay sound under the service of the arbiter and the effects on one sled (R24, R25, R33, R43 to R46, R54). -/

namespace Sys2Proof.Machine

open Sys2Proof

/-! ## The service of the arbiter -/

theorem Run.mem_takeNewest {i j : Sled} {r : Run} (h : j ∈ r.raiseOrder ∨ j = i) : j ∈ (r.takeNewest i).raiseOrder := by
  refine List.mem_append.mpr ?_
  by_cases e : j = i
  · exact .inr (by simp [e])
  · exact .inl (List.mem_filter.mpr ⟨h.resolve_right e, by simpa using e⟩)

/-- A grant that headroom covers, of a sled that takes the newest place in the raise order. -/
theorem Run.booksSound_raised {c : Cfg} {i : Sled} {f : Books → Books} {r : Run} (h : r.booksSound c)
    (own : SledRun.Sound c i True (i ∈ r.boostList) { r.sleds.get i with books := f (r.books i) })
    (covered : ((f (r.books i)).grant + (f (r.books i)).loan : Int) ≤ r.lent i + r.headroom) :
    ((r.modBooks i f).takeNewest i).booksSound c := by
  have get : ((r.modBooks i f).takeNewest i).sleds.get i = { r.sleds.get i with books := f (r.books i) } := modAt_get_self ..
  refine Run.booksSound_of_one (i := i) h rfl rfl (fun j hj => modAt_get_other hj ..) (fun j _ hm => Run.mem_takeNewest (.inl hm))
    (fun _ _ => id) ?_ (.inr ?_)
  · unfold Run.SledSound
    rw [get]
    exact own.of_same ⟨rfl, rfl, rfl, rfl, rfl⟩ rfl (fun _ => Run.mem_takeNewest (.inr rfl)) id
  · unfold Run.lent Run.books at covered ⊢
    rw [get]
    exact_mod_cast covered

/-- A FLOOR entry's sled has no units yet, and headroom covers its floor (R25). -/
theorem Run.booksSound_serveFloor {c : Cfg} {i : Sled} {r : Run} (h : r.booksSound c) (admitting : (r.life i).state = .admitting)
    (waits : (r.books i).floorReserved = false) : (r.serveFloor c i).1.booksSound c := by
  unfold Run.serveFloor
  split
  · next room =>
    refine (Run.Moves.settleAdmission ..).booksSound ?_
    have sound := h.sled i
    have none : (r.books i).grant = 0 := (sound.admitting admitting).trans (if_neg (by
      rw [show (r.sleds.get i).books.floorReserved = false from waits]; nofun))
    have lent : r.lent i = (r.books i).loan := by
      unfold Run.lent
      rw [none, Nat.zero_add]
    refine Run.booksSound_raised (f := fun b => { b with grant := floorCost c i, floorReserved := true }) h
      ⟨sound.enabled, fun out => ?_, fun _ => rfl, fun _ => Nat.le_refl _, fun _ => trivial, sound.loan, sound.boost⟩ ?_
    · rw [show ({ r.sleds.get i with books := _ } : SledRun).life.state = .admitting from admitting] at out
      cases out
    · rw [lent]
      show (floorCost c i : Int) + (r.books i).loan ≤ (r.books i).loan + r.headroom
      omega
  · exact h

/-- The level of a service covers a grant above the sled's own, within headroom (R45). -/
theorem Run.serviceLevel_some {c : Cfg} {r : Run} {i : Sled} {k : Level} (h : r.serviceLevel c i = some k) :
    loosest c i (tighter (r.books i).wanted (r.ceiling c i)) ((r.books i).grant + r.headroom) = some k
      ∧ (r.books i).grant < costAt c i k := by
  unfold Run.serviceLevel at h
  split at h
  · cases h
  · next found =>
    split at h
    · cases h
    · next above =>
      cases h
      exact ⟨found, Nat.not_le.mp above⟩

theorem loosest_fits {c : Cfg} {i : Sled} {m k : Level} {bound : Int} (h : loosest c i m bound = some k) :
    m ≤ k ∧ (costAt c i k : Int) ≤ bound := by
  simpa using List.find?_some h

/-- A class entry's sled is TRACKING: its new grant is above its floor, and headroom covers it (R45). -/
theorem Run.booksSound_serveClass {c : Cfg} {i : Sled} {r : Run} (h : r.booksSound c) (tracking : (r.life i).state = .tracking) :
    (r.serveClass c i).1.booksSound c := by
  unfold Run.serveClass
  split
  · exact h
  · next k service =>
    obtain ⟨found, above⟩ := Run.serviceLevel_some service
    have sound := h.sled i
    have raised : ((r.modBooks i fun b => { b with grant := costAt c i k }).takeNewest i).booksSound c := by
      refine Run.booksSound_raised h ⟨sound.enabled, fun out => ?_, fun admitting => ?_, fun held => ?_, fun _ => trivial, sound.loan,
        sound.boost⟩ ?_
      · rw [show ({ r.sleds.get i with books := _ } : SledRun).life.state = .tracking from tracking] at out
        cases out
      · cases tracking.symm.trans admitting
      · exact Nat.le_trans (sound.floor held) (Nat.le_of_lt above)
      · have fits := (loosest_fits found).2
        unfold Run.lent
        show (costAt c i k : Int) + (r.books i).loan ≤ ((r.books i).grant + (r.books i).loan : Nat) + r.headroom
        omega
    dsimp only
    split
    · exact raised
    · exact raised

theorem Run.booksSound_serveEntry {c : Cfg} {e : Entry} {r : Run} (q : r.queueSound) (h : r.booksSound c) (he : e ∈ r.queue) :
    (r.serveEntry c e).1.booksSound c := by
  unfold Run.serveEntry
  split
  · next floor =>
    obtain ⟨admitting, waits, -⟩ := q.2.1 e he floor
    exact Run.booksSound_serveFloor h admitting waits
  · next k cls => exact Run.booksSound_serveClass h (q.2.2.1 e he (by rw [cls]; nofun))

theorem Run.booksSound_walk {c : Cfg} {n : Nat} {r : Run} (q : r.queueSound) (h : r.booksSound c) : (r.walk c n).booksSound c := by
  induction n generalizing r with
  | zero => exact h
  | succ n ih =>
    rw [Run.walk]
    split
    · exact h
    · next e found =>
      have served := Run.booksSound_serveEntry q h (List.mem_of_find?_eq_some found)
      split
      · exact ih (Run.queueSound_serveEntry q) served
      · exact served

theorem Run.booksSound_serve {c : Cfg} {r : Run} (q : r.queueSound) (h : r.booksSound c) : (r.serve c).booksSound c :=
  Run.booksSound_walk (n := walkTurns) q h

theorem Run.booksSound_serveIfDue {c : Cfg} {r : Run} (q : r.queueSound) (h : r.booksSound c) : (r.serveIfDue c).booksSound c := by
  unfold Run.serveIfDue
  split
  · exact Run.booksSound_serve q h
  · exact h

/-! ## Boundaries -/

/-- A change of books that leaves grant, loan, reservation and boost, of a sled that drains less. -/
theorem Run.booksSound_modBooks {c : Cfg} {i : Sled} {f : Books → Books} {r : Run} (h : r.booksSound c)
    (units : (f (r.books i)).grant = (r.books i).grant ∧ (f (r.books i)).loan = (r.books i).loan
      ∧ (f (r.books i)).draining ≤ (r.books i).draining ∧ (f (r.books i)).floorReserved = (r.books i).floorReserved
      ∧ ((f (r.books i)).boost = .running ↔ (r.books i).boost = .running)) : (r.modBooks i f).booksSound c := by
  obtain ⟨grant, loan, draining, reserved, boost⟩ := units
  have sound := h.sled i
  refine Run.booksSound_modSled (f := fun x => { x with books := f x.books }) h ⟨sound.enabled, fun out => ?_, fun admitting => ?_,
    fun held => ?_, fun above => ?_, fun some => ?_, fun running => sound.boost (boost.mp running)⟩ ?_
  · obtain ⟨noGrant, noLoan, noDraining⟩ := sound.out out
    exact ⟨grant.trans noGrant, loan.trans noLoan, Nat.le_zero.mp (Nat.le_trans draining (Nat.le_of_eq noDraining))⟩
  · show (f (r.books i)).grant = if (f (r.books i)).floorReserved then _ else _
    rw [grant, reserved]
    exact sound.admitting admitting
  · exact Nat.le_trans (sound.floor held) (Nat.le_of_eq grant.symm)
  · exact sound.raised (Nat.lt_of_lt_of_eq above grant)
  · exact boost.mpr (sound.loan (Nat.lt_of_lt_of_eq some loan))
  · exact Nat.le_of_eq (congr (congrArg HAdd.hAdd grant) loan)

theorem Run.booksSound_returnDraining {c : Cfg} {i : Sled} {r : Run} (h : r.booksSound c) : (r.returnDraining i).booksSound c :=
  Run.booksSound_modBooks (f := fun b => { b with draining := 0 }) h ⟨rfl, rfl, Nat.zero_le _, rfl, .rfl⟩

theorem Run.booksSound_advanceBoost {c : Cfg} {i : Sled} {r : Run} (h : r.booksSound c) : (r.advanceBoost c i).booksSound c := by
  unfold Run.advanceBoost
  split
  · exact h
  · next rearm =>
    refine Run.booksSound_modBooks (f := fun b => { b with boost := .none }) h ⟨rfl, rfl, Nat.le_refl _, rfl, nofun, fun running => ?_⟩
    cases rearm.symm.trans running
  · next running =>
    split
    · exact Run.booksSound_endBoost h running
    · exact Run.booksSound_modBooks (f := fun b => { b with boostFrames := b.boostFrames - 1 }) h ⟨rfl, rfl, Nat.le_refl _, rfl, .rfl⟩

/-- A cut that keeps the floor of a TRACKING sled (R25). -/
theorem Run.booksSound_cut {c : Cfg} {i : Sled} {n d : Nat} {r : Run} (h : r.booksSound c) (tracking : (r.life i).state = .tracking)
    (floor : floorCost c i ≤ n) (less : n ≤ (r.books i).grant) :
    (r.modBooks i fun b => { b with grant := n, draining := d }).booksSound c := by
  have sound := h.sled i
  refine Run.booksSound_modSled (f := fun x => { x with books := { x.books with grant := n, draining := d } }) h
    ⟨sound.enabled, fun out => ?_, fun admitting => ?_, fun _ => floor, fun above => sound.raised (Nat.lt_of_lt_of_le above less), sound.loan,
      sound.boost⟩ (Nat.add_le_add_right less _)
  · rw [show ({ r.sleds.get i with books := _ } : SledRun).life.state = .tracking from tracking] at out
    cases out
  · cases tracking.symm.trans admitting

theorem Run.booksSound.falls {c : Cfg} {r : Run} (h : r.booksSound c) (works : r.mode ≠ .config) (i : Sled) : costsFall c i :=
  (costsFault_eq_none c).mp (h.1 works) i

theorem Run.booksSound.floor_le {c : Cfg} {r : Run} (h : r.booksSound c) (works : r.mode ≠ .config) {i : Sled}
    (state : (r.life i).state ≠ .disabled) (k : Level) : floorCost c i ≤ costAt c i k :=
  floorCost_le_costAt (h.falls works i) ((h.sled i).enabled_of_ne state) k

theorem Run.booksSound_advanceReclaim {c : Cfg} {i : Sled} {r : Run} (h : r.booksSound c) : (r.advanceReclaim c i).booksSound c := by
  have counted (n : Nat) : (r.countReclaim n i).booksSound c :=
    Run.booksSound_modBooks (f := fun b => { b with reclaim := n, recount := false }) h ⟨rfl, rfl, Nat.le_refl _, rfl, .rfl⟩
  unfold Run.advanceReclaim
  split
  · next counts =>
    simp only [Run.reclaimCounts, Bool.and_eq_true, beq_iff_eq, decide_eq_true_eq] at counts
    obtain ⟨⟨⟨tracking, -⟩, run⟩, -⟩ := counts
    split
    · unfold Run.reclaim
      dsimp only
      split
      · exact counted 0
      · next above =>
        have floor := h.floor_le (by rw [run]; nofun) (i := i) (by rw [tracking]; nofun) (r.ceiling c i)
        refine Run.booksSound_joinIfShort ?_
        have state : ((r.countReclaim 0 i).life i).state = .tracking := by
          unfold Run.countReclaim
          rw [Run.modBooks_life, tracking]
        have grant : ((r.countReclaim 0 i).books i).grant = (r.books i).grant := by
          unfold Run.countReclaim
          rw [Run.modBooks_books_self]
        have same : ((r.countReclaim 0 i).modBooks i fun b =>
              { b with grant := costAt c i (r.ceiling c i), draining := b.draining + (b.grant - costAt c i (r.ceiling c i)) })
            = (r.countReclaim 0 i).modBooks i fun b => { b with
                grant := costAt c i (r.ceiling c i)
                draining := ((r.countReclaim 0 i).books i).draining
                  + (((r.countReclaim 0 i).books i).grant - costAt c i (r.ceiling c i)) } := Run.modBooks_congr rfl
        rw [same]
        exact Run.booksSound_cut (counted 0) state floor (by rw [grant]; exact Nat.le_of_lt (Nat.not_le.mp above))
    · exact counted _
  · exact counted 0

theorem Run.booksSound_boundary {c : Cfg} {i : Sled} {r : Run} (h : r.booksSound c) : (r.boundary i c).booksSound c := by
  have stepped := (Run.Moves.modChan (c := c) i (fun x =>
    x.boundary c.globals.rampFrames c.levels (r.target c i) ((r.life i).state == .absent)) r).booksSound h
  exact Run.booksSound_advanceReclaim (Run.booksSound_advanceBoost (Run.booksSound_returnDraining stepped))

/-! ## Wants and boosts -/

theorem Run.booksSound_queueWant {c : Cfg} {i : Sled} {w : Level} {k : Fin 4} {r : Run} (h : r.booksSound c) :
    (r.queueWant c i w k).booksSound c := by
  unfold Run.queueWant
  split
  · split
    · exact h
    · split
      · exact h
      · exact h
  all_goals exact h

/-- The cut of a want keeps the floor, for the want costs no less (R33). -/
theorem Run.booksSound_storeWant {c : Cfg} {i : Sled} {w : Level} {k : Fin 4} {r : Run} (h : r.booksSound c) (works : r.mode ≠ .config)
    (present : (r.life i).state ≠ .disabled) : (r.storeWant c i w k).booksSound c := by
  have sound := h.sled i
  have cost := h.floor_le works present w
  let b := r.books i
  have total : (b.grant - (b.grant - costAt c i w)) + (if b.boost == .running then b.loan + (b.grant - costAt c i w) else b.loan)
      ≤ b.grant + b.loan := by
    split <;> omega
  refine Run.booksSound_modSled (f := fun x => { x with books := _ }) h
    ⟨sound.enabled, fun out => ?_, fun admitting => ?_, fun held => ?_, fun above => sound.raised ?_, fun some => ?_, sound.boost⟩ total
  · obtain ⟨grant, loan, draining⟩ := sound.out out
    have still : ((r.sleds.get i).books.boost == .running) = false := by
      refine beq_eq_false_iff_ne.mpr fun running => ?_
      have tracking := (sound.boost running).2
      rw [show ({ r.sleds.get i with books := _ } : SledRun).life.state = .tracking from tracking] at out
      cases out
    dsimp only
    rw [still, grant, loan, draining]
    simp
  · have grant := sound.admitting admitting
    dsimp only
    rw [Nat.sub_sub_eq_min, grant]
    split
    · exact Nat.min_eq_left cost
    · exact Nat.zero_min _
  · have floor := sound.floor held
    dsimp only
    rw [Nat.sub_sub_eq_min]
    exact Nat.le_min.mpr ⟨floor, cost⟩
  · exact Nat.lt_of_lt_of_le above (Nat.sub_le ..)
  · dsimp only at some ⊢
    split at some
    · next running => simpa using running
    · exact sound.loan some

theorem Run.booksSound_setWant {c : Cfg} {i : Sled} {w : Level} {k : Fin 4} {r : Run} (h : r.booksSound c) (works : r.mode ≠ .config)
    (present : (r.life i).state ≠ .disabled) : (r.setWant c i w k).booksSound c :=
  Run.booksSound_queueWant (Run.booksSound_storeWant h works present)

/-- A boost's loan is covered by headroom, and its sled stands in the boost list (R53, R54). -/
theorem Run.booksSound_startBoost {c : Cfg} {i : Sled} {n : Nat} {r : Run} (h : r.booksSound c) (none : (r.books i).boost = .none)
    (tracking : (r.life i).state = .tracking) (covered : (costAt c i 0 : Int) - (r.books i).grant ≤ r.headroom)
    (above : (r.books i).grant < costAt c i 0) : (r.startBoost c i n).booksSound c := by
  have sound := h.sled i
  have noLoan : (r.books i).loan = 0 := sound.loan_zero (by
    rw [show (r.sleds.get i).books.boost = .none from none]; nofun)
  let lend (b : Books) : Books := { b with loan := costAt c i 0 - b.grant, boost := .running, boostFrames := n }
  have lent : (r.modBooks i lend).sleds.get i = { r.sleds.get i with books := lend (r.books i) } := Run.modBooks_get ..
  let u := { (r.modBooks i lend).modChan i fun x => { x with boostStep := true } with boostList := r.boostList ++ [i] }
  have get : u.sleds.get i = { r.sleds.get i with
      books := lend (r.books i), chan := { (r.sleds.get i).chan with boostStep := true } } := by
    refine (modAt_get_self ..).trans ?_
    rw [lent]
  have sounds : u.booksSound c := by
    refine Run.booksSound_of_one (i := i) h rfl rfl (fun j hj => ?_) (fun _ _ => id) (fun j _ hm => List.mem_append_left _ hm) ?_ (.inr ?_)
    · exact (modAt_get_other hj ..).trans (modAt_get_other hj ..)
    · unfold Run.SledSound
      rw [get]
      refine ⟨sound.enabled, fun out => ?_, fun admitting => ?_, sound.floor, sound.raised, fun _ => rfl,
        fun _ => ⟨List.mem_append_right _ (List.mem_singleton.mpr rfl), tracking⟩⟩
      · dsimp only at out
        rw [show (r.sleds.get i).life.state = .tracking from tracking] at out
        cases out
      · cases tracking.symm.trans admitting
    · have own : u.lent i = (r.books i).grant + (costAt c i 0 - (r.books i).grant) :=
        congrArg (fun x : SledRun => x.books.grant + x.books.loan) get
      rw [own]
      unfold Run.lent
      omega
  exact sounds

end Sys2Proof.Machine
end

section
/-! SUPPORT. Revocation (R47 to R49): what the loans taken and the grants cut come to, and that they cover the deficit. -/

namespace Sys2Proof.Machine

open Sys2Proof

/-! ## The two passes -/

/-- The first pass: the loans of the RUNNING boosts, youngest first (R47). -/
def Run.loansTaken (r : Run) : Revoked :=
  r.boostList.reverse.foldl revokeLoan { run := r, deficit := r.deficit, taken := false, cut := [] }

/-- The second pass: the grants above the floors (R48). -/
def Run.grantsCut (c : Cfg) (r : Run) : Revoked := r.loansTaken.run.revokeOrder.foldl (revokeGrant c) r.loansTaken

theorem Run.revoke_eq (c : Cfg) (r : Run) :
    r.revoke c =
      if (r.grantsCut c).taken then
        (((r.grantsCut c).cut.foldl (fun r i => r.joinIfShort c i) (r.grantsCut c).run).refreshHeld c).post c .pool
      else r := rfl

theorem Run.deficit_eq (r : Run) : r.deficit = (sumSleds r.lent : Int) - r.pool.size := by
  rw [← r.sum_lent]
  unfold Run.deficit
  push_cast
  rfl

/-- The deficit after a change of one sled. -/
theorem Run.deficit_of_other {r t : Run} {i : Sled} (size : t.pool.size = r.pool.size)
    (other : ∀ j, j ≠ i → t.sleds.get j = r.sleds.get j) : t.deficit + r.lent i = r.deficit + t.lent i := by
  have total := sumSleds_of_other (f := t.lent) (g := r.lent) (i := i) fun j hj => Run.lent_of_get (other j hj)
  rw [Run.deficit_eq, Run.deficit_eq, size]
  omega

/-! ## The loans -/

theorem revokeLoan_of_covered {v : Revoked} {i : Sled} (h : v.deficit ≤ 0) : revokeLoan v i = v := by simp [revokeLoan, h]

theorem revokeLoan_of_still {v : Revoked} {i : Sled} (h : (v.run.books i).boost ≠ .running) : revokeLoan v i = v := by
  simp [revokeLoan, h]

theorem revokeLoan_of_running {v : Revoked} {i : Sled} (short : 0 < v.deficit) (h : (v.run.books i).boost = .running) :
    revokeLoan v i =
      { v with run := v.run.endBoostEarly i, deficit := v.deficit - (v.run.books i).loan, taken := true } := by
  simp [revokeLoan, h, Int.not_le.mpr short]

/-- What the first pass has done once it has met the sleds of `seen`. -/
structure LoansTaken (u : Revoked) (seen : List Sled) (v : Revoked) : Prop where
  frame : v.run = { u.run with sleds := v.run.sleds, boostList := v.run.boostList }
  sled : ∀ i, v.run.sleds.get i = u.run.sleds.get i
    ∨ i ∈ seen ∧ (u.run.books i).boost = .running ∧ v.run.sleds.get i = (u.run.sleds.get i).boostEnded
  deficit : v.deficit = v.run.deficit
  ended : 0 < v.deficit → ∀ i ∈ seen, (v.run.books i).boost ≠ .running
  lists : ∀ i, (v.run.books i).boost = .running → i ∈ u.run.boostList → i ∈ v.run.boostList
  untaken : v.taken = u.taken ∨ v.taken = true
  none : v.taken = false → v.deficit = u.deficit
  cut : v.cut = u.cut

theorem Run.lent_boostEnded {r t : Run} {i : Sled} (h : t.sleds.get i = (r.sleds.get i).boostEnded)
    (running : (r.books i).boost = .running) : t.lent i + (r.books i).loan = r.lent i := by
  have ended : (r.sleds.get i).boostEnded.books.grant = (r.books i).grant ∧ (r.sleds.get i).boostEnded.books.loan = 0 := by
    unfold SledRun.boostEnded
    rw [if_pos (show (r.sleds.get i).books.boost = .running from running)]
    exact ⟨rfl, rfl⟩
  unfold Run.lent Run.books at ended ⊢
  rw [h, ended.1, ended.2]
  rfl

theorem LoansTaken.start {u : Revoked} (h : u.deficit = u.run.deficit) : LoansTaken u [] u where
  frame := rfl
  sled _ := .inl rfl
  deficit := h
  ended _ := nofun
  lists _ _ := id
  untaken := .inl rfl
  none _ := rfl
  cut := rfl

/-- A sled is met whose boost is not ended. -/
theorem LoansTaken.keep {u v : Revoked} {seen : List Sled} (h : LoansTaken u seen v) {i : Sled}
    (ended : 0 < v.deficit → (v.run.books i).boost ≠ .running) : LoansTaken u (seen ++ [i]) v := by
  refine ⟨h.frame, fun j => (h.sled j).imp_right fun ⟨hj, rest⟩ => ⟨List.mem_append_left _ hj, rest⟩, h.deficit,
    fun short j hj => ?_, h.lists, h.untaken, h.none, h.cut⟩
  rcases List.mem_append.mp hj with hj | hj
  · exact h.ended short j hj
  · exact List.mem_singleton.mp hj ▸ ended short

/-- One more sled is met. -/
theorem LoansTaken.step {u v : Revoked} {seen : List Sled} (h : LoansTaken u seen v) (i : Sled) :
    LoansTaken u (seen ++ [i]) (revokeLoan v i) := by
  have more {j : Sled} (hj : j ∈ seen) : j ∈ seen ++ [i] := List.mem_append_left _ hj
  by_cases short : 0 < v.deficit
  · by_cases running : (v.run.books i).boost = .running
    · rw [revokeLoan_of_running short running]
      have get (j : Sled) := v.run.endBoostEarly_get i j
      have own : (v.run.endBoostEarly i).sleds.get i = (v.run.sleds.get i).boostEnded := (get i).trans (if_pos rfl)
      have other {j : Sled} (hj : j ≠ i) : (v.run.endBoostEarly i).sleds.get j = v.run.sleds.get j := (get j).trans (if_neg hj)
      have frame := v.run.endBoostEarly_frame i
      have still : ((v.run.endBoostEarly i).books i).boost ≠ .running := by
        unfold Run.books
        rw [own]
        exact SledRun.boostEnded_boost _
      refine ⟨?_, fun j => ?_, ?_, fun _ j hj => ?_, fun j hr hm => ?_, .inr rfl, nofun, h.cut⟩
      · dsimp only
        rw [frame, h.frame]
      · by_cases e : j = i
        · subst e
          have was : v.run.sleds.get j = u.run.sleds.get j := by
            refine (h.sled j).resolve_right fun ⟨_, _, gone⟩ => SledRun.boostEnded_boost (u.run.sleds.get j) ?_
            rw [← gone]
            exact running
          refine .inr ⟨List.mem_append_right _ (List.mem_singleton.mpr rfl), ?_, own.trans (by rw [was])⟩
          unfold Run.books at running ⊢
          rw [← was]
          exact running
        · dsimp only
          rw [other e]
          exact (h.sled j).imp_right fun ⟨hj, rest⟩ => ⟨more hj, rest⟩
      · have less := Run.lent_boostEnded own running
        have total := Run.deficit_of_other (r := v.run) (t := v.run.endBoostEarly i) (i := i)
          ((congrArg (fun r : Run => r.pool.size) frame).trans rfl) fun j hj => other hj
        have before := h.deficit
        dsimp only
        omega
      · by_cases e : j = i
        · exact e ▸ still
        · unfold Run.books
          dsimp only
          rw [other e]
          exact h.ended short j ((List.mem_append.mp hj).resolve_right fun hj => e (List.mem_singleton.mp hj))
      · have e : j ≠ i := fun e => still (e ▸ hr)
        have was : (v.run.books j).boost = .running := by
          unfold Run.books at hr ⊢
          rw [← other e]
          exact hr
        have stays := h.lists j was hm
        unfold Run.endBoostEarly
        split
        · exact List.mem_filter.mpr ⟨stays, by simpa using e⟩
        · exact stays
    · rw [revokeLoan_of_still running]
      exact h.keep fun _ => running
  · rw [revokeLoan_of_covered (Int.not_lt.mp short)]
    exact h.keep fun pos => absurd pos short

theorem LoansTaken.foldl {u v : Revoked} {seen : List Sled} (h : LoansTaken u seen v) (order : List Sled) :
    LoansTaken u (seen ++ order) (order.foldl revokeLoan v) := by
  induction order generalizing seen v with
  | nil => rw [List.append_nil]; exact h
  | cons i order ih =>
    have next := ih (h.step i)
    rw [List.append_assoc] at next
    exact next

theorem Run.loansTaken_spec (r : Run) :
    LoansTaken { run := r, deficit := r.deficit, taken := false, cut := [] } r.boostList.reverse r.loansTaken :=
  (LoansTaken.start rfl).foldl _

/-- Where the loans do not cover the deficit, none is left. -/
theorem Run.loansTaken_loan {r : Run} (loans : ∀ i, 0 < (r.books i).loan → (r.books i).boost = .running)
    (boosts : ∀ i, (r.books i).boost = .running → i ∈ r.boostList) (short : 0 < r.loansTaken.deficit) (i : Sled) :
    (r.loansTaken.run.books i).loan = 0 := by
  have spec := r.loansTaken_spec
  rcases spec.sled i with same | ⟨-, running, ended⟩
  · have books : r.loansTaken.run.books i = r.books i := congrArg SledRun.books same
    refine Nat.eq_zero_of_not_pos fun pos => ?_
    have running := loans i (books ▸ pos)
    exact spec.ended short i (List.mem_reverse.mpr (boosts i running)) (books ▸ running)
  · have books : r.loansTaken.run.books i = (r.sleds.get i).boostEnded.books := congrArg SledRun.books ended
    rw [books]
    unfold SledRun.boostEnded
    rw [if_pos (show (r.sleds.get i).books.boost = .running from running)]

/-! ## The grants -/

theorem revokeGrant_of_kept {c : Cfg} {v : Revoked} {i : Sled} (h : v.deficit ≤ 0 ∨ (v.run.books i).grant ≤ floorCost c i) :
    revokeGrant c v i = v := by
  unfold revokeGrant
  dsimp only
  rw [if_pos]
  rcases h with covered | low
  · simp [covered]
  · simp [low]

theorem revokeGrant_of_short {c : Cfg} {v : Revoked} {i : Sled} (short : 0 < v.deficit) (above : floorCost c i < (v.run.books i).grant) :
    revokeGrant c v i =
      { run := v.run.modBooks i fun b =>
          { b with
            grant := keptGrant c i (v.run.books i).grant v.deficit
            draining := b.draining + ((v.run.books i).grant - keptGrant c i (v.run.books i).grant v.deficit) }
        deficit := v.deficit - ((v.run.books i).grant - keptGrant c i (v.run.books i).grant v.deficit : Nat)
        taken := true
        cut := v.cut ++ [i] } := by
  simp [revokeGrant, Int.not_le.mpr short, Nat.not_le.mpr above]

/-- A cut takes something, and leaves no less than the floor; it covers the deficit, or leaves the floor (R48). -/
theorem keptGrant_spec {c : Cfg} {i : Sled} {grant : Nat} {deficit : Int} (short : 0 < deficit) (above : floorCost c i < grant)
    (floors : ∀ k, floorCost c i ≤ costAt c i k) :
    floorCost c i ≤ keptGrant c i grant deficit ∧ keptGrant c i grant deficit < grant
      ∧ (keptGrant c i grant deficit ≤ grant - deficit ∨ keptGrant c i grant deficit = floorCost c i) := by
  unfold keptGrant
  split
  · next k found =>
    have fits := (loosest_fits found).2
    exact ⟨floors k, by omega, .inl fits⟩
  · exact ⟨Nat.le_refl _, above, .inr rfl⟩

/-- What the second pass has done once it has met the sleds of `seen`. -/
structure GrantsCut (c : Cfg) (u : Revoked) (seen : List Sled) (v : Revoked) : Prop where
  frame : v.run = { u.run with sleds := v.run.sleds }
  sled : ∀ i, v.run.sleds.get i = { u.run.sleds.get i with
    books := { u.run.books i with
      grant := (v.run.books i).grant, draining := (u.run.books i).draining + ((u.run.books i).grant - (v.run.books i).grant) } }
  grant : ∀ i, (v.run.books i).grant = (u.run.books i).grant
    ∨ i ∈ seen ∧ floorCost c i ≤ (v.run.books i).grant ∧ (v.run.books i).grant < (u.run.books i).grant
  deficit : v.deficit = v.run.deficit
  floors : 0 < v.deficit → ∀ i ∈ seen, (v.run.books i).grant ≤ floorCost c i
  short : v.deficit ≤ u.deficit
  untaken : v.taken = u.taken ∨ v.taken = true
  none : v.taken = false → v.deficit = u.deficit
  cut : ∃ l, v.cut = u.cut ++ l ∧ l.Nodup ∧ ∀ i, i ∈ l ↔ (v.run.books i).grant < (u.run.books i).grant

theorem GrantsCut.start {c : Cfg} {u : Revoked} (h : u.deficit = u.run.deficit) : GrantsCut c u [] u where
  frame := rfl
  sled i := by simp [Run.books]
  grant _ := .inl rfl
  deficit := h
  floors _ := nofun
  short := Int.le_refl _
  untaken := .inl rfl
  none _ := rfl
  cut := ⟨[], by simp, List.nodup_nil, by simp⟩

/-- A sled is met that keeps its grant. -/
theorem GrantsCut.keep {c : Cfg} {u v : Revoked} {seen : List Sled} (h : GrantsCut c u seen v) {i : Sled}
    (low : 0 < v.deficit → (v.run.books i).grant ≤ floorCost c i) : GrantsCut c u (seen ++ [i]) v := by
  refine ⟨h.frame, h.sled, fun j => (h.grant j).imp_right fun ⟨hj, rest⟩ => ⟨List.mem_append_left _ hj, rest⟩, h.deficit,
    fun short j hj => ?_, h.short, h.untaken, h.none, h.cut⟩
  rcases List.mem_append.mp hj with hj | hj
  · exact h.floors short j hj
  · exact List.mem_singleton.mp hj ▸ low short

/-- One more sled is met. -/
theorem GrantsCut.step {c : Cfg} {u v : Revoked} {seen : List Sled} (h : GrantsCut c u seen v)
    (costs : ∀ i, floorCost c i < (u.run.books i).grant → ∀ k, floorCost c i ≤ costAt c i k) (i : Sled) :
    GrantsCut c u (seen ++ [i]) (revokeGrant c v i) := by
  have more {j : Sled} (hj : j ∈ seen) : j ∈ seen ++ [i] := List.mem_append_left _ hj
  by_cases short : 0 < v.deficit
  · by_cases above : floorCost c i < (v.run.books i).grant
    · have first : (v.run.books i).grant = (u.run.books i).grant := by
        refine (h.grant i).resolve_right fun ⟨hi, _, _⟩ => ?_
        exact absurd (h.floors short i hi) (Nat.not_le.mpr above)
      obtain ⟨floor, less, covers⟩ := keptGrant_spec short above (costs i (first ▸ above))
      rw [revokeGrant_of_short short above]
      generalize hn : keptGrant c i (v.run.books i).grant v.deficit = n at floor less covers
      let w := v.run.modBooks i fun b => { b with grant := n, draining := b.draining + ((v.run.books i).grant - n) }
      have own : w.sleds.get i = { v.run.sleds.get i with books := { v.run.books i with
          grant := n, draining := (v.run.books i).draining + ((v.run.books i).grant - n) } } := Run.modBooks_get ..
      have other {j : Sled} (hj : j ≠ i) : w.sleds.get j = v.run.sleds.get j := modAt_get_other hj ..
      have grant : (w.books i).grant = n := congrArg (fun x : SledRun => x.books.grant) own
      have otherGrant {j : Sled} (hj : j ≠ i) : (w.books j).grant = (v.run.books j).grant :=
        congrArg (fun x : SledRun => x.books.grant) (other hj)
      have drained : (v.run.books i).draining = (u.run.books i).draining := by
        have books : v.run.books i = _ := congrArg SledRun.books (h.sled i)
        rw [books, first]
        exact (congrArg _ (Nat.sub_self _)).trans (Nat.add_zero _)
      have whole : (w.lent i) + ((v.run.books i).grant - n) = v.run.lent i := by
        have loan : (w.books i).loan = (v.run.books i).loan := (congrArg (fun x : SledRun => x.books.loan) own).trans rfl
        unfold Run.lent
        rw [grant, loan]
        omega
      have total := Run.deficit_of_other (r := v.run) (t := w) (i := i) rfl fun j hj => other hj
      have before := h.deficit
      have hs := h.short
      refine ⟨?_, fun j => ?_, fun j => ?_, ?_, fun short' j hj => ?_, ?_, .inr rfl, nofun, ?_⟩
      · show w = { u.run with sleds := w.sleds }
        have frame := congrArg (fun r : Run => { r with sleds := w.sleds }) h.frame
        exact frame.trans rfl
      · show w.sleds.get j = { u.run.sleds.get j with books := { u.run.books j with
          grant := (w.books j).grant, draining := (u.run.books j).draining + ((u.run.books j).grant - (w.books j).grant) } }
        by_cases e : j = i
        · subst e
          rw [grant, own, drained, first]
          have was := h.sled j
          have books : v.run.books j = { u.run.books j with
              grant := (v.run.books j).grant
              draining := (u.run.books j).draining + ((u.run.books j).grant - (v.run.books j).grant) } := congrArg SledRun.books was
          rw [was, books]
        · rw [otherGrant e, other e]
          exact h.sled j
      · show (w.books j).grant = _ ∨ _ ∧ _ ≤ (w.books j).grant ∧ (w.books j).grant < _
        by_cases e : j = i
        · subst e
          rw [grant, ← first]
          exact .inr ⟨List.mem_append_right _ (List.mem_singleton.mpr rfl), floor, less⟩
        · rw [otherGrant e]
          exact (h.grant j).imp_right fun ⟨hj, rest⟩ => ⟨more hj, rest⟩
      · show v.deficit - ((v.run.books i).grant - n : Nat) = w.deficit
        omega
      · show (w.books j).grant ≤ _
        by_cases e : j = i
        · subst e
          rw [grant]
          dsimp only at short'
          omega
        · rw [otherGrant e]
          exact h.floors short j ((List.mem_append.mp hj).resolve_right fun hj => e (List.mem_singleton.mp hj))
      · dsimp only
        omega
      · obtain ⟨l, append, nodup, mem⟩ := h.cut
        have new : i ∉ l := fun hi => absurd ((mem i).mp hi) (by rw [first]; exact Nat.lt_irrefl _)
        refine ⟨l ++ [i], by dsimp only; rw [append, List.append_assoc], ?_, fun j => ?_⟩
        · exact List.nodup_append.mpr ⟨nodup, List.pairwise_singleton _ i, fun a ha b hb => by
            rw [List.mem_singleton.mp hb]; rintro rfl; exact new ha⟩
        · show j ∈ l ++ [i] ↔ (w.books j).grant < _
          by_cases e : j = i
          · subst e
            rw [grant, ← first]
            simp [less]
          · rw [otherGrant e, ← mem j]
            simp [e]
    · rw [revokeGrant_of_kept (.inr (Nat.not_lt.mp above))]
      exact h.keep fun _ => Nat.not_lt.mp above
  · rw [revokeGrant_of_kept (.inl (Int.not_lt.mp short))]
    exact h.keep fun pos => absurd pos short

theorem GrantsCut.foldl {c : Cfg} {u v : Revoked} {seen : List Sled} (h : GrantsCut c u seen v)
    (costs : ∀ i, floorCost c i < (u.run.books i).grant → ∀ k, floorCost c i ≤ costAt c i k) (order : List Sled) :
    GrantsCut c u (seen ++ order) (order.foldl (revokeGrant c) v) := by
  induction order generalizing seen v with
  | nil => rw [List.append_nil]; exact h
  | cons i order ih =>
    have next := ih (h.step costs i)
    rw [List.append_assoc] at next
    exact next

end Sys2Proof.Machine
end

section
/-! SUPPORT. Revocation covers the deficit and keeps the books sound (R24 to R26, R47, R48). -/

namespace Sys2Proof.Machine

open Sys2Proof

/-! ## The costs and the order of the cuts -/

/-- The costs of a sled with a grant above its floor are no less than its floor. -/
theorem floorCost_le_of_above {c : Cfg} {r : Run} (costs : costsFault c = none) (each : ∀ i, r.SledSound c i) (i : Sled)
    (above : floorCost c i < (r.books i).grant) (k : Level) : floorCost c i ≤ costAt c i k := by
  refine floorCost_le_costAt ((costsFault_eq_none c).mp costs i) ((each i).enabled_of_ne fun disabled => ?_) k
  have none : (r.books i).grant = 0 := ((each i).out (by rw [disabled]; rfl)).1
  omega

theorem Run.mem_revokeOrder {r : Run} {i : Sled} : i ∈ r.revokeOrder ↔ i ∈ r.raiseOrder := by
  have classes : (r.books i).cls ∈ ([3, 2, 1, 0] : List (Fin 4)) := by
    generalize (r.books i).cls = k
    revert k
    decide
  unfold Run.revokeOrder
  rw [List.mem_flatMap]
  constructor
  · rintro ⟨k, -, hi⟩
    exact List.mem_reverse.mp (List.mem_filter.mp hi).1
  · exact fun hi => ⟨_, classes, List.mem_filter.mpr ⟨List.mem_reverse.mpr hi, by simp⟩⟩

/-- The first pass leaves every grant. -/
theorem Run.loansTaken_grant (r : Run) (i : Sled) : (r.loansTaken.run.books i).grant = (r.books i).grant := by
  rcases r.loansTaken_spec.sled i with same | ⟨-, -, ended⟩
  · exact congrArg (fun x : SledRun => x.books.grant) same
  · exact (congrArg (fun x : SledRun => x.books.grant) ended).trans (SledRun.boostEnded_units _).1

theorem Run.grantsCut_spec {c : Cfg} {r : Run} (costs : costsFault c = none) (each : ∀ i, r.SledSound c i) :
    GrantsCut c r.loansTaken r.loansTaken.run.revokeOrder (r.grantsCut c) := by
  refine (GrantsCut.start r.loansTaken_spec.deficit).foldl (fun i above => ?_) _
  rw [r.loansTaken_grant] at above
  exact floorCost_le_of_above costs each i above

theorem Run.grantsCut_pool {c : Cfg} {r : Run} (costs : costsFault c = none) (each : ∀ i, r.SledSound c i) :
    (r.grantsCut c).run.pool = r.pool := by
  have cuts : (r.grantsCut c).run.pool = r.loansTaken.run.pool := (congrArg Run.pool (Run.grantsCut_spec costs each).frame).trans rfl
  exact cuts.trans ((congrArg Run.pool r.loansTaken_spec.frame).trans rfl)

/-! ## The books after the passes -/

/-- The books after the first pass: a loan is taken whole or left. -/
theorem Run.loansTaken_sound {c : Cfg} {r : Run} (each : ∀ i, r.SledSound c i) (i : Sled) : r.loansTaken.run.SledSound c i := by
  have spec := r.loansTaken_spec
  have order : r.loansTaken.run.raiseOrder = r.raiseOrder := (congrArg Run.raiseOrder spec.frame).trans rfl
  unfold Run.SledSound
  rw [order]
  rcases spec.sled i with same | ⟨-, -, ended⟩
  · have sound := each i
    rw [same]
    refine { (show SledRun.Sound c i _ _ _ from sound) with boost := fun running => ⟨?_, (sound.boost running).2⟩ }
    refine spec.lists i ?_ (sound.boost running).1
    unfold Run.books
    rw [same]
    exact running
  · rw [ended]
    exact (each i).boostEnded

/-- A cut that leaves the floor keeps a sled's books sound. -/
theorem SledRun.Sound.cut {c : Cfg} {i : Sled} {raised lending : Prop} {x : SledRun} (h : SledRun.Sound c i raised lending x)
    {n d : Nat} (cut : n = x.books.grant ∧ d = x.books.draining ∨ floorCost c i ≤ n ∧ n < x.books.grant) :
    SledRun.Sound c i raised lending { x with books := { x.books with grant := n, draining := d } } := by
  rcases cut with ⟨rfl, rfl⟩ | ⟨floor, less⟩
  · exact h
  · refine ⟨h.enabled, fun out => ?_, fun admitting => ?_, fun _ => floor, fun above => h.raised (Nat.lt_trans above less), h.loan, h.boost⟩
    · have none := (h.out out).1
      omega
    · have grant := h.admitting admitting
      split at grant <;> omega

theorem Run.grantsCut_sound {c : Cfg} {r : Run} (costs : costsFault c = none) (each : ∀ i, r.SledSound c i) (i : Sled) :
    (r.grantsCut c).run.SledSound c i := by
  have spec := Run.grantsCut_spec costs each
  have order : (r.grantsCut c).run.raiseOrder = r.loansTaken.run.raiseOrder := (congrArg Run.raiseOrder spec.frame).trans rfl
  have boosts : (r.grantsCut c).run.boostList = r.loansTaken.run.boostList := (congrArg Run.boostList spec.frame).trans rfl
  unfold Run.SledSound
  rw [order, boosts, spec.sled i]
  refine (Run.loansTaken_sound each i).cut ?_
  rcases spec.grant i with same | ⟨-, floor, less⟩
  · refine .inl ⟨same, ?_⟩
    rw [same]
    exact (congrArg _ (Nat.sub_self _)).trans (Nat.add_zero _)
  · exact .inr ⟨floor, less⟩

/-- What a sled's floor takes of the pool (R26). -/
def Run.floorHeld (c : Cfg) (r : Run) (i : Sled) : Nat :=
  match (r.life i).state with
  | .tracking | .isolated => floorCost c i
  | .admitting => if (r.books i).floorReserved then floorCost c i else 0
  | .disabled | .absent | .standby => 0

theorem Run.floorsHeld_eq (c : Cfg) (r : Run) : r.floorsHeld c = sumSleds (r.floorHeld c) := rfl

/-- A grant that is not above the floor is no more than the floor that the sled holds. -/
theorem Run.SledSound.grant_le {c : Cfg} {r : Run} {i : Sled} (h : r.SledSound c i) {n : Nat} (le : n ≤ (r.books i).grant)
    (low : n ≤ floorCost c i) : n ≤ r.floorHeld c i := by
  have out (e : (r.life i).state.inService = false) : n ≤ 0 := Nat.le_trans le (Nat.le_of_eq (h.out e).1)
  unfold Run.floorHeld
  split
  · exact low
  · exact low
  · next admitting => exact Nat.le_trans le (Nat.le_of_eq (h.admitting admitting))
  · next e => exact out (by rw [e]; rfl)
  · next e => exact out (by rw [e]; rfl)
  · next e => exact out (by rw [e]; rfl)

/-- A pool that covers the floors held covers what is left once both passes are done (R47, R48). -/
theorem Run.grantsCut_covers {c : Cfg} {r : Run} (costs : costsFault c = none) (each : ∀ i, r.SledSound c i)
    (floors : r.floorsHeld c ≤ r.pool.size) : (r.grantsCut c).deficit ≤ 0 := by
  have spec := Run.grantsCut_spec costs each
  refine Classical.byContradiction fun short => ?_
  have short := Int.not_le.mp short
  have noLoan := Run.loansTaken_loan (fun i => (each i).loan) (fun i running => ((each i).boost running).1)
    (Int.lt_of_lt_of_le short spec.short)
  have low (i : Sled) : (r.grantsCut c).run.lent i ≤ r.floorHeld c i := by
    have books : (r.grantsCut c).run.books i = _ := congrArg SledRun.books (spec.sled i)
    have loan : ((r.grantsCut c).run.books i).loan = 0 := by rw [books]; exact noLoan i
    have le : ((r.grantsCut c).run.books i).grant ≤ (r.books i).grant := by
      rw [← r.loansTaken_grant i]
      rcases spec.grant i with same | ⟨-, -, less⟩
      · exact Nat.le_of_eq same
      · exact Nat.le_of_lt less
    unfold Run.lent
    rw [loan, Nat.add_zero]
    refine (each i).grant_le le ?_
    by_cases raised : i ∈ r.raiseOrder
    · refine spec.floors short i (Run.mem_revokeOrder.mpr ?_)
      rw [show r.loansTaken.run.raiseOrder = r.raiseOrder from (congrArg Run.raiseOrder r.loansTaken_spec.frame).trans rfl]
      exact raised
    · exact Nat.le_trans le (Nat.not_lt.mp fun above => raised ((each i).raised above))
  have total := Nat.le_trans (sumSleds_le low) floors
  have deficit := spec.deficit
  rw [Run.deficit_eq, Run.grantsCut_pool costs each] at deficit
  omega

/-! ## Revocation whole -/

/-- Without a deficit nothing is taken. -/
theorem Run.grantsCut_of_covered {c : Cfg} {r : Run} (h : r.deficit ≤ 0) :
    r.grantsCut c = { run := r, deficit := r.deficit, taken := false, cut := [] } := by
  have loans : r.loansTaken = { run := r, deficit := r.deficit, taken := false, cut := [] } :=
    foldl_of_fixed (fun _ => revokeLoan_of_covered h) _
  unfold Run.grantsCut
  rw [loans]
  exact foldl_of_fixed (fun _ => revokeGrant_of_kept (.inl h)) _

theorem Run.revoke_of_covered {c : Cfg} {r : Run} (h : r.deficit ≤ 0) : r.revoke c = r := by
  rw [Run.revoke_eq, Run.grantsCut_of_covered h]
  exact if_neg Bool.false_ne_true

/-- With a deficit something is taken. -/
theorem Run.grantsCut_taken {c : Cfg} {r : Run} (costs : costsFault c = none) (each : ∀ i, r.SledSound c i)
    (floors : r.floorsHeld c ≤ r.pool.size) (short : 0 < r.deficit) : (r.grantsCut c).taken = true := by
  have spec := Run.grantsCut_spec costs each
  have covers := Run.grantsCut_covers costs each floors
  refine Classical.byContradiction fun untaken => ?_
  have untaken := Bool.not_eq_true _ ▸ untaken
  have first : r.loansTaken.taken = false :=
    (spec.untaken.resolve_right (by rw [untaken]; nofun)).symm.trans untaken
  have h2 := spec.none untaken
  have h1 := r.loansTaken_spec.none first
  rw [h2, h1] at covers
  exact absurd short (Int.not_lt.mpr covers)

/-- Revocation whole: the passes, the joins in the order of the cuts, the held flags and the notice (R49). -/
theorem Run.revoke_of_short {c : Cfg} {r : Run} (costs : costsFault c = none) (each : ∀ i, r.SledSound c i)
    (floors : r.floorsHeld c ≤ r.pool.size) (short : 0 < r.deficit) :
    r.revoke c = (((r.grantsCut c).cut.foldl (fun r i => r.joinIfShort c i) (r.grantsCut c).run).refreshHeld c).post c .pool := by
  rw [Run.revoke_eq, if_pos (Run.grantsCut_taken costs each floors short)]

theorem Run.foldl_joinIfShort_frame (c : Cfg) (l : List Sled) (r : Run) :
    l.foldl (fun r i => r.joinIfShort c i) r =
      { r with
        queue := (l.foldl (fun r i => r.joinIfShort c i) r).queue
        arbiterDue := (l.foldl (fun r i => r.joinIfShort c i) r).arbiterDue } := by
  induction l generalizing r with
  | nil => rfl
  | cons i l ih =>
    have joined : r.joinIfShort c i = { r with
        queue := (r.joinIfShort c i).queue, arbiterDue := (r.joinIfShort c i).arbiterDue } := by
      unfold Run.joinIfShort
      split
      · rfl
      · rfl
    rw [List.foldl_cons, ih, joined]

/-- Revocation leaves the books and the lists as the passes do. -/
theorem Run.revoke_passes {c : Cfg} {r : Run} (costs : costsFault c = none) (each : ∀ i, r.SledSound c i)
    (floors : r.floorsHeld c ≤ r.pool.size) :
    (r.revoke c).sleds = (r.grantsCut c).run.sleds ∧ (r.revoke c).raiseOrder = (r.grantsCut c).run.raiseOrder
      ∧ (r.revoke c).boostList = (r.grantsCut c).run.boostList := by
  by_cases short : 0 < r.deficit
  · rw [Run.revoke_of_short costs each floors short]
    obtain ⟨n, e⟩ := Run.post_eq c .pool
      (((r.grantsCut c).cut.foldl (fun r i => r.joinIfShort c i) (r.grantsCut c).run).refreshHeld c)
    rw [e]
    have frame := Run.foldl_joinIfShort_frame c (r.grantsCut c).cut (r.grantsCut c).run
    exact ⟨(congrArg Run.sleds frame).trans rfl, (congrArg Run.raiseOrder frame).trans rfl, (congrArg Run.boostList frame).trans rfl⟩
  · rw [Run.revoke_of_covered (Int.not_lt.mp short), Run.grantsCut_of_covered (Int.not_lt.mp short)]
    exact ⟨rfl, rfl, rfl⟩

theorem Run.revoke_mode (c : Cfg) (r : Run) : (r.revoke c).mode = r.mode := (congrArg Run.mode (Run.Cuts.revoke c r).frame).trans rfl
theorem Run.revoke_pool (c : Cfg) (r : Run) : (r.revoke c).pool = r.pool := (congrArg Run.pool (Run.Cuts.revoke c r).frame).trans rfl

/-- Books that are sound but for the fit are sound once the deficit is revoked. -/
theorem Run.booksSound_revoke {c : Cfg} {r : Run} (costs : costsFault c = none) (each : ∀ i, r.SledSound c i)
    (floors : r.floorsHeld c ≤ r.pool.size) : (r.revoke c).booksSound c := by
  obtain ⟨sleds, order, boosts⟩ := Run.revoke_passes costs each floors
  have spec := Run.grantsCut_spec costs each
  have covers := Run.grantsCut_covers costs each floors
  refine Run.booksSound_iff.mpr ⟨fun _ => costs, fun i => ?_, ?_⟩
  · exact (Run.grantsCut_sound costs each i).of_get (by rw [sleds]) (by rw [order]; exact id) (by rw [boosts]; exact id)
  · have lent : (r.revoke c).lent = (r.grantsCut c).run.lent := funext fun i => Run.lent_of_get (by rw [sleds])
    have deficit := spec.deficit
    rw [Run.deficit_eq, Run.grantsCut_pool costs each] at deficit
    rw [lent, Run.revoke_pool]
    omega

theorem Run.booksSound_resizePool {c : Cfg} {n : Nat} {r : Run} (h : r.booksSound c) (works : r.mode ≠ .config)
    (floors : r.floorsHeld c ≤ n) : (r.resizePool c n).booksSound c :=
  Run.booksSound_revoke (r := { r with pool := { r.pool with size := n } }) (h.1 works) h.sled floors

end Sys2Proof.Machine
end

section
/-! SUPPORT. The books stay sound under the effect of every command. -/

namespace Sys2Proof.Machine

open Sys2Proof

/-! ## Pool and lease -/

/-- In CONFIG the sleds hold nothing, so that any pool size covers them. -/
theorem Run.booksSound.lent_of_config {c : Cfg} {r : Run} (h : r.booksSound c) (q : r.queueSound) (config : r.mode = .config) (i : Sled) :
    r.lent i = 0 := by
  obtain ⟨grant, loan, -⟩ := (h.sled i).out ((q.2.2.2 config).2 i)
  exact Nat.add_eq_zero_iff.mpr ⟨grant, loan⟩

/-- A change of the pool that leaves its size. -/
theorem Run.SameAccounts.of_pool {r : Run} {p : Pool} (size : p.size = r.pool.size) : Run.SameAccounts r { r with pool := p } :=
  ⟨rfl, rfl, rfl, rfl, size, fun _ => ⟨rfl, rfl, rfl, rfl, rfl⟩, fun _ => rfl⟩

theorem Pool.startLease_size (p : Pool) : p.startLease.size = p.size := by
  unfold Pool.startLease
  split <;> rfl

theorem Run.booksSound_setPool {x : PoolSetting} {c : Cfg} {r : Run} (h : r.booksSound c) (q : r.queueSound)
    (floors : r.floorsHeld c ≤ x.size) : (r.setPool x c).booksSound c := by
  unfold Run.setPool
  split
  · next works =>
    have works := (Mode.works_iff _).mp works
    let u := { r with pool := { r.pool with leasePeriod := x.leasePeriod, fallback := x.fallback } }
    have stored : u.booksSound c := (Run.SameAccounts.of_pool rfl).booksSound h
    exact (Run.SameAccounts.of_pool (Pool.startLease_size _)).booksSound (Run.booksSound_resizePool stored works floors)
  · next idle =>
    have config : r.mode = .config := by
      refine Classical.byContradiction fun works => ?_
      exact idle ((Mode.works_iff _).mpr works)
    obtain ⟨costs, each, -⟩ := Run.booksSound_iff.mp h
    refine Run.booksSound_iff.mpr ⟨costs, each, ?_⟩
    exact Nat.le_trans (Nat.le_of_eq (sumSleds_zero fun i => h.lent_of_config q config i)) (Nat.zero_le _)

theorem Run.booksSound_expireLease {c : Cfg} {r : Run} (h : r.booksSound c) (works : r.mode ≠ .config) :
    (r.expireLease c).booksSound c := by
  have resized := Run.booksSound_resizePool (n := r.fallbackSize c) h works (Nat.le_max_right _ _)
  exact Run.booksSound_post ((Run.Moves.raise ..).booksSound ((Run.SameAccounts.of_pool rfl).booksSound resized))

/-! ## Sleds out of service -/

/-- A sled without units and without a boost is sound in every state out of service. -/
theorem SledRun.Sound.idle {c : Cfg} {i : Sled} {raised lending : Prop} {x : SledRun}
    (enabled : (c.sled i).enable = false → x.life.state = .disabled) (out : x.life.state.inService = false)
    (units : x.books.grant = 0 ∧ x.books.loan = 0 ∧ x.books.draining = 0) (still : x.books.boost ≠ .running) :
    SledRun.Sound c i raised lending x := by
  obtain ⟨grant, loan, draining⟩ := units
  refine ⟨enabled, fun _ => ⟨grant, loan, draining⟩, fun e => ?_, fun e => ?_, fun above => ?_, fun some => ?_,
    fun running => absurd running still⟩
  · rw [e] at out; cases out
  · rcases e with e | e <;> rw [e] at out <;> cases out
  · omega
  · omega

/-- A sled out of service has no boost running. -/
theorem SledRun.Sound.still {c : Cfg} {i : Sled} {raised lending : Prop} {x : SledRun} (h : SledRun.Sound c i raised lending x)
    (out : x.life.state.inService = false) : x.books.boost ≠ .running := fun running => by
  rw [(h.boost running).2] at out
  cases out

/-- A change of the state of a sled that stays out of service. -/
theorem Run.booksSound_idleLife {c d : Cfg} {i : Sled} {f : Life → Life} {r : Run} (h : r.booksSound c) (same : d = c)
    (enabled : (c.sled i).enable = false → (f (r.life i)).state = .disabled) (was : (r.life i).state.inService = false)
    (out : (f (r.life i)).state.inService = false) : (r.modLife i f).booksSound d := by
  subst same
  have sound := h.sled i
  exact Run.booksSound_modSled (f := fun x => { x with life := f x.life }) h
    (.idle enabled out (sound.out was) (sound.still was)) (Nat.le_refl _)

theorem Run.booksSound_startAdmission {c : Cfg} {i : Sled} {r : Run} (h : r.booksSound c) (q : r.queueSound) (works : r.mode ≠ .config)
    (out : (r.life i).state = .absent ∨ (r.life i).state = .standby) : (r.startAdmission c i).booksSound c := by
  have sound := h.sled i
  have idle : (r.life i).state.inService = false := by rcases out with e | e <;> rw [e] <;> rfl
  have enabled : (r.life i).state ≠ .disabled := by rcases out with e | e <;> rw [e] <;> nofun
  obtain ⟨grant, loan, draining⟩ := sound.out idle
  have still := sound.still idle
  have new := q.not_queued_of_out idle
  have begun : (r.modSled i (SledRun.admitting c i)).booksSound c := by
    refine Run.booksSound_modSled h ⟨fun off => absurd (sound.enabled off) enabled, nofun, fun _ => rfl, ?_, nofun, fun some => ?_,
      fun running => absurd running still⟩ ?_
    · rintro (e | e) <;> cases e
    · exact absurd loan (Nat.ne_of_gt some)
    · exact Nat.le_trans (Nat.le_of_eq (Nat.zero_add _)) (Nat.le_add_left ..)
  have own : (r.modSled i (SledRun.admitting c i)).sleds.get i = (r.sleds.get i).admitting c i := modAt_get_self ..
  refine (Run.Moves.startAdmission c i r).booksSound (Run.booksSound_serve ?_ begun)
  refine Run.queueSound_join (Run.queueSound_modSled q new (.inr works)) new (fun _ => ?_) fun other => absurd rfl other
  exact ⟨congrArg (fun x => x.life.state) own, congrArg (fun x => x.books.floorReserved) own⟩

theorem Run.booksSound_teardown {c : Cfg} {i : Sled} {r : Run} (h : r.booksSound c) (enabled : (r.life i).state ≠ .disabled) :
    (r.teardown c i).booksSound c := by
  let gone (l : Life) : Life := { l with
    state := .absent, admission := none, awaitA := false, awaitB := false, containPending := false, admitTimeout := false }
  have own : ((r.modLife i gone).zeroBooks i).sleds.get i = { r.sleds.get i with life := gone (r.life i), books := .initial } := by
    have life : (r.modLife i gone).sleds.get i = { r.sleds.get i with life := gone (r.life i) } := modAt_get_self ..
    refine (modAt_get_self ..).trans ?_
    rw [life]
  have removed : ((r.modLife i gone).zeroBooks i).booksSound c := by
    refine Run.booksSound_of_one (i := i) h rfl rfl (fun j hj => (modAt_get_other hj ..).trans (modAt_get_other hj ..))
      (fun j hj hm => List.mem_filter.mpr ⟨hm, by simpa using hj⟩) (fun j hj hm => List.mem_filter.mpr ⟨hm, by simpa using hj⟩) ?_ (.inl ?_)
    · unfold Run.SledSound
      rw [own]
      exact .idle (fun off => absurd ((h.sled i).enabled off) enabled) rfl ⟨rfl, rfl, rfl⟩ nofun
    · unfold Run.lent Run.books
      rw [own]
      exact Nat.zero_le _
  refine Run.Moves.booksSound ?_ removed
  exact (Run.Moves.modChan ..).trans ((Run.Moves.onLanes (.dropProbes ..)).trans
    ((Run.Moves.modAlert ..).trans ((Run.Moves.modTherm ..).trans (Run.Moves.post ..))))

theorem Run.booksSound_presenceEvent {c : Cfg} {i : Sled} {b : Bool} {r : Run} (h : r.booksSound c) (q : r.queueSound) :
    (r.presenceEvent c i b).booksSound c := by
  unfold Run.presenceEvent
  split
  · next absent =>
    split
    · next works => exact Run.booksSound_startAdmission h q ((Mode.works_iff _).mp works) (.inl absent)
    · refine Run.booksSound_idleLife h rfl (fun off => ?_) (by rw [absent]; rfl) rfl
      cases absent.symm.trans ((h.sled i).enabled off)
  all_goals first
    | exact h
    | next state => exact Run.booksSound_teardown h (by rw [state]; nofun)

theorem Run.booksSound_settlePresence {c : Cfg} {i : Sled} {r : Run} (h : r.booksSound c) (q : r.queueSound) :
    (r.settlePresence c i).booksSound c := by
  have moved := Run.Moves.modLife (c := c) (r := r) (i := i)
    (f := fun l => { l with settle := none, present := (r.life i).prs == .low }) fun _ => rfl
  unfold Run.settlePresence
  dsimp only
  split
  · exact Run.booksSound_presenceEvent (moved.booksSound h) (moved.queueSound q)
  · exact moved.booksSound h

theorem Run.booksSound_release {c : Cfg} {i : Sled} {r : Run} (h : r.booksSound c) : (r.release c i).booksSound c := by
  unfold Run.release
  split
  · next isolated =>
    have state : ((r.modBooks i fun b => { b with recount := true }).life i).state = .isolated := by
      rw [Run.modBooks_life, isolated]
    exact (Run.Moves.track (c := c) (.inl state)).booksSound (Run.booksSound_modBooks h ⟨rfl, rfl, Nat.le_refl _, rfl, .rfl⟩)
  · exact (Run.Moves.modLife (c := c) (f := fun l => { l with containPending := false }) fun _ => rfl).booksSound h
  all_goals exact h

/-! ## Modes -/

/-- Every STANDBY sled in turn becomes ADMITTING (R154). -/
theorem Run.admitStandby_sound {c : Cfg} {r : Run} (q : r.queueSound) (h : r.booksSound c) (works : r.mode ≠ .config) :
    (r.admitStandby c).booksSound c := by
  unfold Run.admitStandby
  induction allSleds generalizing r with
  | nil => exact h
  | cons i is ih =>
    rw [List.foldl_cons]
    split
    · next standby =>
      have standby : (r.life i).state = .standby := by simpa using standby
      have new := q.not_queued_of_out (i := i) (by rw [standby]; rfl)
      exact ih (Run.queueSound_startAdmission q works new) (Run.booksSound_startAdmission h q works (.inr standby))
        (Run.startAdmission_works works)
    · exact ih q h works

theorem Run.booksSound_enterRun {c : Cfg} {r : Run} (h : r.booksSound c) (q : r.queueSound) (valid : validationFault c = none) :
    (r.enterRun c).booksSound c := by
  have costs : costsFault c = none := by
    unfold validationFault at valid
    simp only [Option.or_eq_none_iff, Option.map_eq_none_iff] at valid
    exact valid.2.1
  obtain ⟨-, each, fits⟩ := Run.booksSound_iff.mp h
  let u : Run := { r with
    mode := .run, cause := .request, validation := .passed, pool := r.pool.startLease
    probes := mapAt (fun _ x => ProbeRun.forget x) r.probes }
  have books : u.booksSound c :=
    Run.booksSound_iff.mpr ⟨fun _ => costs, fun i => each i, Nat.le_trans fits (Nat.le_of_eq (Pool.startLease_size r.pool).symm)⟩
  have queue : u.queueSound := ⟨q.1, q.2.1, q.2.2.1, nofun⟩
  exact Run.booksSound_post (Run.admitStandby_sound queue books nofun)

theorem Run.booksSound_runFromSafe {c : Cfg} {r : Run} (h : r.booksSound c) (safe : r.mode = .safe) : (r.runFromSafe c).booksSound c := by
  refine Run.booksSound_post ?_
  have recounted := (Run.SameAccounts.mapSleds (r := r) (f := fun _ x => SledRun.recount x)
    (fun _ _ => ⟨rfl, rfl, rfl, rfl, rfl⟩) fun _ _ => rfl).booksSound h
  obtain ⟨costs, each, fits⟩ := Run.booksSound_iff.mp recounted
  refine Run.booksSound_iff.mpr ⟨fun _ => costs fun config => ?_, each, fits⟩
  cases safe.symm.trans config

theorem SledRun.leaveService_state (n : Nat) (x : SledRun) (h : x.life.state = .disabled) : (x.leaveService n).life.state = .disabled := by
  rw [SledRun.leaveService_of_out (by rw [h]; rfl)]
  exact h

theorem Run.booksSound_toConfig {c : Cfg} {r : Run} (h : r.booksSound c) : (r.toConfig c).booksSound c := by
  have books (i : Sled) : (r.toConfig c).books i = { Books.initial with wanted := (r.books i).wanted, cls := (r.books i).cls } := by
    unfold Run.books
    rw [Run.toConfig_get, SledRun.leaveService_books]
    rfl
  refine Run.booksSound_iff.mpr ⟨fun works => absurd ((congrArg Run.mode (r.toConfig_frame c)).trans rfl) works, fun i => ?_, ?_⟩
  · refine .idle (fun off => ?_) (r.toConfig_out c i) ?_ ?_
    · rw [Run.toConfig_get]
      exact SledRun.leaveService_state _ _ ((h.sled i).enabled off)
    · exact ⟨congrArg Books.grant (books i), congrArg Books.loan (books i), congrArg Books.draining (books i)⟩
    · rw [show ((r.toConfig c).sleds.get i).books = _ from books i]
      nofun
  · refine Nat.le_trans (Nat.le_of_eq (sumSleds_zero fun i => ?_)) (Nat.zero_le _)
    unfold Run.lent
    rw [books]
    rfl

/-! ## Writes -/

/-- The books look at the sled records of the configuration only. -/
theorem Run.booksSound_of_sleds {c d : Cfg} {r : Run} (h : r.booksSound c) (same : d.sleds = c.sleds) : r.booksSound d := by
  have costs : costsFault d = costsFault c := by
    unfold costsFault costAt Cfg.sled
    rw [same]
  have sled (i : Sled) : d.sled i = c.sled i := by
    unfold Cfg.sled
    rw [same]
  have floor (i : Sled) : floorCost d i = floorCost c i := by
    unfold floorCost costAt
    rw [sled]
  obtain ⟨falls, each, fits⟩ := Run.booksSound_iff.mp h
  refine Run.booksSound_iff.mpr ⟨costs ▸ falls, fun i => ?_, fits⟩
  obtain ⟨enabled, out, admitting, floors, raised, loan, boost⟩ := each i
  exact ⟨sled i ▸ enabled, out, floor i ▸ admitting, floor i ▸ floors, floor i ▸ raised, loan, boost⟩

/-- In CONFIG the books say nothing but that a sled that is not enabled is DISABLED. -/
theorem Run.booksSound_of_config {c d : Cfg} {r t : Run} (h : r.booksSound c) (q : r.queueSound) (config : t.mode = .config)
    (was : r.mode = .config) (books : ∀ i, t.books i = r.books i) (out : ∀ i, (t.life i).state.inService = false)
    (enabled : ∀ i, (d.sled i).enable = false → (t.life i).state = .disabled) : t.booksSound d := by
  have idle (i : Sled) := (q.2.2.2 was).2 i
  refine Run.booksSound_iff.mpr ⟨fun works => absurd config works, fun i => ?_, ?_⟩
  · have own : (t.sleds.get i).books = (r.sleds.get i).books := books i
    refine .idle (enabled i) (out i) ?_ ?_
    · rw [own]
      exact (h.sled i).out (idle i)
    · rw [own]
      exact (h.sled i).still (idle i)
  · refine Nat.le_trans (Nat.le_of_eq (sumSleds_zero fun i => ?_)) (Nat.zero_le _)
    unfold Run.lent
    rw [books]
    exact h.lent_of_config q was i

theorem Run.changeEnable_get (i j : Sled) (b : Bool) (r : Run) :
    ((r.changeEnable i b).books j = r.books j) ∧ (r.changeEnable i b).mode = r.mode
      ∧ ((r.changeEnable i b).life j).state =
          if j = i then (if b then (if (r.life i).present then .standby else .absent) else .disabled) else (r.life j).state := by
  unfold Run.changeEnable
  cases b with
  | true =>
    rw [if_pos rfl]
    refine ⟨Run.modLife_books .., rfl, ?_⟩
    rw [Run.modLife_life]
    split <;> simp
  | false =>
    rw [if_neg Bool.false_ne_true]
    refine ⟨(Run.modChan_books ..).trans (Run.modLife_books ..), rfl, ?_⟩
    rw [Run.modChan_life, Run.modLife_life]
    split <;> simp

theorem Cfg.withSled_sled (c : Cfg) (i j : Sled) (x : SledCfg) : (c.withSled i x).sled j = if j = i then x else c.sled j := modAt_get ..

theorem Run.booksSound_sledWritten {c : Cfg} {i : Sled} {x : SledCfg} {r : Run} (h : r.booksSound c) (q : r.queueSound)
    (config : r.mode = .config) : (r.sledWritten c i x).booksSound (c.withSled i x) := by
  have idle := (q.2.2.2 config).2
  unfold Run.sledWritten
  split
  · next same =>
    refine Run.booksSound_of_config h q config config (fun _ => rfl) idle fun j off => (h.sled j).enabled ?_
    rw [Cfg.withSled_sled] at off
    split at off
    · next e => rw [e, ← same]; exact off
    · exact off
  · have get := fun j => r.changeEnable_get i j x.enable
    refine Run.booksSound_of_config h q ((get i).2.1.trans config) config (fun j => (get j).1) (fun j => ?_) fun j off => ?_
    · rw [(get j).2.2]
      split
      · split
        · split <;> rfl
        · rfl
      · exact idle j
    · rw [Cfg.withSled_sled] at off
      rw [(get j).2.2]
      split at off
      · next e => rw [if_pos e, off]; rfl
      · next e => rw [if_neg e]; exact (h.sled j).enabled off

/-! ## Every effect -/

theorem Run.booksSound_refclk {s : State} (h : s.run.booksSound s.cfg) : s.refclk.run.booksSound s.cfg := by
  have run := s.refclk_run
  have get (i : Sled) := (s.refclk_sled_counts i).1
  have same : Run.SameAccounts s.run s.refclk.run :=
    { queue := (congrArg Run.queue run).trans rfl
      raiseOrder := (congrArg Run.raiseOrder run).trans rfl
      boostList := (congrArg Run.boostList run).trans rfl
      mode := s.refclk_mode
      size := (congrArg (fun r : Run => r.pool.size) run).trans rfl
      units := fun i => ⟨congrArg (fun x => x.books.grant) (get i), congrArg (fun x => x.books.loan) (get i),
        congrArg (fun x => x.books.draining) (get i), congrArg (fun x => x.books.floorReserved) (get i),
        congrArg (fun x => x.books.boost) (get i)⟩
      state := fun i => congrArg (fun x => x.life.state) (get i) }
  exact same.booksSound h

/-- Every effect of a command keeps the books sound. -/
theorem Does.booksSound {c c' : Cfg} {r r' : Run} {i : Instr} (d : Does c r i c' r') (q : r.queueSound) (h : r.booksSound c) :
    r'.booksSound c' := by
  have moves {t : Run} (m : Run.Moves c r t) : t.booksSound c := m.booksSound h
  have writes {d : Cfg} (same : d.sleds = c.sleds) : r.booksSound d := Run.booksSound_of_sleds h same
  cases d with
  | keep => exact h
  | linkFault _ e => exact moves (.raise ..)
  | powerOn => exact (Run.pinReset_atReset ..).booksSound
  | rstNLow => exact (Run.pinReset_atReset ..).booksSound
  | resetRelease rate => exact ((Run.pinReset_atReset ..).post ..).booksSound
  | softReset => exact (Run.softReset_atReset ..).booksSound
  | boundary i => exact Run.booksSound_boundary h
  | sectionEnd i => exact moves (.modChan ..)
  | expireLease counts => exact Run.booksSound_expireLease h (by
      have working := (Run.leaseCounts_iff r).mp counts
      exact working.2)
  | setPrs i l => exact moves (.modLife fun _ => rfl)
  | presenceLine i l => exact moves (.modLife fun _ => rfl)
  | settlePresence i => exact Run.booksSound_settlePresence h q
  | admissionExpired i => exact moves (.admissionExpired ..)
  | settleZone z => exact moves (.settleZone ..)
  | releaseExpired => exact moves ((Run.Moves.setZone ..).trans (.post ..))
  | setAlr i l => exact moves (.modAlert ..)
  | sampleAlert i l => exact moves (.sampleAlert ..)
  | acceptSample i => exact moves ((Run.Moves.modAlert ..).trans (.acceptAlert ..))
  | sustain i => exact moves (.sustain ..)
  | stick i => exact moves (.stick ..)
  | hotExpired i => exact moves (.hotExpired ..)
  | dueEvent p => exact moves (.dueEvent ..)
  | initEnds n p => exact moves (.onLanes (.initEnds ..))
  | notAcknowledged n k p => exact moves (.notAcknowledged ..)
  | settleEnds n p => exact moves (.onLanes (.beginWaitOrRead ..))
  | waitEnds n p o => exact moves (.endPoll ..)
  | readEnds n b0 b1 p o => exact moves ((Run.Moves.onLanes (.closeOnLane ..)).trans (.endPoll ..))
  | transactionExpired n => exact moves (.transactionExpired ..)
  | abortEnds n => exact moves (.onLanes ((Run.OnLanes.closeOnLane ..).trans (.freeLane ..)))
  | attemptChecked n l => exact moves (.attemptChecked ..)
  | attemptTimesOut n => exact moves ((Run.Moves.onLanes (.abandonLane ..)).trans (.attemptFailed ..))
  | enterRun t config valid => exact Run.booksSound_enterRun h q valid
  | runFromSafe t safe => exact Run.booksSound_runFromSafe h safe
  | toConfig => exact Run.booksSound_toConfig h
  | writeGlobals t p => exact (Run.Moves.globalsWritten ..).booksSound (writes rfl)
  | writeSled t p config => exact Run.booksSound_sledWritten h q config
  | setPool t p floors => exact Run.booksSound_setPool h q floors
  | setWant t p i w k works present =>
    refine Run.booksSound_setWant h works fun disabled => ?_
    rw [disabled] at present
    cases present
  | startBoost t p i n run none tracking above covered => exact Run.booksSound_startBoost h none tracking covered above
  | release => exact Run.booksSound_release h
  | clearZone => exact moves (.endEmergency ..)
  | resetLane t p n => exact moves (.onLanes (.beginAttempt ..))
  | clearAlert t x i => exact moves (.modAlert ..)
  | writeLevels | writeProbe | writeScript | writeRouting => exact writes rfl
  | setNotices t p => exact Run.booksSound_of_sleds (r := { r with notices := _ }) h rfl
  | setZonePin | zoneLine | failValidation | renewLease | queryProbe | clearFaults => exact h

end Sys2Proof.Machine

open Sys2Proof Sys2Proof.Machine

/-- Settles O8: every effect of a command, the service after it and the passing of time keep the books sound, on a queue in order. -/
theorem booksStaySound : Obligations.BooksStaySound := by
  unfold Obligations.BooksStaySound
  intro s t q h ht
  refine (step_preserves (P := fun c r => r.queueSound ∧ r.booksSound c) ⟨fun _ _ _ => id, fun c r hr => ?_⟩
    (fun _ _ _ _ _ d hr => ?_) (fun _ _ _ => id) (fun _ _ _ => id) (fun s hs => ?_) ht ⟨q, h⟩).2
  · obtain ⟨queue, books⟩ := hr
    exact ⟨Run.queueSound_serveIfDue queue, Run.booksSound_serveIfDue queue books⟩
  · obtain ⟨queue, books⟩ := hr
    exact ⟨d.queueSound queue, d.booksSound queue books⟩
  · obtain ⟨queue, books⟩ := hs
    exact ⟨Run.queueSound_refclk queue, Run.booksSound_refclk books⟩
end

section
/-! SUPPORT. The joins that follow a revocation (R39, R49; assumption 17): a list of entries put in one after another, each at the
back of its class. -/

namespace Sys2Proof.Machine

open Sys2Proof

/-! ## Entries put in one after another -/

/-- The queue is sorted by class. -/
abbrev sortedByClass (q : List Entry) : Prop := q.Pairwise fun a b => a.cls.rank ≤ b.cls.rank

theorem insertEntry_split_sorted {e : Entry} {q : List Entry} (sorted : sortedByClass q) :
    ∃ front back, insertEntry e q = front ++ e :: back ∧ front ++ back = q ∧ (∀ x ∈ front, x.cls.rank ≤ e.cls.rank)
      ∧ ∀ x ∈ back, e.cls.rank < x.cls.rank := by
  obtain ⟨front, back, whole, rfl, below, above⟩ := insertEntry_split e q
  refine ⟨front, back, whole, rfl, below, fun x hx => ?_⟩
  cases back with
  | nil => cases hx
  | cons y ys =>
    have first := above y rfl
    rcases List.mem_cons.mp hx with rfl | hx
    · exact first
    · have := (List.pairwise_cons.mp (List.pairwise_append.mp sorted).2.1).1 x hx
      omega

/-- A relation between the entries of a queue in the order of their places, where a new entry comes at the back of its class. -/
theorem pairwise_insertEntry_of {R : Entry → Entry → Prop} {e : Entry} {q : List Entry} (sorted : sortedByClass q) (rel : q.Pairwise R)
    (before : ∀ x ∈ q, x.cls.rank ≤ e.cls.rank → R x e) (after : ∀ x ∈ q, e.cls.rank < x.cls.rank → R e x) :
    (insertEntry e q).Pairwise R := by
  obtain ⟨front, back, whole, rfl, below, above⟩ := insertEntry_split_sorted (e := e) sorted
  obtain ⟨hf, hb, cross⟩ := List.pairwise_append.mp rel
  rw [whole, List.pairwise_append, List.pairwise_cons]
  refine ⟨hf, ⟨fun x hx => after x (by simp [hx]) (above x hx), hb⟩, fun a ha x hx => ?_⟩
  rcases List.mem_cons.mp hx with rfl | hx
  · exact before a (by simp [ha]) (below a ha)
  · exact cross a ha x hx

theorem sortedByClass_insertEntry {e : Entry} {q : List Entry} (sorted : sortedByClass q) : sortedByClass (insertEntry e q) :=
  pairwise_insertEntry_of sorted sorted (fun _ _ => id) fun _ _ => Nat.le_of_lt

theorem sublist_insertEntry (e : Entry) (q : List Entry) : q.Sublist (insertEntry e q) := by
  obtain ⟨front, back, whole, rfl, -⟩ := insertEntry_split e q
  rw [whole]
  exact (List.Sublist.refl front).append (List.sublist_cons_self ..)

theorem filter_insertEntry {p : Entry → Bool} {e : Entry} (q : List Entry) (h : p e = false) :
    (insertEntry e q).filter p = q.filter p := by
  obtain ⟨front, back, whole, rfl, -⟩ := insertEntry_split e q
  rw [whole, List.filter_append, List.filter_append, List.filter_cons_of_neg (by simp [h])]

/-- Entries put in one after another. -/
def insertAll (es : List Entry) (q : List Entry) : List Entry := es.foldl (fun q e => insertEntry e q) q

theorem insertAll_cons (e : Entry) (es q : List Entry) : insertAll (e :: es) q = insertAll es (insertEntry e q) := rfl

theorem mem_insertAll {es q : List Entry} {x : Entry} : x ∈ insertAll es q ↔ x ∈ es ∨ x ∈ q := by
  induction es generalizing q with
  | nil => simp [insertAll]
  | cons e es ih =>
    rw [insertAll_cons, ih, mem_insertEntry, List.mem_cons, or_assoc]
    exact or_left_comm

theorem filter_insertAll {p : Entry → Bool} {es : List Entry} (q : List Entry) (h : ∀ e ∈ es, p e = false) :
    (insertAll es q).filter p = q.filter p := by
  induction es generalizing q with
  | nil => rfl
  | cons e es ih =>
    rw [insertAll_cons, ih _ fun x hx => h x (by simp [hx]), filter_insertEntry q (h e (by simp))]

theorem sublist_insertAll (es q : List Entry) : q.Sublist (insertAll es q) := by
  induction es generalizing q with
  | nil => exact .refl _
  | cons e es ih => exact (sublist_insertEntry e q).trans (ih _)

theorem sortedByClass_insertAll {es q : List Entry} (sorted : sortedByClass q) : sortedByClass (insertAll es q) := by
  induction es generalizing q with
  | nil => exact sorted
  | cons e es ih => exact ih (sortedByClass_insertEntry sorted)

/-- The new entries of a class stand behind the old ones. -/
theorem newBehindOld_insertAll {new : Entry → Bool} {es q : List Entry} (sorted : sortedByClass q) (fresh : ∀ e ∈ es, new e = true)
    (rel : q.Pairwise fun a b => new a = true → b.cls = a.cls → new b = true) :
    (insertAll es q).Pairwise fun a b => new a = true → b.cls = a.cls → new b = true := by
  induction es generalizing q with
  | nil => exact rel
  | cons e es ih =>
    refine ih (sortedByClass_insertEntry sorted) (fun x hx => fresh x (by simp [hx])) ?_
    refine pairwise_insertEntry_of sorted rel (fun _ _ _ _ _ => fresh e (by simp)) fun x _ later _ same => ?_
    rw [same] at later
    exact absurd later (Nat.lt_irrefl _)

/-- Two new entries of one class stand in the order in which they were put in. -/
theorem sublist_insertAll_pair {es q : List Entry} {a b : Entry} (sorted : sortedByClass q) (order : [a, b].Sublist es)
    (same : a.cls = b.cls) : [a, b].Sublist (insertAll es q) := by
  obtain ⟨first, rest, rfl, ha, hb⟩ := List.cons_sublist_iff.mp order
  obtain ⟨mid, last, rfl⟩ := List.append_of_mem (List.singleton_sublist.mp hb)
  let u := insertAll (first ++ mid) q
  have whole : insertAll (first ++ (mid ++ b :: last)) q = insertAll last (insertEntry b u) := by
    unfold u insertAll
    rw [← List.append_assoc, List.foldl_append, List.foldl_cons]
  have mem : a ∈ u := mem_insertAll.mpr (.inl (List.mem_append_left _ ha))
  obtain ⟨front, back, split, parts, -, above⟩ := insertEntry_split_sorted (e := b) (sortedByClass_insertAll (es := first ++ mid) sorted)
  have inFront : a ∈ front := by
    refine (List.mem_append.mp (by rw [parts]; exact mem)).resolve_right fun behind => ?_
    have := above a behind
    rw [same] at this
    exact Nat.lt_irrefl _ this
  rw [whole]
  refine List.Sublist.trans ?_ (sublist_insertAll last _)
  rw [show insertEntry b u = _ from split]
  exact (List.singleton_sublist.mpr inFront).append (List.singleton_sublist.mpr (List.mem_cons_self ..))

/-! ## The joins in the order of the cuts -/

/-- The entry a sled joins with, behind its class (R39). -/
def Run.classEntry (c : Cfg) (r : Run) (i : Sled) : Entry :=
  { sled := i, cls := .cls (r.books i).cls, wanted := (r.books i).wanted, held := r.entryHeld c i (.cls (r.books i).cls) }

/-- Whether a sled joins: not queued, TRACKING and short of its want (R39). -/
def Run.joins (c : Cfg) (r : Run) (i : Sled) : Bool :=
  !r.queued i && (r.life i).state == .tracking && decide ((r.books i).grant < r.wantCost c i)

theorem Run.joins_iff {c : Cfg} {r : Run} {i : Sled} :
    r.joins c i = true ↔ r.queued i = false ∧ (r.life i).state = .tracking ∧ (r.books i).grant < r.wantCost c i := by
  simp [Run.joins, and_assoc]

theorem Run.joinIfShort_eq (c : Cfg) (i : Sled) (r : Run) :
    r.joinIfShort c i = if r.joins c i then r.join c i (.cls (r.books i).cls) else r := by
  by_cases joins : r.joins c i = true
  · obtain ⟨new, tracking, short⟩ := Run.joins_iff.mp joins
    rw [if_pos joins, Run.joinIfShort_of_short new tracking short]
  · rw [if_neg joins]
    unfold Run.joinIfShort
    refine if_pos ?_
    simp only [Run.joins, Bool.and_eq_true, Bool.not_eq_true', beq_iff_eq, decide_eq_true_eq, not_and] at joins
    simp only [Bool.or_eq_true, Bool.not_eq_true', beq_eq_false_iff_ne, decide_eq_true_eq]
    by_cases queued : r.queued i = true
    · exact .inl (.inl queued)
    · by_cases tracking : (r.life i).state = .tracking
      · exact .inr (Nat.not_lt.mp (joins ⟨Bool.not_eq_true _ ▸ queued, tracking⟩))
      · exact .inl (.inr tracking)

theorem Run.queued_join {c : Cfg} {i j : Sled} {k : QClass} {r : Run} (h : j ≠ i) : (r.join c i k).queued j = r.queued j := by
  rw [Bool.eq_iff_iff, Run.queued_iff, Run.queued_iff]
  constructor
  · rintro ⟨e, he, rfl⟩
    rcases mem_insertEntry.mp he with rfl | old
    · exact absurd rfl h
    · exact ⟨e, old, rfl⟩
  · rintro ⟨e, he, rfl⟩
    exact ⟨e, mem_insertEntry.mpr (.inr he), rfl⟩

/-- The joins of a list of sleds: each that joins at all joins in its turn. -/
theorem Run.foldl_joinIfShort_queue {c : Cfg} {l : List Sled} (nodup : l.Nodup) (r : Run) :
    (l.foldl (fun r i => r.joinIfShort c i) r).queue = insertAll ((l.filter (r.joins c)).map (r.classEntry c)) r.queue := by
  induction l generalizing r with
  | nil => rfl
  | cons i l ih =>
    obtain ⟨new, nodup⟩ := List.nodup_cons.mp nodup
    rw [List.foldl_cons, ih nodup, Run.joinIfShort_eq]
    split
    · next joins =>
      let u := r.join c i (.cls (r.books i).cls)
      have same : l.filter (u.joins c) = l.filter (r.joins c) := List.filter_congr fun j hj => by
        have other : j ≠ i := fun e => new (e ▸ hj)
        have queued : u.queued j = r.queued j := Run.queued_join other
        show (!u.queued j && _ && _) = (!r.queued j && _ && _)
        rw [queued]
        rfl
      rw [List.filter_cons_of_pos joins, same, List.map_cons, insertAll_cons]
      rfl
    · next stays => rw [List.filter_cons_of_neg stays]

end Sys2Proof.Machine
end

section
/-! SUPPORT. Which loans and grants a revocation takes (R47, R48). -/

namespace Sys2Proof.Machine

open Sys2Proof

/-! ## Which boosts end -/

/-- The first pass leaves what is not a loan, a boost or a draining figure. -/
theorem Run.loansTaken_cuts (r : Run) : Run.Cuts r r.loansTaken.run :=
  .revoked .revokeLoan _ { run := r, deficit := _, taken := _, cut := _ }

theorem Run.loansTaken_cls (r : Run) (i : Sled) : (r.loansTaken.run.books i).cls = (r.books i).cls :=
  (congrArg (fun x : SledRun => x.books.cls) (r.loansTaken_cuts.sled i).same).trans rfl

theorem Run.loansTaken_raiseOrder (r : Run) : r.loansTaken.run.raiseOrder = r.raiseOrder :=
  (congrArg Run.raiseOrder r.loansTaken_spec.frame).trans rfl

/-- What is lent once the boosts of `seen` have been met: their loans are gone where the deficit is not covered. -/
theorem LoansTaken.lent {r : Run} {v : Revoked} {seen : List Sled} (loans : ∀ i, 0 < (r.books i).loan → (r.books i).boost = .running)
    {n : Int} {b : Bool} {l : List Sled} (h : LoansTaken { run := r, deficit := n, taken := b, cut := l } seen v) (j : Sled) :
    r.lent j ≤ v.run.lent j + (if j ∈ seen then (r.books j).loan else 0)
      ∧ (0 < v.deficit → v.run.lent j + (if j ∈ seen then (r.books j).loan else 0) = r.lent j) := by
  rcases h.sled j with same | ⟨hj, running, ended⟩
  · have lent : v.run.lent j = r.lent j := Run.lent_of_get same
    refine ⟨lent ▸ Nat.le_add_right .., fun short => ?_⟩
    split
    · next hj =>
      have still : (v.run.books j).boost ≠ .running := h.ended short j hj
      have books : v.run.books j = r.books j := congrArg SledRun.books same
      rw [lent, Nat.eq_zero_of_not_pos fun pos => still (books ▸ loans j pos)]
      rfl
    · exact lent
  · have total := Run.lent_boostEnded ended running
    rw [if_pos hj, total]
    exact ⟨Nat.le_refl _, fun _ => rfl⟩

/-- A boost ends exactly where the loans of the younger ones do not cover the deficit. -/
theorem Run.loansTaken_ends {r : Run} {i : Sled} {older younger : List Sled} (order : r.boostList = older ++ i :: younger)
    (new : i ∉ younger) (running : (r.books i).boost = .running) (loans : ∀ i, 0 < (r.books i).loan → (r.books i).boost = .running) :
    (r.loansTaken.run.books i).boost = .rearm
      ↔ ((sumSleds fun j => if j ∈ younger then (r.books j).loan else 0 : Nat) : Int) < r.deficit := by
  let u : Revoked := { run := r, deficit := r.deficit, taken := false, cut := [] }
  let w := younger.reverse.foldl revokeLoan u
  have met : LoansTaken u younger.reverse w := (LoansTaken.start rfl).foldl _
  have whole : r.loansTaken = older.reverse.foldl revokeLoan (revokeLoan w i) := by
    unfold Run.loansTaken
    rw [order, List.reverse_append, List.reverse_cons, List.foldl_append, List.foldl_append]
    rfl
  have own : w.run.sleds.get i = r.sleds.get i := (met.sled i).resolve_right fun h => new (List.mem_reverse.mp h.1)
  have runs : (w.run.books i).boost = .running := (congrArg (fun x => x.books.boost) own).trans running
  have size : w.run.pool.size = r.pool.size := (congrArg (fun x : Run => x.pool.size) met.frame).trans rfl
  have deficit := met.deficit
  have lent := fun j => met.lent loans j
  simp only [List.mem_reverse] at lent
  rw [Run.deficit_eq, size] at deficit
  rw [Run.deficit_eq]
  by_cases short : 0 < w.deficit
  · have total := sumSleds_add fun j => (lent j).2 short
    have next := (met.step i).deficit
    have rest : LoansTaken (revokeLoan w i) older.reverse r.loansTaken := whole ▸ (LoansTaken.start next).foldl _
    have ended : ((revokeLoan w i).run.books i).boost = .rearm := by
      rw [revokeLoan_of_running short runs]
      unfold Run.books
      dsimp only
      rw [Run.endBoostEarly_get, if_pos rfl]
      unfold SledRun.boostEnded
      rw [if_pos (show (w.run.sleds.get i).books.boost = .running from runs)]
    have kept : r.loansTaken.run.sleds.get i = (revokeLoan w i).run.sleds.get i := (rest.sled i).resolve_right fun h => by
      cases ended.symm.trans h.2.1
    refine iff_of_true ((congrArg (fun x => x.books.boost) kept).trans ended) ?_
    omega
  · have covered := Int.not_lt.mp short
    have stops : r.loansTaken = w := by
      rw [whole, revokeLoan_of_covered covered]
      exact foldl_of_fixed (fun _ => revokeLoan_of_covered covered) _
    have total := sumSleds_add (f := w.run.lent) (g := fun j => if j ∈ younger then (r.books j).loan else 0) fun _ => rfl
    have more := sumSleds_le fun j => (lent j).1
    refine iff_of_false (fun rearm => ?_) ?_
    · rw [stops, runs] at rearm
      cases rearm
    · omega

/-! ## Which grants are cut -/

/-- The order of the cuts splits at a sled's youngest place: before it come the higher classes and the newer raises of its own. -/
theorem Run.revokeOrder_split {r : Run} {i : Sled} {older newer : List Sled} (order : r.raiseOrder = older ++ i :: newer) :
    ∃ first rest, r.revokeOrder = first ++ i :: rest
      ∧ ∀ j, j ∈ first ↔ (r.books i).cls < (r.books j).cls ∧ j ∈ r.raiseOrder ∨ (r.books j).cls = (r.books i).cls ∧ j ∈ newer := by
  let block (k : Fin 4) : List Sled := r.raiseOrder.reverse.filter fun j => (r.books j).cls == k
  have classes (k : Fin 4) : ∃ above below, ([3, 2, 1, 0] : List (Fin 4)) = above ++ k :: below ∧ ∀ m, m ∈ above ↔ k < m := by
    match k with
    | 0 => exact ⟨[3, 2, 1], [], rfl, by decide⟩
    | 1 => exact ⟨[3, 2], [0], rfl, by decide⟩
    | 2 => exact ⟨[3], [1, 0], rfl, by decide⟩
    | 3 => exact ⟨[], [2, 1, 0], rfl, by decide⟩
  obtain ⟨above, below, split, mem⟩ := classes (r.books i).cls
  have own : block (r.books i).cls =
      (newer.reverse.filter fun j => (r.books j).cls == (r.books i).cls)
        ++ i :: older.reverse.filter fun j => (r.books j).cls == (r.books i).cls := by
    unfold block
    rw [order, List.reverse_append, List.reverse_cons, List.append_assoc, List.filter_append, List.singleton_append,
      List.filter_cons_of_pos (by simp)]
  refine ⟨above.flatMap block ++ (newer.reverse.filter fun j => (r.books j).cls == (r.books i).cls),
    (older.reverse.filter fun j => (r.books j).cls == (r.books i).cls) ++ below.flatMap block, ?_, fun j => ?_⟩
  · have whole : r.revokeOrder = (above ++ (r.books i).cls :: below).flatMap block := by rw [← split]; rfl
    rw [whole, List.flatMap_append, List.flatMap_cons, own]
    simp
  · have inBlock (k : Fin 4) : j ∈ block k ↔ j ∈ r.raiseOrder ∧ (r.books j).cls = k := by simp [block]
    rw [List.mem_append, List.mem_flatMap]
    simp only [inBlock, mem, List.mem_filter, List.mem_reverse, beq_iff_eq]
    constructor
    · rintro (⟨k, less, hj, rfl⟩ | ⟨hj, same⟩)
      · exact .inl ⟨less, hj⟩
      · exact .inr ⟨same, hj⟩
    · rintro (⟨less, hj⟩ | ⟨same, hj⟩)
      · exact .inl ⟨_, less, hj, rfl⟩
      · exact .inr ⟨hj, same⟩

theorem foldl_revokeGrant_of_covered {c : Cfg} {v : Revoked} (h : v.deficit ≤ 0) (l : List Sled) : l.foldl (revokeGrant c) v = v :=
  foldl_of_fixed (fun _ => revokeGrant_of_kept (.inl h)) l

/-- Once it is at its floor a sled is cut no more. -/
theorem GrantsCut.at_floor {c : Cfg} {u v : Revoked} {seen : List Sled} (h : GrantsCut c u seen v) {i : Sled}
    (low : (u.run.books i).grant ≤ floorCost c i) : (v.run.books i).grant = (u.run.books i).grant :=
  (h.grant i).resolve_right fun ⟨_, floor, less⟩ => by omega

/-- A sled that the pass has not met keeps its grant. -/
theorem GrantsCut.unmet {c : Cfg} {u v : Revoked} {seen : List Sled} (h : GrantsCut c u seen v) {i : Sled} (new : i ∉ seen) :
    (v.run.books i).grant = (u.run.books i).grant := (h.grant i).resolve_right fun e => new e.1

theorem GrantsCut.loan {c : Cfg} {u v : Revoked} {seen : List Sled} (h : GrantsCut c u seen v) (i : Sled) :
    (v.run.books i).loan = (u.run.books i).loan := (congrArg (fun x : SledRun => x.books.loan) (h.sled i)).trans rfl

theorem GrantsCut.grant_le {c : Cfg} {u v : Revoked} {seen : List Sled} (h : GrantsCut c u seen v) (i : Sled) :
    (v.run.books i).grant ≤ (u.run.books i).grant := by
  rcases h.grant i with same | ⟨-, -, less⟩
  · exact Nat.le_of_eq same
  · exact Nat.le_of_lt less

/-- Whether the second pass meets sled `j` before the youngest place of sled `i` in the raise order, as far as it is raised. -/
abbrev Run.cutBefore (r : Run) (i : Sled) (newer : List Sled) (j : Sled) : Prop :=
  (r.books i).cls < (r.books j).cls ∨ (r.books j).cls = (r.books i).cls ∧ j ∈ newer

/-- The deficit left for a sled's cut: the loans and the cuts made before it have covered the rest. -/
def Run.deficitLeft (c : Cfg) (r : Run) (i : Sled) (newer : List Sled) : Int :=
  r.deficit - r.sumLoans
    - (sumSleds fun j => if r.cutBefore i newer j then (r.books j).grant - ((r.grantsCut c).run.books j).grant else 0 : Nat)

/-- The second pass up to the youngest place of sled `i` in the raise order, and from there on. -/
structure Run.CutUpTo (c : Cfg) (r : Run) (i : Sled) (newer first rest : List Sled) (w : Revoked) : Prop where
  before : ∀ j, j ∈ first ↔ r.cutBefore i newer j ∧ j ∈ r.raiseOrder
  unmet : i ∉ first
  met : GrantsCut c r.loansTaken first w
  whole : r.grantsCut c = (i :: rest).foldl (revokeGrant c) w
  after : GrantsCut c w (i :: rest) (r.grantsCut c)

theorem Run.loansTaken_falls {c : Cfg} {r : Run} (costs : costsFault c = none) (each : ∀ i, r.SledSound c i) (i : Sled)
    (above : floorCost c i < (r.loansTaken.run.books i).grant) : ∀ k, floorCost c i ≤ costAt c i k := by
  rw [r.loansTaken_grant] at above
  exact floorCost_le_of_above costs each i above

theorem Run.cutUpTo {c : Cfg} {r : Run} (costs : costsFault c = none) (each : ∀ i, r.SledSound c i) {i : Sled}
    {older newer : List Sled} (order : r.raiseOrder = older ++ i :: newer) (new : i ∉ newer) :
    ∃ first rest w, r.CutUpTo c i newer first rest w := by
  have falls := Run.loansTaken_falls costs each
  obtain ⟨first, rest, split, mem⟩ := Run.revokeOrder_split (r := r.loansTaken.run) (r.loansTaken_raiseOrder.trans order)
  have met : GrantsCut c r.loansTaken first (first.foldl (revokeGrant c) r.loansTaken) :=
    (GrantsCut.start r.loansTaken_spec.deficit).foldl falls _
  have whole : r.grantsCut c = (i :: rest).foldl (revokeGrant c) (first.foldl (revokeGrant c) r.loansTaken) := by
    rw [← List.foldl_append, ← split]
    rfl
  refine ⟨first, rest, _, fun j => ?_, fun hi => ?_, met, whole,
    whole ▸ (GrantsCut.start met.deficit).foldl (fun j above => falls j (Nat.lt_of_lt_of_le above (met.grant_le j))) _⟩
  · rw [mem, r.loansTaken_cls, r.loansTaken_cls, r.loansTaken_raiseOrder]
    have raised (h : j ∈ newer) : j ∈ r.raiseOrder := order ▸ List.mem_append_right _ (List.mem_cons_of_mem _ h)
    constructor
    · rintro (⟨less, hj⟩ | ⟨same, hj⟩)
      · exact ⟨.inl less, hj⟩
      · exact ⟨.inr ⟨same, hj⟩, raised hj⟩
    · rintro ⟨less | same, hj⟩
      · exact .inl ⟨less, hj⟩
      · exact .inr same
  · rcases (mem i).mp hi with ⟨less, -⟩ | ⟨-, hi⟩
    · exact Fin.lt_irrefl _ less
    · exact new hi

namespace Run.CutUpTo

variable {c : Cfg} {r : Run} {i : Sled} {newer first rest : List Sled} {w : Revoked} (h : r.CutUpTo c i newer first rest w)
include h

theorem own : (w.run.books i).grant = (r.books i).grant := (h.met.unmet h.unmet).trans (r.loansTaken_grant i)

/-- What the pass has cut so far is what the sleds before it lose in the whole. -/
theorem cut (costs : costsFault c = none) (each : ∀ i, r.SledSound c i) (j : Sled) :
    (r.books j).grant - (w.run.books j).grant
      = if r.cutBefore i newer j then (r.books j).grant - ((r.grantsCut c).run.books j).grant else 0 := by
  by_cases hj : j ∈ first
  · rw [if_pos ((h.before j).mp hj).1]
    by_cases left : 0 < w.deficit
    · rw [h.after.at_floor (h.met.floors left j hj)]
    · rw [h.whole, foldl_revokeGrant_of_covered (Int.not_lt.mp left)]
  · have same := (h.met.unmet hj).trans (r.loansTaken_grant j)
    rw [same, Nat.sub_self]
    split
    · next earlier =>
      have never := (Run.grantsCut_spec costs each).unmet (i := j) fun hj' => by
        rw [Run.mem_revokeOrder, r.loansTaken_raiseOrder] at hj'
        exact hj ((h.before j).mpr ⟨earlier, hj'⟩)
      rw [never, r.loansTaken_grant, Nat.sub_self]
    · rfl

/-- Where the loans do not cover the deficit, what is left for the sled's cut is the deficit of the moment. -/
theorem deficit (costs : costsFault c = none) (each : ∀ i, r.SledSound c i) (short : 0 < r.loansTaken.deficit) :
    r.deficitLeft c i newer = w.deficit := by
  have size : w.run.pool.size = r.pool.size := by
    have taken : w.run.pool = r.loansTaken.run.pool := (congrArg Run.pool h.met.frame).trans rfl
    rw [taken]
    exact (congrArg (fun x : Run => x.pool.size) r.loansTaken_spec.frame).trans rfl
  have noLoan := Run.loansTaken_loan (fun i => (each i).loan) (fun i running => ((each i).boost running).1) short
  have lent : w.run.lent = fun j => (w.run.books j).grant := funext fun j => by
    unfold Run.lent
    rw [h.met.loan, noLoan]
    rfl
  have total := sumSleds_add (f := fun j => (w.run.books j).grant) (g := fun j => (r.books j).grant - (w.run.books j).grant)
    (h := fun j => (r.books j).grant) fun j => Nat.add_sub_cancel' (Nat.le_trans (h.met.grant_le j) (Nat.le_of_eq (r.loansTaken_grant j)))
  rw [funext (h.cut costs each)] at total
  unfold Run.deficitLeft Run.deficit
  rw [h.met.deficit, Run.deficit_eq, lent, size]
  unfold Run.sumGrants
  omega

/-- A sled above its floor is cut to the grant it keeps under the deficit of the moment. -/
theorem cut_of_short (costs : costsFault c = none) (each : ∀ i, r.SledSound c i) (short : 0 < w.deficit)
    (above : floorCost c i < (r.books i).grant) :
    ((r.grantsCut c).run.books i).grant = keptGrant c i (r.books i).grant w.deficit := by
  have falls := Run.loansTaken_falls costs each
  obtain ⟨-, -, covers⟩ := keptGrant_spec short above (floorCost_le_of_above costs each i above)
  rw [← h.own] at above covers ⊢
  have step := revokeGrant_of_short short above
  have cutGrant : ((revokeGrant c w i).run.books i).grant = keptGrant c i (w.run.books i).grant w.deficit := by
    rw [step]
    exact congrArg Books.grant (Run.modBooks_books_self ..)
  rw [h.whole, List.foldl_cons, ← cutGrant]
  rcases covers with covers | floor
  · refine congrArg (fun v : Revoked => (v.run.books i).grant) (foldl_revokeGrant_of_covered ?_ rest)
    rw [step]
    dsimp only
    omega
  · have next := h.met.step falls i
    refine GrantsCut.at_floor ((GrantsCut.start next.deficit).foldl (fun j above => ?_) rest) (Nat.le_of_eq (cutGrant.trans floor))
    exact falls j (Nat.lt_of_lt_of_le above (next.grant_le j))

end Run.CutUpTo

/-- Where the loans cover the deficit, nothing is left for a cut. -/
theorem Run.deficitLeft_nonpos {c : Cfg} {r : Run} (covered : r.loansTaken.deficit ≤ 0) (i : Sled) (newer : List Sled) :
    r.deficitLeft c i newer ≤ 0 := by
  have loans : sumSleds r.lent ≤ sumSleds r.loansTaken.run.lent + r.sumLoans := by
    have whole := sumSleds_add (f := r.loansTaken.run.lent) (g := fun j => (r.books j).loan) fun _ => rfl
    refine Nat.le_trans (sumSleds_le fun j => ?_) (Nat.le_of_eq whole.symm)
    have grant := r.loansTaken_grant j
    unfold Run.lent
    omega
  have size : r.loansTaken.run.pool.size = r.pool.size := (congrArg (fun x : Run => x.pool.size) r.loansTaken_spec.frame).trans rfl
  have deficit := r.loansTaken_spec.deficit
  rw [Run.deficit_eq, size] at deficit
  unfold Run.deficitLeft
  rw [Run.deficit_eq]
  omega

/-- The cut of a sled's grant: none where nothing is left to cover, else to the grant it keeps (R48). -/
theorem Run.grantsCut_grant {c : Cfg} {r : Run} (costs : costsFault c = none) (each : ∀ i, r.SledSound c i) {i : Sled}
    {older newer : List Sled} (order : r.raiseOrder = older ++ i :: newer) (new : i ∉ newer) :
    (r.deficitLeft c i newer ≤ 0 ∨ (r.books i).grant ≤ floorCost c i → ((r.grantsCut c).run.books i).grant = (r.books i).grant)
      ∧ (0 < r.deficitLeft c i newer → floorCost c i < (r.books i).grant →
          ((r.grantsCut c).run.books i).grant = keptGrant c i (r.books i).grant (r.deficitLeft c i newer)) := by
  by_cases short : 0 < r.loansTaken.deficit
  · obtain ⟨first, rest, w, upTo⟩ := Run.cutUpTo costs each order new
    rw [upTo.deficit costs each short]
    refine ⟨?_, upTo.cut_of_short costs each⟩
    rintro (covered | low)
    · rw [upTo.whole, foldl_revokeGrant_of_covered covered]
      exact upTo.own
    · exact (upTo.after.at_floor (upTo.own ▸ low)).trans upTo.own
  · have covered := Int.not_lt.mp short
    have none : r.grantsCut c = r.loansTaken := foldl_revokeGrant_of_covered covered _
    rw [none]
    exact ⟨fun _ => r.loansTaken_grant i, fun still => absurd still (Int.not_lt.mpr (Run.deficitLeft_nonpos covered i newer))⟩

end Sys2Proof.Machine
end

section
/-! SUPPORT. The books and the queue after a revocation (R47 to R49). -/

namespace Sys2Proof.Machine

open Sys2Proof

/-- The passes leave everything but books, boosts and the boost list. -/
theorem Run.grantsCut_cuts (c : Cfg) (r : Run) : Run.Cuts r (r.grantsCut c).run :=
  r.loansTaken_cuts.trans (.revoked (.revokeGrant c) _ _)

theorem Run.grantsCut_wanted (c : Cfg) (r : Run) (i : Sled) :
    ((r.grantsCut c).run.books i).cls = (r.books i).cls ∧ ((r.grantsCut c).run.books i).wanted = (r.books i).wanted
      ∧ (r.grantsCut c).run.life i = r.life i := by
  have same := ((r.grantsCut_cuts c).sled i).same
  exact ⟨(congrArg (fun x : SledRun => x.books.cls) same).trans rfl, (congrArg (fun x : SledRun => x.books.wanted) same).trans rfl,
    (congrArg SledRun.life same).trans rfl⟩

/-- The notices after a post hang on the mode and the notices before it alone. -/
theorem Run.post_notices_congr {c : Cfg} {k : Notice} {r t : Run} (mode : t.mode = r.mode) (notices : t.notices = r.notices) :
    (t.post c k).notices = (r.post c k).notices := by
  unfold Run.post
  rw [mode]
  split
  · exact congrArg (NoticeSet.insert k) notices
  · exact notices

section

variable {c : Cfg} {r : Run} (costs : costsFault c = none) (each : ∀ i, r.SledSound c i)
include costs each

/-! ## Books -/

/-- A sled's loan is left or taken whole, its grant cut no lower than its floor. -/
theorem Run.grantsCut_books (i : Sled) :
    min (r.books i).grant (floorCost c i) ≤ ((r.grantsCut c).run.books i).grant
      ∧ ((r.grantsCut c).run.books i).grant ≤ (r.books i).grant
      ∧ (((r.grantsCut c).run.books i).loan = (r.books i).loan
          ∨ ((r.grantsCut c).run.books i).loan = 0 ∧ ((r.grantsCut c).run.books i).boost = .rearm) := by
  have spec := Run.grantsCut_spec costs each
  have boost : ((r.grantsCut c).run.books i).boost = (r.loansTaken.run.books i).boost :=
    (congrArg (fun x : SledRun => x.books.boost) (spec.sled i)).trans rfl
  rw [spec.loan, boost, ← r.loansTaken_grant i]
  refine ⟨?_, spec.grant_le i, ?_⟩
  · rcases spec.grant i with same | ⟨-, floor, -⟩
    · exact same ▸ Nat.min_le_left ..
    · exact Nat.le_trans (Nat.min_le_right ..) floor
  · rcases r.loansTaken_spec.sled i with same | ⟨-, running, ended⟩
    · exact .inl (congrArg (fun x : SledRun => x.books.loan) same)
    · have books : r.loansTaken.run.books i = (r.sleds.get i).boostEnded.books := congrArg SledRun.books ended
      rw [books]
      unfold SledRun.boostEnded
      rw [if_pos (show (r.sleds.get i).books.boost = .running from running)]
      exact .inr ⟨rfl, rfl⟩

/-- Where a grant is cut, no loan is left. -/
theorem Run.grantsCut_loan {j : Sled} (cut : ((r.grantsCut c).run.books j).grant < (r.books j).grant) (i : Sled) :
    ((r.grantsCut c).run.books i).loan = 0 := by
  have spec := Run.grantsCut_spec costs each
  rw [spec.loan]
  refine Run.loansTaken_loan (fun i => (each i).loan) (fun i running => ((each i).boost running).1) (Int.not_le.mp fun covered => ?_) i
  have none : r.grantsCut c = r.loansTaken := foldl_revokeGrant_of_covered covered _
  rw [none, r.loansTaken_grant] at cut
  exact Nat.lt_irrefl _ cut

/-! ## The order of the cuts -/

theorem Run.mem_cut (i : Sled) : i ∈ (r.grantsCut c).cut ↔ ((r.grantsCut c).run.books i).grant < (r.books i).grant := by
  obtain ⟨l, append, -, mem⟩ := (Run.grantsCut_spec costs each).cut
  rw [append, r.loansTaken_spec.cut, ← r.loansTaken_grant i]
  exact mem i

theorem Run.nodup_cut : (r.grantsCut c).cut.Nodup := by
  obtain ⟨l, append, nodup, -⟩ := (Run.grantsCut_spec costs each).cut
  rw [append, r.loansTaken_spec.cut]
  exact nodup

/-- Of two sleds of one class that are cut, the newer raise is cut first. -/
theorem Run.cut_order {i j : Sled} {older newer : List Sled} (order : r.raiseOrder = older ++ j :: newer) (new : j ∉ newer)
    (behind : i ∈ newer) (same : (r.books i).cls = (r.books j).cls) (hi : i ∈ (r.grantsCut c).cut) (hj : j ∈ (r.grantsCut c).cut) :
    [i, j].Sublist (r.grantsCut c).cut := by
  obtain ⟨first, rest, w, upTo⟩ := Run.cutUpTo costs each order new
  have spec := Run.grantsCut_spec costs each
  obtain ⟨l, append, -, mem⟩ := upTo.met.cut
  obtain ⟨l', append', -, mem'⟩ := upTo.after.cut
  rw [r.loansTaken_spec.cut] at append
  have append : w.cut = l := append
  have unmet : j ∉ l := fun e => absurd ((mem j).mp e) (by rw [upTo.met.unmet upTo.unmet]; exact Nat.lt_irrefl _)
  have later : j ∈ l' := by
    rw [append', append] at hj
    exact (List.mem_append.mp hj).resolve_left unmet
  have short : 0 < w.deficit := Int.not_le.mp fun covered => by
    have := (mem' j).mp later
    rw [upTo.whole, foldl_revokeGrant_of_covered covered] at this
    exact Nat.lt_irrefl _ this
  have earlier : i ∈ l := by
    refine (mem i).mpr ?_
    have met : i ∈ first := (upTo.before i).mpr ⟨.inr ⟨same, behind⟩, order ▸ List.mem_append_right _ (List.mem_cons_of_mem _ behind)⟩
    rw [← upTo.after.at_floor (upTo.met.floors short i met), r.loansTaken_grant]
    exact (Run.mem_cut costs each i).mp hi
  rw [append', append]
  exact (List.singleton_sublist.mpr earlier).append (List.singleton_sublist.mpr later)

/-! ## The queue -/

/-- The sleds that join after a revocation, in the order in which they join. -/
def Run.cutJoiners (c : Cfg) (r : Run) : List Sled := (r.grantsCut c).cut.filter ((r.grantsCut c).run.joins c)

theorem Run.grantsCut_queue : (r.grantsCut c).run.queue = r.queue := by
  have cuts : (r.grantsCut c).run.queue = r.loansTaken.run.queue := (congrArg Run.queue (Run.grantsCut_spec costs each).frame).trans rfl
  exact cuts.trans ((congrArg Run.queue r.loansTaken_spec.frame).trans rfl)

theorem Run.mem_cutJoiners (i : Sled) :
    i ∈ r.cutJoiners c ↔ r.queued i = false ∧ ((r.grantsCut c).run.books i).grant < (r.books i).grant
      ∧ (r.life i).state = .tracking ∧ ((r.grantsCut c).run.books i).grant < r.wantCost c i := by
  obtain ⟨-, wanted, life⟩ := r.grantsCut_wanted c i
  have queued : (r.grantsCut c).run.queued i = r.queued i := by
    unfold Run.queued
    rw [Run.grantsCut_queue costs each]
  have want : (r.grantsCut c).run.wantCost c i = r.wantCost c i := by
    unfold Run.wantCost
    rw [wanted]
  unfold Run.cutJoiners
  rw [List.mem_filter, Run.mem_cut costs each, Run.joins_iff, queued, life, want]
  exact and_left_comm

/-- The queue after a revocation: those that join come in one after another, and every held flag follows R42. -/
theorem Run.revoke_queue (floors : r.floorsHeld c ≤ r.pool.size) (short : 0 < r.deficit) :
    (r.revoke c).queue =
        (insertAll ((r.cutJoiners c).map ((r.grantsCut c).run.classEntry c)) r.queue).map (fun e =>
          { e with held := (r.grantsCut c).run.entryHeld c e.sled e.cls })
      ∧ (r.revoke c).entryHeld c = (r.grantsCut c).run.entryHeld c := by
  let joined := (r.grantsCut c).cut.foldl (fun r i => r.joinIfShort c i) (r.grantsCut c).run
  have frame := Run.foldl_joinIfShort_frame c (r.grantsCut c).cut (r.grantsCut c).run
  have held : joined.entryHeld c = (r.grantsCut c).run.entryHeld c := Run.entryHeld_congr
    (fun i => (congrArg (fun x : Run => x.therm i) frame).trans rfl)
    (fun i => ⟨(congrArg (fun x : Run => (x.books i).grant) frame).trans rfl, (congrArg (fun x : Run => (x.books i).boost) frame).trans rfl⟩)
    ((congrArg Run.mode frame).trans rfl) ((congrArg (fun x : Run => x.zone.state) frame).trans rfl)
  have queue : joined.queue = insertAll ((r.cutJoiners c).map ((r.grantsCut c).run.classEntry c)) r.queue := by
    rw [← Run.grantsCut_queue costs each]
    exact Run.foldl_joinIfShort_queue (Run.nodup_cut costs each) _
  rw [Run.revoke_of_short costs each floors short]
  constructor
  · rw [Run.post_queue, Run.refreshHeld_queue, ← queue, ← held]
  · rw [Run.post_entryHeld]
    exact held

/-- The notice of a revocation (R49). -/
theorem Run.revoke_notices (floors : r.floorsHeld c ≤ r.pool.size) (short : 0 < r.deficit) :
    (r.revoke c).notices = (r.post c .pool).notices := by
  have frame := Run.foldl_joinIfShort_frame c (r.grantsCut c).cut (r.grantsCut c).run
  have cuts := (Run.grantsCut_spec costs each).frame
  have loans := r.loansTaken_spec.frame
  have mode : ((r.grantsCut c).cut.foldl (fun r i => r.joinIfShort c i) (r.grantsCut c).run).mode = r.mode :=
    ((congrArg Run.mode frame).trans rfl).trans (((congrArg Run.mode cuts).trans rfl).trans ((congrArg Run.mode loans).trans rfl))
  have notices : ((r.grantsCut c).cut.foldl (fun r i => r.joinIfShort c i) (r.grantsCut c).run).notices = r.notices :=
    ((congrArg Run.notices frame).trans rfl).trans
      (((congrArg Run.notices cuts).trans rfl).trans ((congrArg Run.notices loans).trans rfl))
  rw [Run.revoke_of_short costs each floors short]
  exact Run.post_notices_congr mode notices

end

end Sys2Proof.Machine
end

section
namespace Sys2Proof.Machine

open Sys2Proof

/-! ## The queue of a revocation, place by place -/

/-- An entry's seat and want. -/
abbrev Entry.place (e : Entry) : Sled × QClass × Level := (e.sled, e.cls, e.wanted)

section

variable {c : Cfg} {r : Run} (costs : costsFault c = none) (each : ∀ i, r.SledSound c i) (floors : r.floorsHeld c ≤ r.pool.size)
  (short : 0 < r.deficit)
include costs each

/-- The entries of the sleds that join are new. -/
theorem Run.new_of_joiner {e : Entry} (he : e ∈ (r.cutJoiners c).map ((r.grantsCut c).run.classEntry c)) :
    r.queued e.sled = false ∧ e.sled ∈ r.cutJoiners c ∧ e.cls = .cls (r.books e.sled).cls ∧ e.wanted = (r.books e.sled).wanted := by
  obtain ⟨i, hi, rfl⟩ := List.mem_map.mp he
  obtain ⟨new, -⟩ := (Run.mem_cutJoiners costs each i).mp hi
  obtain ⟨cls, wanted, -⟩ := r.grantsCut_wanted c i
  exact ⟨new, hi, congrArg QClass.cls cls, wanted⟩

include floors short

/-- The entries that waited keep their places. -/
theorem Run.revoke_places : ((r.revoke c).queue.filter fun e => r.queued e.sled).map Entry.place = r.queue.map Entry.place := by
  have old : r.queue.filter (fun e => r.queued e.sled) = r.queue := List.filter_eq_self.mpr fun e he => Run.queued_of_mem he
  rw [(Run.revoke_queue costs each floors short).1, List.filter_map, List.map_map]
  have kept : (insertAll ((r.cutJoiners c).map ((r.grantsCut c).run.classEntry c)) r.queue).filter
      ((fun e => r.queued e.sled) ∘ fun e => { e with held := (r.grantsCut c).run.entryHeld c e.sled e.cls }) = r.queue :=
    (filter_insertAll (p := fun e => r.queued e.sled) r.queue fun e he => (Run.new_of_joiner costs each he).1).trans old
  rw [kept]
  rfl

theorem Run.mem_revoke_queue {e : Entry} (he : e ∈ (r.revoke c).queue) :
    ∃ x, (x ∈ (r.cutJoiners c).map ((r.grantsCut c).run.classEntry c) ∨ x ∈ r.queue) ∧ x.place = e.place := by
  rw [(Run.revoke_queue costs each floors short).1] at he
  obtain ⟨x, hx, rfl⟩ := List.mem_map.mp he
  exact ⟨x, mem_insertAll.mp hx, rfl⟩

theorem Run.revoke_queued (i : Sled) : (r.revoke c).queued i = true ↔ r.queued i = true ∨ i ∈ r.cutJoiners c := by
  rw [Run.queued_iff]
  constructor
  · rintro ⟨e, he, rfl⟩
    obtain ⟨x, hx, same⟩ := Run.mem_revoke_queue costs each floors short he
    have sled : x.sled = e.sled := congrArg Prod.fst same
    rcases hx with new | old
    · exact .inr (sled ▸ (Run.new_of_joiner costs each new).2.1)
    · exact .inl (sled ▸ Run.queued_of_mem old)
  · intro h
    have source : ∃ x ∈ insertAll ((r.cutJoiners c).map ((r.grantsCut c).run.classEntry c)) r.queue, x.sled = i := by
      rcases h with queued | joins
      · obtain ⟨x, hx, same⟩ := Run.queued_iff.mp queued
        exact ⟨x, mem_insertAll.mpr (.inr hx), same⟩
      · exact ⟨_, mem_insertAll.mpr (.inl (List.mem_map_of_mem joins)), rfl⟩
    obtain ⟨x, hx, same⟩ := source
    rw [(Run.revoke_queue costs each floors short).1]
    exact ⟨_, List.mem_map_of_mem hx, same⟩

/-- A sled that joins stands behind its class with its want, and behind it in the class stand only others that joined. -/
theorem Run.revoke_joiner (sound : r.queueSound) {e : Entry} {front back : List Entry} (whole : (r.revoke c).queue = front ++ e :: back)
    (new : r.queued e.sled = false) :
    e.cls = .cls (r.books e.sled).cls ∧ e.wanted = (r.books e.sled).wanted ∧ (∀ x ∈ front, x.cls.rank ≤ e.cls.rank)
      ∧ ∀ x ∈ back, x.cls = e.cls → r.queued x.sled = false := by
  have he : e ∈ (r.revoke c).queue := whole ▸ List.mem_append_right _ (List.mem_cons_self ..)
  obtain ⟨x, hx, same⟩ := Run.mem_revoke_queue costs each floors short he
  have sled : x.sled = e.sled := congrArg Prod.fst same
  have cls : x.cls = e.cls := congrArg (fun p => p.2.1) same
  have wanted : x.wanted = e.wanted := congrArg (fun p => p.2.2) same
  have joiner := hx.resolve_right fun old => by
    rw [← sled, Run.queued_of_mem old] at new
    cases new
  obtain ⟨-, -, ownCls, ownWanted⟩ := Run.new_of_joiner costs each joiner
  rw [sled] at ownCls ownWanted
  have sorted : sortedByClass r.queue := sound.1.imp fun h => h.1
  have classes : sortedByClass (r.revoke c).queue := by
    rw [(Run.revoke_queue costs each floors short).1]
    exact List.pairwise_map.mpr (sortedByClass_insertAll sorted)
  have behind : (r.revoke c).queue.Pairwise fun a b => (!r.queued a.sled) = true → b.cls = a.cls → (!r.queued b.sled) = true := by
    rw [(Run.revoke_queue costs each floors short).1]
    refine List.pairwise_map.mpr (newBehindOld_insertAll (new := fun e => !r.queued e.sled) sorted (fun e he => ?_)
      (List.pairwise_of_forall_mem_list fun a ha b _ fresh => ?_))
    · rw [(Run.new_of_joiner costs each he).1]
      rfl
    · rw [Run.queued_of_mem ha] at fresh
      cases fresh
  rw [whole] at classes behind
  obtain ⟨-, -, before⟩ := List.pairwise_append.mp classes
  obtain ⟨-, after, -⟩ := List.pairwise_append.mp behind
  refine ⟨cls.symm.trans ownCls, wanted.symm.trans ownWanted, fun x hx => before x hx e (List.mem_cons_self ..), fun x hx same => ?_⟩
  simpa using (List.pairwise_cons.mp after).1 x hx (by simp [new]) same

/-- Two sleds that join the same class follow each other in the order of the cuts (assumption 17). -/
theorem Run.revoke_order (sound : r.queueSound) {i j : Sled} {older newer : List Sled} (order : r.raiseOrder = older ++ j :: newer)
    (new : j ∉ newer) (behind : i ∈ newer) (same : (r.books i).cls = (r.books j).cls) (hi : i ∈ r.cutJoiners c)
    (hj : j ∈ r.cutJoiners c) : ∃ x y z, (r.revoke c).queue.map (fun e => e.sled) = x ++ i :: y ++ j :: z := by
  obtain ⟨cutI, joinsI⟩ := List.mem_filter.mp hi
  obtain ⟨cutJ, joinsJ⟩ := List.mem_filter.mp hj
  have pair : [i, j].Sublist (r.cutJoiners c) := by
    have sub := (Run.cut_order costs each order new behind same cutI cutJ).filter ((r.grantsCut c).run.joins c)
    rw [List.filter_cons_of_pos joinsI, List.filter_cons_of_pos joinsJ] at sub
    exact sub
  have classes : ((r.grantsCut c).run.books i).cls = ((r.grantsCut c).run.books j).cls := by
    rw [(r.grantsCut_wanted c i).1, (r.grantsCut_wanted c j).1, same]
  have placed := sublist_insertAll_pair (sound.1.imp fun h => h.1) (pair.map ((r.grantsCut c).run.classEntry c))
    (congrArg QClass.cls classes)
  have sleds : [i, j].Sublist ((r.revoke c).queue.map fun e => e.sled) := by
    rw [(Run.revoke_queue costs each floors short).1, List.map_map]
    exact placed.map fun e => e.sled
  obtain ⟨first, rest, split, mem, sub⟩ := List.cons_sublist_iff.mp sleds
  obtain ⟨x, y, rfl⟩ := List.append_of_mem mem
  obtain ⟨u, v, rfl⟩ := List.append_of_mem (List.singleton_sublist.mp sub)
  exact ⟨x, y ++ u, v, by rw [split]; simp⟩

end

theorem Run.units_sum (r : Run) : sumSleds r.units = r.sumGrants + r.sumLoans + r.sumDraining := by
  unfold Run.sumGrants Run.sumLoans Run.sumDraining Run.units
  rw [← sumSleds_add fun _ => rfl, ← sumSleds_add fun _ => rfl]

end Sys2Proof.Machine

open Sys2Proof Sys2Proof.Machine

/-- Settles O28: the loans and then the grants are taken until the deficit is covered, and those that are short of their want by a cut
join in its order. -/
theorem revocationCoversTheDeficit : Obligations.RevocationCoversTheDeficit := by
  unfold Obligations.RevocationCoversTheDeficit
  intro c r size works sound queue floors t deficit cut joins place
  let u : Run := { r with pool := { r.pool with size := size } }
  have costs := sound.1 works
  have each : ∀ i, u.SledSound c i := sound.sled
  have floors : u.floorsHeld c ≤ u.pool.size := floors
  obtain ⟨sleds, -, -⟩ := Run.revoke_passes costs each floors
  have get (i : Sled) : t.books i = (u.grantsCut c).run.books i := congrArg (fun s => (Vector.get s i).books) sleds
  have cuts : Run.Cuts u t := r.resizePool_cuts c size
  have pool : t.pool = u.pool := Run.revoke_pool c u
  have lent : sumSleds t.lent ≤ t.pool.size := (Run.booksSound_iff.mp (Run.booksSound_resizePool sound works floors)).2.2
  have books := fun i => Run.grantsCut_books costs each i
  have joiners (i : Sled) : i ∈ u.cutJoiners c ↔ joins i := by
    rw [Run.mem_cutJoiners costs each, ← get]
    show _ ↔ r.queued i = false ∧ 0 < (r.books i).grant - (t.books i).grant ∧ _ ∧ _
    rw [Nat.sub_pos_iff_lt]
    rfl
  have covered (h : r.sumGrants + r.sumLoans ≤ size) : u.revoke c = u := Run.revoke_of_covered (by
    show (r.sumGrants : Int) + r.sumLoans - size ≤ 0
    omega)
  have isShort (h : size < r.sumGrants + r.sumLoans) : 0 < u.deficit := by
    show 0 < (r.sumGrants : Int) + r.sumLoans - size
    omega
  have same (h : r.sumGrants + r.sumLoans ≤ size) : t.sleds = r.sleds ∧ t.queue = r.queue ∧ t.notices = r.notices := by
    show (u.revoke c).sleds = _ ∧ (u.revoke c).queue = _ ∧ (u.revoke c).notices = _
    rw [covered h]
    exact ⟨rfl, rfl, rfl⟩
  have idle (h : r.sumGrants + r.sumLoans ≤ size) (i : Sled) : ¬joins i := fun ⟨_, taken, _⟩ => by
    have books : t.books i = r.books i := congrArg (fun s => (Vector.get s i).books) (same h).1
    show False
    have taken : 0 < (r.books i).grant - (t.books i).grant := taken
    rw [books, Nat.sub_self] at taken
    exact Nat.lt_irrefl _ taken
  refine ⟨pool, ?_, ?_, fun i => ⟨cuts.units i, ?_⟩, ?_, fun h => ?_, same, ?_, ?_, ?_, fun i => ?_, ?_, ?_, fun h => ?_, ?_⟩
  · rw [t.sum_lent]
    exact Nat.le_trans lent (Nat.le_of_eq (congrArg Pool.size pool))
  · have units := congrArg sumSleds (funext cuts.units)
    rw [Run.units_sum, Run.units_sum] at units
    have totals : t.sumGrants + t.sumLoans + t.sumDraining = r.sumGrants + r.sumLoans + r.sumDraining := units
    unfold Run.headroom
    rw [show t.pool.size = size from congrArg Pool.size pool]
    omega
  · rw [get]
    exact books i
  · rintro ⟨j, less⟩ i
    rw [get] at less ⊢
    exact Run.grantsCut_loan costs each less i
  · exact (Run.revoke_notices costs each floors (isShort h)).trans (Run.post_notices_congr rfl rfl)
  · intro i older younger order new running
    have boost : (t.books i).boost = (u.loansTaken.run.books i).boost := by
      rw [get]
      exact (congrArg (fun x : SledRun => x.books.boost) ((Run.grantsCut_spec costs each).sled i)).trans rfl
    rw [boost]
    exact Run.loansTaken_ends (r := u) order new running fun i => (each i).loan
  · intro i older newer order new left bound
    have cutting := Run.grantsCut_grant (r := u) costs each order new
    have deficitLeft : u.deficitLeft c i newer = left := by
      unfold Run.deficitLeft
      simp only [← get]
      rfl
    rw [deficitLeft, ← get] at cutting
    refine ⟨cutting.1, fun wanting above => ?_⟩
    have kept : (t.books i).grant = keptGrant c i (r.books i).grant left := cutting.2 wanting above
    constructor
    · intro k fits tight
      have found : loosest c i 0 ((r.books i).grant - left) = some k := by
        unfold loosest allLevels
        rw [find?_finRange_eq_some]
        exact ⟨by simpa using fits, fun j hj => by simpa using tight j hj⟩
      rw [kept, keptGrant, found]
    · intro none
      have missing : loosest c i 0 ((r.books i).grant - left) = Option.none := by
        unfold loosest
        rw [List.find?_eq_none]
        intro k _
        simpa using none k
      rw [kept, keptGrant, missing]
  · by_cases h : size < r.sumGrants + r.sumLoans
    · exact Run.revoke_places costs each floors (isShort h)
    · rw [(same (Nat.not_lt.mp h)).2.1, List.filter_eq_self.mpr fun e he => Run.queued_of_mem he]
  · rw [← joiners]
    by_cases h : size < r.sumGrants + r.sumLoans
    · exact Run.revoke_queued costs each floors (isShort h) i
    · have none := idle (Nat.not_lt.mp h) i
      rw [joiners, show t.queued i = r.queued i from congrArg (fun q : List Entry => q.any fun e => e.sled == i) (same (Nat.not_lt.mp h)).2.1]
      exact (or_iff_left none).symm
  · intro front e back whole new
    by_cases h : size < r.sumGrants + r.sumLoans
    · exact Run.revoke_joiner costs each floors (isShort h) queue whole new
    · have old : e ∈ r.queue := by
        rw [← (same (Nat.not_lt.mp h)).2.1, whole]
        exact List.mem_append_right _ (List.mem_cons_self ..)
      rw [Run.queued_of_mem old] at new
      cases new
  · intro i j a b joinsI joinsJ classes order new behind
    by_cases h : size < r.sumGrants + r.sumLoans
    · exact Run.revoke_order costs each floors (isShort h) queue order new behind classes ((joiners i).mpr joinsI) ((joiners j).mpr joinsJ)
    · exact absurd joinsI (idle (Nat.not_lt.mp h) i)
  · intro e he
    have whole := Run.revoke_queue costs each floors (isShort h)
    have held : t.entryHeld c = (u.grantsCut c).run.entryHeld c := whole.2
    have mem : e ∈ (u.revoke c).queue := he
    rw [whole.1] at mem
    obtain ⟨x, -, rfl⟩ := List.mem_map.mp mem
    rw [held]
  · rintro (⟨e, he, free, new⟩ | lost)
    · exact cuts.triggers.joins he free new
    · exact cuts.triggers.unholds lost
end

section
/-! SUPPORT. SET_POOL (R26 to R28). -/

namespace Sys2Proof.Machine

open Sys2Proof

theorem poolChecks_passes {p : List Byte} (size : wordAt p 0 ≤ 8000) (period : longAt p 2 ≤ 600000) (fallback : wordAt p 6 ≤ 8000) :
    firstFailing (poolChecks p) = none := by
  rw [firstFailing_eq_none_iff]
  simp only [poolChecks, wordIn, longIn, List.forall_mem_cons, List.not_mem_nil, false_imp_iff, implies_true, and_true]
  simp [size, period, fallback, Config.poolMax, Config.leaseMax]

/-- A size that covers the grants and loans moves nothing but the pool. -/
theorem Run.resizePool_of_covered {c : Cfg} {r : Run} {size : Nat} (h : r.sumGrants + r.sumLoans ≤ size) :
    r.resizePool c size =
      { r with pool := { r.pool with size := size }, arbiterDue := r.arbiterDue || decide (r.pool.size < size) } := by
  unfold Run.resizePool
  rw [Run.revoke_of_covered]
  · rfl
  · show (r.sumGrants : Int) + r.sumLoans - size ≤ 0
    omega

/-- The pool that SET_POOL leaves in RUN and SAFE (R28). -/
def PoolSetting.pool (x : PoolSetting) : Pool where
  size := x.size
  fallback := x.fallback
  leasePeriod := x.leasePeriod
  leaseRemaining := x.leasePeriod
  leaseState := if x.leasePeriod = 0 then .none else .running

/-- SET_POOL in RUN and SAFE: the pool is resized under the new fallback and period, and the lease starts (R28). -/
theorem Run.setPool_of_works {x : PoolSetting} {c : Cfg} {r : Run} (works : r.mode ≠ .config) :
    r.setPool x c =
      { { r with pool := { r.pool with fallback := x.fallback, leasePeriod := x.leasePeriod } }.resizePool c x.size with pool := x.pool } := by
  rw [Run.setPool, if_pos ((Mode.works_iff _).mpr works)]
  have stored : (Run.resizePool c x.size { r with pool := { r.pool with leasePeriod := x.leasePeriod, fallback := x.fallback } }).pool
      = { r.pool with size := x.size, leasePeriod := x.leasePeriod, fallback := x.fallback } :=
    (congrArg Run.pool (Run.resizePool_cuts ..).frame).trans rfl
  dsimp only
  rw [stored]
  unfold Pool.startLease PoolSetting.pool
  by_cases none : x.leasePeriod = 0
  · simp [none]
  · simp [none]

theorem Run.setPool_spec {x : PoolSetting} {c : Cfg} {r : Run} (works : r.mode ≠ .config) (covers : r.floorsHeld c ≤ x.size)
    (due : r.arbiterDue = false) :
    (r.booksSound c → (r.setPool x c).sumGrants + (r.setPool x c).sumLoans ≤ x.size)
      ∧ (r.sumGrants + r.sumLoans ≤ x.size → r.setPool x c = { r with pool := x.pool, arbiterDue := decide (r.pool.size < x.size) })
      ∧ r.setPool x c = { r with
          pool := x.pool, sleds := (r.setPool x c).sleds, queue := (r.setPool x c).queue, boostList := (r.setPool x c).boostList
          arbiterDue := (r.setPool x c).arbiterDue, notices := (r.setPool x c).notices }
      ∧ (r.pool.size < x.size → (r.setPool x c).arbiterDue = true)
      ∧ ∀ i, SledRun.Cut (r.sleds.get i) ((r.setPool x c).sleds.get i) := by
  rw [Run.setPool_of_works works]
  let v := { r with pool := { r.pool with fallback := x.fallback, leasePeriod := x.leasePeriod } }
  have cuts := v.resizePool_cuts c x.size
  refine ⟨fun sound => ?_, fun fits => ?_, ?_, v.resizePool_due, cuts.sled⟩
  · have stored : v.booksSound c := (Run.SameAccounts.of_pool rfl).booksSound sound
    have resized := (Run.booksSound_iff.mp (Run.booksSound_resizePool stored works covers)).2.2
    have total := (v.resizePool c x.size).sum_lent
    exact Nat.le_trans (Nat.le_trans (Nat.le_of_eq total) resized) (Nat.le_of_eq (congrArg Pool.size ((congrArg Run.pool cuts.frame).trans rfl)))
  · have whole := Run.resizePool_of_covered (c := c) (r := v) fits
    rw [whole]
    show { v with pool := _, arbiterDue := r.arbiterDue || _ } = _
    rw [due, Bool.false_or]
  · exact congrArg (fun u : Run => { u with pool := x.pool }) cuts.frame

theorem Run.setPool_of_config {x : PoolSetting} {c : Cfg} {r : Run} (config : r.mode = .config) :
    r.setPool x c = { r with pool := { r.pool with size := x.size, leasePeriod := x.leasePeriod, fallback := x.fallback } } := by
  rw [Run.setPool, if_neg (by simp [config, Mode.works])]

theorem refuseIf_of {cond : State → Bool} {status : Status} {body : Body} {s : State} (h : cond s = true) :
    refuseIf cond status body s = (s, .refuse status) := if_pos h

theorem refuseIf_of_not {cond : State → Bool} {status : Status} {body : Body} {s : State} (h : cond s = false) :
    refuseIf cond status body s = body s := if_neg (by simp [h])

/-- SET_POOL in range, taken at once (R26). -/
theorem exec_setPool {tag : Byte} {p : List Byte} {s : State} (length : p.length = 8) (size : wordAt p 0 ≤ 8000)
    (period : longAt p 2 ≤ 600000) (fallback : wordAt p 6 ≤ 8000) (ready : Ready (frame tag 0x20 p) s) :
    ((decodePool p).size < s.run.floorsHeld s.cfg → exec (.setPool tag p) s = .next (s.answered (frame tag 0x20 p) [9]))
      ∧ (s.run.floorsHeld s.cfg ≤ (decodePool p).size →
          exec (.setPool tag p) s = .next (s.replied (frame tag 0x20 p) [0] s.cfg (s.run.setPool (decodePool p) s.cfg))) := by
  have replied {r : Run} {a : Answer} (hb : ownRule (.setPool tag p) s.popFrame = ({ s.popFrame with cfg := s.cfg, run := r }, a)) :
      exec (.setPool tag p) s = .next (s.replied (frame tag 0x20 p) (put8 a.status.code ++ a.content) s.cfg r) :=
    exec_replied (c := .setPool tag p) (payloadFits_of_length length (by decide)) rfl ready (by simp [lengthAllowed, length])
      (by simp [acceptedIn]) (poolChecks_passes size period fallback) rfl hb
  have own : ownRule (.setPool tag p) s.popFrame
      = refuseIf (fun s => decide ((decodePool p).size < s.run.floorsHeld s.cfg)) .poolTooSmall
          (carryOutRun (Run.setPool (decodePool p))) s.popFrame := rfl
  constructor
  · intro less
    exact replied (r := s.run) (a := .refuse .poolTooSmall) (own.trans (refuseIf_of (decide_eq_true less)))
  · intro covers
    exact replied (a := .ok []) (own.trans (refuseIf_of_not (decide_eq_false (Nat.not_lt.mpr covers))))

end Sys2Proof.Machine

open Sys2Proof Sys2Proof.Machine

/-- Settles O27: the size is checked against the floors held; in RUN and SAFE the pool is resized, and the lease starts anew. -/
theorem poolIsSet : Obligations.PoolIsSet := by
  unfold Obligations.PoolIsSet
  intro tag p s length sizeIn periodIn fallbackIn ready
  obtain ⟨refused, carried⟩ := exec_setPool (tag := tag) length sizeIn periodIn fallbackIn ready
  refine ⟨refused, fun covers config => ?_, fun covers works => ?_⟩
  · rw [carried covers, Run.setPool_of_config config]
    rfl
  · intro pool u r
    have whole : r = s.run.setPool (decodePool p) s.cfg := (Run.setPool_of_works (x := decodePool p) works).symm
    obtain ⟨fits, covered, frame, grows, sled⟩ := Run.setPool_spec (c := s.cfg) (x := decodePool p) works covers ready.2.1
    rw [← whole] at fits covered frame grows sled
    refine ⟨whole ▸ carried covers, fits, covered, frame, grows, fun i => ⟨(sled i).grant, (sled i).total, ?_⟩⟩
    have same := (sled i).same
    exact ⟨(congrArg (fun x : SledRun => x.books.wanted) same).trans rfl, (congrArg (fun x : SledRun => x.books.cls) same).trans rfl,
      (congrArg SledRun.life same).trans rfl, (congrArg SledRun.therm same).trans rfl, (congrArg SledRun.alert same).trans rfl,
      (congrArg SledRun.chan same).trans rfl⟩
end

section
/-! SUPPORT. One service of the arbiter (R43 to R46): what the service of one entry does to the other sleds, and what it does to its
own. -/

namespace Sys2Proof.Machine

open Sys2Proof

/-! ## The other sleds -/

/-- From `r` to `t` only sled `i` is touched: the other sleds keep their records, their entries and their places in the raise order,
but for the held flags, which can be brought up to date. -/
structure Run.OthersKept (c : Cfg) (i : Sled) (r t : Run) : Prop where
  sled : ∀ j, j ≠ i → t.sleds.get j = r.sleds.get j
  order : ∀ j, j ∈ r.raiseOrder → j ∈ t.raiseOrder
  entry : ∀ x ∈ t.queue, x.sled ≠ i →
    ∃ y ∈ r.queue, y.sled = x.sled ∧ y.cls = x.cls ∧ (x.held = y.held ∨ x.held = r.entryHeld c x.sled x.cls)
  queued : ∀ j, j ≠ i → r.queued j = true → t.queued j = true
  mode : t.mode = r.mode
  zone : t.zone.state = r.zone.state
  size : t.pool.size = r.pool.size
  notices : ∀ j, r.notices.sled.get j = true → t.notices.sled.get j = true

theorem Run.entryHeld_of_get {c : Cfg} {i : Sled} {k : QClass} {r t : Run} (sled : t.sleds.get i = r.sleds.get i)
    (mode : t.mode = r.mode) (zone : t.zone.state = r.zone.state) : t.entryHeld c i k = r.entryHeld c i k := by
  cases k with
  | floor => rfl
  | cls k =>
    show t.holds c i = r.holds c i
    unfold Run.holds Run.raisesForbidden Run.ceiling Run.therm Run.books
    rw [sled, mode, zone]

namespace Run.OthersKept

variable {c : Cfg} {i : Sled}

theorem refl (r : Run) : Run.OthersKept c i r r :=
  ⟨fun _ _ => rfl, fun _ => id, fun x hx _ => ⟨x, hx, rfl, rfl, .inl rfl⟩, fun _ _ => id, rfl, rfl, rfl, fun _ => id⟩

theorem trans {r t u : Run} (h : Run.OthersKept c i r t) (k : Run.OthersKept c i t u) : Run.OthersKept c i r u where
  sled j hj := (k.sled j hj).trans (h.sled j hj)
  order j hj := k.order j (h.order j hj)
  entry x hx other := by
    obtain ⟨y, hy, sled, cls, held⟩ := k.entry x hx other
    obtain ⟨z, hz, sled', cls', held'⟩ := h.entry y hy (sled ▸ other)
    refine ⟨z, hz, sled'.trans sled, cls'.trans cls, ?_⟩
    rcases held with same | fresh
    · rw [sled, cls] at held'
      rw [same]
      exact held'
    · exact .inr (fresh.trans (Run.entryHeld_of_get (h.sled _ other) h.mode h.zone))
  queued j hj hq := k.queued j hj (h.queued j hj hq)
  mode := k.mode.trans h.mode
  zone := k.zone.trans h.zone
  size := k.size.trans h.size
  notices j hj := k.notices j (h.notices j hj)

theorem modSled (f : SledRun → SledRun) (r : Run) : Run.OthersKept c i r (r.modSled i f) :=
  { refl (c := c) r with sled := fun _ hj => modAt_get_other hj .. }

theorem takeNewest (r : Run) : Run.OthersKept c i r (r.takeNewest i) :=
  { refl (c := c) r with order := fun _ hj => Run.mem_takeNewest (.inl hj) }

theorem leaveQueue (r : Run) : Run.OthersKept c i r (r.leaveQueue i) :=
  { refl (c := c) r with
    entry := fun x hx _ => ⟨x, (List.mem_filter.mp hx).1, rfl, rfl, .inl rfl⟩
    queued := fun j hj hq => by
      obtain ⟨e, he, rfl⟩ := Run.queued_iff.mp hq
      exact Run.queued_iff.mpr ⟨e, List.mem_filter.mpr ⟨he, by simpa using hj⟩, rfl⟩ }

theorem refreshHeld (r : Run) : Run.OthersKept c i r (r.refreshHeld c) :=
  { refl (c := c) r with
    entry := fun x hx _ => by
      obtain ⟨y, hy, rfl⟩ := List.mem_map.mp hx
      exact ⟨y, hy, rfl, rfl, .inr rfl⟩
    queued := fun j _ hq => by
      obtain ⟨e, he, rfl⟩ := Run.queued_iff.mp hq
      exact Run.queued_iff.mpr ⟨_, List.mem_map_of_mem he, rfl⟩ }

theorem join (k : QClass) (r : Run) : Run.OthersKept c i r (r.join c i k) :=
  { refl (c := c) r with
    entry := fun x hx other => by
      rcases mem_insertEntry.mp hx with rfl | old
      · exact absurd rfl other
      · exact ⟨x, old, rfl, rfl, .inl rfl⟩
    queued := fun j hj hq => (Run.queued_join hj).trans hq }

theorem joinIfShort (r : Run) : Run.OthersKept c i r (r.joinIfShort c i) := by
  rw [Run.joinIfShort_eq]
  split
  · exact join ..
  · exact refl r

theorem post (j : Sled) (r : Run) : Run.OthersKept c i r (r.post c (.sled j)) := by
  have mono (k : Sled) (hk : r.notices.sled.get k = true) : (r.post c (.sled j)).notices.sled.get k = true := by
    unfold Run.post
    split
    · show ((modAt j (fun _ => true) r.notices.sled).get k) = true
      rw [modAt_get]
      split
      · rfl
      · exact hk
    · exact hk
  obtain ⟨n, e⟩ := r.post_eq c (.sled j)
  rw [e] at mono ⊢
  exact { refl (c := c) r with notices := mono }

theorem becomeTracking (r : Run) : Run.OthersKept c i r (r.becomeTracking c i) :=
  (modSled _ r).trans ((post ..).trans (joinIfShort _))

/-- Isolation touches its own sled only, for no boost but its own ends. -/
theorem isolate (r : Run) : Run.OthersKept c i r (r.isolate c i) := by
  let u := r.modLife i fun l => { l with state := .isolated, admission := none, containPending := false }
  have ended : Run.OthersKept c i u (u.endBoostEarly i) := by
    have get (j : Sled) (hj : j ≠ i) : (u.endBoostEarly i).sleds.get j = u.sleds.get j := (u.endBoostEarly_get i j).trans (if_neg hj)
    rw [u.endBoostEarly_frame i] at get ⊢
    exact { refl (c := c) u with sled := get }
  exact (modSled _ r).trans (ended.trans ((modSled _ _).trans ((leaveQueue _).trans ((refreshHeld _).trans (post ..)))))

theorem settleAdmission (r : Run) : Run.OthersKept c i r (r.settleAdmission c i) := by
  unfold Run.settleAdmission
  dsimp only
  split
  · split
    · exact isolate r
    · split
      · exact refl r
      · exact becomeTracking r
  · exact refl r

theorem serveFloor (r : Run) : Run.OthersKept c i r (r.serveFloor c i).1 := by
  unfold Run.serveFloor
  split
  · exact (modSled _ r).trans ((leaveQueue _).trans ((takeNewest _).trans (settleAdmission _)))
  · exact refl r

theorem serveClass (r : Run) : Run.OthersKept c i r (r.serveClass c i).1 := by
  unfold Run.serveClass
  split
  · exact refl r
  · dsimp only
    split
    · exact (modSled _ r).trans ((takeNewest _).trans (leaveQueue _))
    · exact (modSled _ r).trans ((takeNewest _).trans (refreshHeld _))

end Run.OthersKept

/-! ## What a service does to a sled -/

/-- A sled whose entries are held, by R42 as it stands. -/
def Run.heldFast (c : Cfg) (r : Run) (i : Sled) : Prop :=
  r.holds c i = true ∧ ∀ x ∈ r.queue, x.sled = i → x.cls ≠ .floor ∧ x.held = true

/-- A sled whose floor a service has reserved (R25, R65, R70). -/
structure Run.FloorServed (c : Cfg) (r t : Run) (i : Sled) : Prop where
  queued : r.queued i = true
  admitting : (r.life i).state = .admitting
  reserved : (t.books i).floorReserved = true
  raised : i ∈ t.raiseOrder
  contained : (r.life i).containPending = true →
    t.life i = { r.life i with state := .isolated, admission := none, containPending := false }
      ∧ (t.books i).grant = floorCost c i ∧ t.queued i = false
  waiting : (r.life i).containPending = false → (r.life i).awaitA = true ∨ (r.life i).awaitB = true →
    t.life i = r.life i ∧ (t.books i).grant = floorCost c i ∧ t.queued i = false
  tracking : (r.life i).containPending = false → ¬((r.life i).awaitA = true ∨ (r.life i).awaitB = true) →
    t.life i = { r.life i with state := .tracking, admission := none }
      ∧ floorCost c i ≤ (t.books i).grant ∧ (t.queued i = true ∨ r.wantCost c i ≤ (t.books i).grant)
  notice : (r.life i).containPending = true ∨ ¬((r.life i).awaitA = true ∨ (r.life i).awaitB = true) →
    c.mask.sled = true → t.notices.sled.get i = true

/-- What a service of the arbiter does to one sled. -/
structure Run.SledServed (c : Cfg) (r t : Run) (i : Sled) : Prop where
  grant : (r.books i).grant ≤ (t.books i).grant
  books : t.books i = { r.books i with grant := (t.books i).grant, floorReserved := (t.books i).floorReserved }
  therm : t.therm i = r.therm i
  raised : (r.books i).grant < (t.books i).grant →
    r.queued i = true ∧ i ∈ t.raiseOrder
      ∧ (t.books i).grant ≤ max (floorCost c i) (min (r.wantCost c i) (costAt c i (r.ceiling c i)))
  order : i ∈ r.raiseOrder → i ∈ t.raiseOrder
  queue : t.queued i = true → r.queued i = true
  left : r.queued i = true → (r.life i).state = .tracking → t.queued i = true ∨ r.wantCost c i ≤ (t.books i).grant
  life : (r.books i).floorReserved = (t.books i).floorReserved → t.life i = r.life i
  floor : (r.books i).floorReserved ≠ (t.books i).floorReserved → Run.FloorServed c r t i
  notices : r.notices.sled.get i = true → t.notices.sled.get i = true
  held : r.heldFast c i → t.heldFast c i ∧ t.books i = r.books i ∧ (r.queued i = true → t.queued i = true)

theorem Run.wantCost_of_books {c : Cfg} {r t : Run} {i : Sled} {n : Nat} {b : Bool}
    (h : t.books i = { r.books i with grant := n, floorReserved := b }) : t.wantCost c i = r.wantCost c i := by
  unfold Run.wantCost
  rw [h]

theorem Run.ceiling_of_therm {c : Cfg} {r t : Run} {i : Sled} (h : t.therm i = r.therm i) : t.ceiling c i = r.ceiling c i := by
  unfold Run.ceiling
  rw [h]

/-- A sled that a service does not touch. -/
theorem Run.OthersKept.served {c : Cfg} {i j : Sled} {r t : Run} (h : Run.OthersKept c i r t) (other : j ≠ i) :
    Run.SledServed c r t j := by
  have sled := h.sled j other
  have books : t.books j = r.books j := congrArg SledRun.books sled
  have queued : t.queued j = true → r.queued j = true := fun hq => by
    obtain ⟨x, hx, rfl⟩ := Run.queued_iff.mp hq
    obtain ⟨y, hy, same, -⟩ := h.entry x hx other
    exact Run.queued_iff.mpr ⟨y, hy, same⟩
  refine ⟨Nat.le_of_eq (by rw [books]), by rw [books], congrArg SledRun.therm sled, fun less => ?_, h.order j, queued,
    fun hq _ => .inl (h.queued j other hq), fun _ => congrArg SledRun.life sled, fun ne => absurd (by rw [books]) ne, h.notices j,
    fun fast => ⟨?_, books, h.queued j other⟩⟩
  · rw [books] at less
    exact absurd less (Nat.lt_irrefl _)
  · obtain ⟨holds, entries⟩ := fast
    have still : t.holds c j = r.holds c j := Run.entryHeld_of_get (k := .cls 0) sled h.mode h.zone
    refine ⟨still.trans holds, fun x hx same => ?_⟩
    obtain ⟨y, hy, sled', cls, held⟩ := h.entry x hx (same ▸ other)
    obtain ⟨ne, yes⟩ := entries y hy (sled'.trans same)
    rw [cls] at ne
    refine ⟨ne, ?_⟩
    rcases held with old | fresh
    · exact old.trans yes
    · rw [fresh, same]
      cases e : x.cls with
      | floor => exact absurd e ne
      | cls k => exact holds

namespace Run.SledServed

variable {c : Cfg} {i : Sled}

theorem refl (r : Run) : Run.SledServed c r r i where
  grant := Nat.le_refl _
  books := rfl
  therm := rfl
  raised less := absurd less (Nat.lt_irrefl _)
  order := id
  queue := id
  left hq _ := .inl hq
  life _ := rfl
  floor ne := absurd rfl ne
  notices := id
  held fast := ⟨fast, rfl, id⟩

theorem trans {r t u : Run} (h : Run.SledServed c r t i) (k : Run.SledServed c t u i) : Run.SledServed c r u i := by
  have want : t.wantCost c i = r.wantCost c i := Run.wantCost_of_books h.books
  have ceiling : t.ceiling c i = r.ceiling c i := Run.ceiling_of_therm h.therm
  have once (ne : (r.books i).floorReserved ≠ (t.books i).floorReserved) : (t.books i).floorReserved = (u.books i).floorReserved := by
    refine Classical.byContradiction fun again => ?_
    have admitting := (h.floor ne).reserved
    have waits := (k.floor again).reserved
    rw [admitting, waits] at again
    exact again rfl
  refine ⟨Nat.le_trans h.grant k.grant, ?_, k.therm.trans h.therm, fun less => ?_, k.order ∘ h.order, h.queue ∘ k.queue, fun hq tracking => ?_,
    fun same => ?_, fun ne => ?_, k.notices ∘ h.notices, fun fast => ?_⟩
  · rw [k.books, h.books]
  · by_cases first : (r.books i).grant < (t.books i).grant
    · obtain ⟨queued, raised, bound⟩ := h.raised first
      by_cases second : (t.books i).grant < (u.books i).grant
      · obtain ⟨-, raised', bound'⟩ := k.raised second
        rw [want, ceiling] at bound'
        exact ⟨queued, raised', bound'⟩
      · have same : (u.books i).grant = (t.books i).grant := Nat.le_antisymm (Nat.not_lt.mp second) k.grant
        exact ⟨queued, k.order raised, same ▸ bound⟩
    · have same : (t.books i).grant = (r.books i).grant := Nat.le_antisymm (Nat.not_lt.mp first) h.grant
      obtain ⟨queued, raised, bound⟩ := k.raised (same ▸ less)
      rw [want, ceiling] at bound
      exact ⟨h.queue queued, raised, bound⟩
  · rcases h.left hq tracking with queued | covered
    · have still : (t.life i).state = .tracking := by
        rw [h.life (Classical.byContradiction fun ne => ?_), tracking]
        cases tracking.symm.trans (h.floor ne).admitting
      exact want ▸ k.left queued still
    · exact .inr (Nat.le_trans covered k.grant)
  · have first : (r.books i).floorReserved = (t.books i).floorReserved := by
      refine Classical.byContradiction fun ne => ?_
      exact ne (same.trans (once ne).symm)
    exact (k.life (first.symm.trans same)).trans (h.life first)
  · by_cases first : (r.books i).floorReserved = (t.books i).floorReserved
    · have life := h.life first
      obtain ⟨queued, admitting, reserved, raised, contained, waiting, tracking, notice⟩ := k.floor (first ▸ ne)
      rw [life] at admitting contained waiting tracking notice
      rw [want] at tracking
      exact ⟨h.queue queued, admitting, reserved, raised, contained, waiting, tracking, notice⟩
    · have second := once first
      have life := k.life second
      obtain ⟨queued, admitting, reserved, raised, contained, waiting, tracking, notice⟩ := h.floor first
      have stays (out : t.queued i = false) : (u.books i).grant = (t.books i).grant ∧ u.queued i = false := by
        constructor
        · refine Nat.le_antisymm (Nat.not_lt.mp fun less => ?_) k.grant
          exact Bool.false_ne_true (out.symm.trans (k.raised less).1)
        · exact Bool.eq_false_iff.mpr fun hq => Bool.false_ne_true (out.symm.trans (k.queue hq))
      refine ⟨queued, admitting, second ▸ reserved, k.order raised, fun pending => ?_, fun free awaits => ?_, fun free ready => ?_,
        fun change masked => k.notices (notice change masked)⟩
      · obtain ⟨own, grant, out⟩ := contained pending
        obtain ⟨same, out'⟩ := stays out
        exact ⟨life.trans own, same.trans grant, out'⟩
      · obtain ⟨own, grant, out⟩ := waiting free awaits
        obtain ⟨same, out'⟩ := stays out
        exact ⟨life.trans own, same.trans grant, out'⟩
      · obtain ⟨own, grant, waits⟩ := tracking free ready
        refine ⟨life.trans own, Nat.le_trans grant k.grant, ?_⟩
        rcases waits with queued | covered
        · exact want ▸ k.left queued (by rw [own])
        · exact .inr (Nat.le_trans covered k.grant)
  · obtain ⟨fast', books, queued⟩ := h.held fast
    obtain ⟨fast'', books', queued'⟩ := k.held fast'
    exact ⟨fast'', books'.trans books, queued' ∘ queued⟩

end Run.SledServed

end Sys2Proof.Machine
end

section
/-! SUPPORT. The service of the arbiter's own sled, and the walk (R43 to R46). -/

namespace Sys2Proof.Machine

open Sys2Proof

theorem tighter_le_iff {a b k : Level} : tighter a b ≤ k ↔ a ≤ k ∧ b ≤ k := by
  unfold tighter
  split
  · next h => exact ⟨fun hk => ⟨Fin.le_trans h hk, hk⟩, And.right⟩
  · next h => exact ⟨fun hk => ⟨hk, Fin.le_trans (Nat.le_of_not_le h) hk⟩, And.left⟩

/-! ## A class entry -/

/-- The service of a class entry that can be loosened (R45). -/
theorem Run.serveClass_some {c : Cfg} {i : Sled} {k : Level} {r : Run} (h : r.serviceLevel c i = some k) :
    r.serveClass c i =
      (if r.wantCost c i ≤ costAt c i k
        then (((r.modBooks i fun b => { b with grant := costAt c i k }).takeNewest i).leaveQueue i, true)
        else (((r.modBooks i fun b => { b with grant := costAt c i k }).takeNewest i).refreshHeld c,
          ((r.modBooks i fun b => { b with grant := costAt c i k }).takeNewest i).holds c i)) := by
  have want : ((r.modBooks i fun b => { b with grant := costAt c i k }).takeNewest i).wantCost c i = r.wantCost c i :=
    (congrArg (fun x : SledRun => costAt c i x.books.wanted) (Run.modBooks_get r i fun b => { b with grant := costAt c i k })).trans rfl
  unfold Run.serveClass
  rw [h]
  dsimp only
  rw [want]

theorem Run.serveClass_get {c : Cfg} {i : Sled} {k : Level} {r : Run} (h : r.serviceLevel c i = some k) :
    (r.serveClass c i).1.sleds.get i = { r.sleds.get i with books := { r.books i with grant := costAt c i k } } := by
  have get : (r.modBooks i fun b => { b with grant := costAt c i k }).sleds.get i = _ := Run.modBooks_get ..
  rw [Run.serveClass_some h]
  split
  · exact get
  · exact get

theorem Run.serveClass_order {c : Cfg} {i : Sled} {k : Level} {r : Run} (h : r.serviceLevel c i = some k) :
    i ∈ (r.serveClass c i).1.raiseOrder := by
  have newest := Run.mem_takeNewest (r := r.modBooks i fun b => { b with grant := costAt c i k }) (i := i) (.inr rfl)
  rw [Run.serveClass_some h]
  split
  · exact newest
  · exact newest

/-- At its want the sled leaves the queue, short of it it stays. -/
theorem Run.serveClass_queued {c : Cfg} {i : Sled} {k : Level} {r : Run} (h : r.serviceLevel c i = some k) (was : r.queued i = true) :
    (r.wantCost c i ≤ costAt c i k → (r.serveClass c i).1.queued i = false)
      ∧ (costAt c i k < r.wantCost c i → (r.serveClass c i).1.queued i = true) := by
  constructor
  · intro full
    rw [Run.serveClass_some h, if_pos full]
    exact Run.leaveQueue_queued ..
  · intro short
    rw [Run.serveClass_some h, if_neg (Nat.not_le.mpr short)]
    obtain ⟨e, he, rfl⟩ := Run.queued_iff.mp was
    exact Run.queued_iff.mpr ⟨_, List.mem_map_of_mem he, rfl⟩

theorem Run.not_heldFast {c : Cfg} {r : Run} {e : Entry} (he : e ∈ r.queue) (free : e.held = false) : ¬r.heldFast c e.sled :=
  fun fast => Bool.false_ne_true (free.symm.trans (fast.2 e he rfl).2)

/-- A class entry's service raises its sled no further than its want and its ceiling (R45). -/
theorem Run.served_serveClass {c : Cfg} {r : Run} {e : Entry} (q : r.queueSound) (b : r.booksSound c) (he : e ∈ r.queue)
    (free : e.held = false) (tracking : (r.life e.sled).state = .tracking) : Run.SledServed c r (r.serveClass c e.sled).1 e.sled := by
  cases service : r.serviceLevel c e.sled with
  | none =>
    have idle : (r.serveClass c e.sled).1 = r := by rw [Run.serveClass, service]
    rw [idle]
    exact .refl r
  | some k =>
    obtain ⟨found, above⟩ := Run.serviceLevel_some service
    obtain ⟨want, ceiling⟩ := tighter_le_iff.mp (loosest_fits found).1
    have get := Run.serveClass_get service
    have others := Run.OthersKept.serveClass (c := c) (i := e.sled) r
    have grant : ((r.serveClass c e.sled).1.books e.sled).grant = costAt c e.sled k := congrArg (fun x : SledRun => x.books.grant) get
    have queued := Run.queued_of_mem he
    have costs {j k : Level} (looser : j ≤ k) : costAt c e.sled k ≤ costAt c e.sled j := by
      have works := q.works (i := e.sled) (by rw [tracking]; rfl)
      exact costAt_antitone (b.falls works e.sled) ((b.sled e.sled).enabled_of_ne (by
        rw [show (r.sleds.get e.sled).life.state = .tracking from tracking]; nofun)) looser
    obtain ⟨leaves, stays⟩ := Run.serveClass_queued service queued
    refine ⟨grant ▸ Nat.le_of_lt above, ?_, (congrArg SledRun.therm get).trans rfl,
      fun _ => ⟨queued, Run.serveClass_order service, ?_⟩, others.order _, fun _ => queued, fun _ _ => ?_,
      fun _ => (congrArg SledRun.life get).trans rfl, fun ne => absurd ?_ ne, others.notices _, fun fast => absurd fast (Run.not_heldFast he free)⟩
    · rw [show (r.serveClass c e.sled).1.books e.sled = _ from congrArg SledRun.books get]
    · rw [grant]
      exact Nat.le_trans (Nat.le_min.mpr ⟨costs want, costs ceiling⟩) (Nat.le_max_right ..)
    · rw [grant]
      rcases Nat.lt_or_ge (costAt c e.sled k) (r.wantCost c e.sled) with short | full
      · exact .inl (stays short)
      · exact .inr full
    · exact ((congrArg (fun x : SledRun => x.books.floorReserved) get).trans rfl).symm

/-! ## A FLOOR entry -/

theorem Run.settleAdmission_eq {c : Cfg} {i : Sled} {u : Run} (admitting : (u.life i).state = .admitting)
    (reserved : (u.books i).floorReserved = true) :
    u.settleAdmission c i =
      if (u.life i).containPending then u.isolate c i
      else if (u.life i).awaitA || (u.life i).awaitB then u else u.becomeTracking c i := by
  unfold Run.settleAdmission
  dsimp only
  rw [if_pos (by simp [admitting, reserved])]

theorem SledRun.boostEnded_of_still {x : SledRun} (h : x.books.boost ≠ .running) : x.boostEnded = x := if_neg h

/-- A sled with its floor just reserved is isolated without a move of units (R70). -/
theorem SledRun.isolated_of_floor {n : Nat} {x : SledRun} (still : x.books.boost ≠ .running) (grant : x.books.grant = n) :
    x.isolated n = { x with life := { x.life with state := .isolated, admission := none, containPending := false } } := by
  subst grant
  unfold SledRun.isolated
  rw [SledRun.boostEnded_of_still still]
  dsimp only
  rw [Nat.min_self, Nat.sub_self, Nat.add_zero]

theorem Run.becomeTracking_get (c : Cfg) (i : Sled) (u : Run) :
    (u.becomeTracking c i).sleds.get i = { u.sleds.get i with life := { u.life i with state := .tracking, admission := none } } := by
  unfold Run.becomeTracking
  rw [Run.joinIfShort_sleds, Run.post_sleds]
  exact modAt_get_self ..

theorem Run.becomeTracking_raiseOrder (c : Cfg) (i : Sled) (u : Run) : (u.becomeTracking c i).raiseOrder = u.raiseOrder := by
  unfold Run.becomeTracking
  obtain ⟨n, e⟩ := Run.post_eq c (.sled i) (u.modLife i fun l => { l with state := .tracking, admission := none })
  rw [e, Run.joinIfShort_eq]
  split
  · rfl
  · rfl

/-- A sled that becomes TRACKING is queued, or its grant covers its want (R71). -/
theorem Run.becomeTracking_queued (c : Cfg) (i : Sled) (u : Run) :
    (u.becomeTracking c i).queued i = true ∨ u.wantCost c i ≤ (u.books i).grant := by
  unfold Run.becomeTracking
  obtain ⟨n, e⟩ := Run.post_eq c (.sled i) (u.modLife i fun l => { l with state := .tracking, admission := none })
  rw [e]
  let v := { (u.modLife i fun l => { l with state := .tracking, admission := none }) with notices := n }
  have books : v.books i = u.books i := (congrArg SledRun.books (modAt_get_self i _ u.sleds)).trans rfl
  have state : (v.life i).state = .tracking := congrArg (fun x : SledRun => x.life.state) (modAt_get_self ..)
  show (v.joinIfShort c i).queued i = true ∨ _
  rw [Run.joinIfShort_eq]
  split
  · exact .inl (Run.queued_iff.mpr ⟨_, mem_insertEntry.mpr (.inl rfl), rfl⟩)
  · next stays =>
    by_cases queued : v.queued i = true
    · exact .inl queued
    · refine .inr (Nat.not_lt.mp fun short => stays (Run.joins_iff.mpr ⟨Bool.not_eq_true _ ▸ queued, state, ?_⟩))
      unfold Run.wantCost
      rw [books]
      exact short

theorem Run.becomeTracking_notice {c : Cfg} {i : Sled} {u : Run} (works : u.mode ≠ .config) (masked : c.mask.sled = true) :
    (u.becomeTracking c i).notices.sled.get i = true := by
  unfold Run.becomeTracking
  have posted := Run.post_sled_pending (c := c) (r := u.modLife i fun l => { l with state := .tracking, admission := none }) i works masked
  rw [Run.joinIfShort_eq]
  split
  · exact posted
  · exact posted

theorem Run.isolate_notice {c : Cfg} {i : Sled} {u : Run} (works : u.mode ≠ .config) (masked : c.mask.sled = true) :
    (u.isolate c i).notices.sled.get i = true := by
  refine Run.post_sled_pending i ?_ masked
  rw [congrArg Run.mode (Run.Accounts.cutToFloor c i _).frame]
  exact works

/-- What the service of a FLOOR entry has done when its sled has its floor and is looked at again (R25, R65, R70). -/
theorem Run.floorServed_settleAdmission {c : Cfg} {i : Sled} {r u : Run} (queued : r.queued i = true)
    (admitting : (r.life i).state = .admitting) (works : u.mode ≠ .config) (still : (r.books i).boost ≠ .running)
    (get : u.sleds.get i = { r.sleds.get i with books := { r.books i with grant := floorCost c i, floorReserved := true } })
    (raised : i ∈ u.raiseOrder) (out : u.queued i = false) :
    (u.settleAdmission c i).books i = { r.books i with grant := floorCost c i, floorReserved := true }
      ∧ (u.settleAdmission c i).therm i = r.therm i ∧ Run.FloorServed c r (u.settleAdmission c i) i := by
  have life : u.life i = r.life i := (congrArg SledRun.life get).trans rfl
  have books : u.books i = { r.books i with grant := floorCost c i, floorReserved := true } := (congrArg SledRun.books get).trans rfl
  have therm : u.therm i = r.therm i := (congrArg SledRun.therm get).trans rfl
  have want : u.wantCost c i = r.wantCost c i := Run.wantCost_of_books books
  rw [Run.settleAdmission_eq (by rw [life, admitting]) (by rw [books])]
  by_cases pending : (r.life i).containPending = true
  · rw [if_pos (by rw [life, pending])]
    have own : (u.isolate c i).sleds.get i
        = { u.sleds.get i with life := { u.life i with state := .isolated, admission := none, containPending := false } } := by
      rw [Run.isolate_get, if_pos rfl]
      refine SledRun.isolated_of_floor (x := u.sleds.get i) ?_ (congrArg Books.grant books)
      rw [show (u.sleds.get i).books = _ from books]
      exact still
    have ownBooks : (u.isolate c i).books i = u.books i := (congrArg SledRun.books own).trans rfl
    have ownLife : (u.isolate c i).life i = { r.life i with state := .isolated, admission := none, containPending := false } := by
      rw [← life]
      exact (congrArg SledRun.life own).trans rfl
    refine ⟨ownBooks.trans books, ((congrArg SledRun.therm own).trans rfl).trans therm, queued, admitting, by rw [ownBooks, books],
      by rw [(u.isolate_lists c i).1]; exact raised, fun _ => ⟨ownLife, by rw [ownBooks, books], Run.isolate_queued ..⟩,
      fun free => ?_, fun free => ?_, fun _ => Run.isolate_notice works⟩
    · cases pending.symm.trans free
    · cases pending.symm.trans free
  · have free := Bool.not_eq_true _ ▸ pending
    rw [if_neg (by rw [life]; exact pending), life]
    by_cases awaits : (r.life i).awaitA = true ∨ (r.life i).awaitB = true
    · rw [if_pos (by simpa using awaits)]
      exact ⟨books, therm, queued, admitting, by rw [books], raised, fun h => absurd h pending, fun _ _ => ⟨life, by rw [books], out⟩,
        fun _ ready => absurd awaits ready, fun h => h.elim (fun h => absurd h pending) fun ready => absurd awaits ready⟩
    · rw [if_neg (by simpa using awaits)]
      have own := u.becomeTracking_get c i
      have ownBooks : (u.becomeTracking c i).books i = u.books i := (congrArg SledRun.books own).trans rfl
      have ownLife : (u.becomeTracking c i).life i = { r.life i with state := .tracking, admission := none } := by
        rw [← life]
        exact (congrArg SledRun.life own).trans rfl
      refine ⟨ownBooks.trans books, ((congrArg SledRun.therm own).trans rfl).trans therm, queued, admitting, by rw [ownBooks, books],
        by rw [Run.becomeTracking_raiseOrder]; exact raised, fun h => absurd h pending, fun _ h => absurd h awaits,
        fun _ _ => ⟨ownLife, Nat.le_of_eq (by rw [ownBooks, books]), ?_⟩, fun _ => Run.becomeTracking_notice works⟩
      rw [← want, ownBooks]
      exact u.becomeTracking_queued c i

/-- A FLOOR entry's sled has no units and no boost. -/
theorem Run.booksSound.waiting {c : Cfg} {r : Run} (b : r.booksSound c) {i : Sled} (admitting : (r.life i).state = .admitting)
    (waits : (r.books i).floorReserved = false) : (r.books i).grant = 0 ∧ (r.books i).boost ≠ .running := by
  have sound := b.sled i
  refine ⟨(sound.admitting admitting).trans (if_neg ?_), fun running => ?_⟩
  · rw [show (r.sleds.get i).books.floorReserved = false from waits]
    nofun
  · cases admitting.symm.trans (sound.boost running).2

theorem Run.served_serveFloor {c : Cfg} {r : Run} {e : Entry} (q : r.queueSound) (b : r.booksSound c) (he : e ∈ r.queue)
    (floor : e.cls = .floor) :
    Run.SledServed c r (r.serveFloor c e.sled).1 e.sled
      ∧ (floorCost c e.sled ≤ r.headroom → Run.FloorServed c r (r.serveFloor c e.sled).1 e.sled
          ∧ ((r.serveFloor c e.sled).1.books e.sled).grant = floorCost c e.sled) := by
  obtain ⟨admitting, waits, free⟩ := q.2.1 e he floor
  obtain ⟨none, still⟩ := b.waiting admitting waits
  have others := Run.OthersKept.serveFloor (c := c) (i := e.sled) r
  by_cases room : floorCost c e.sled ≤ r.headroom
  · let u := ((r.modBooks e.sled fun b => { b with grant := floorCost c e.sled, floorReserved := true }).leaveQueue e.sled).takeNewest e.sled
    have get : u.sleds.get e.sled = { r.sleds.get e.sled with
        books := { r.books e.sled with grant := floorCost c e.sled, floorReserved := true } } :=
      r.modBooks_get e.sled fun b => { b with grant := floorCost c e.sled, floorReserved := true }
    have whole : (r.serveFloor c e.sled).1 = u.settleAdmission c e.sled := by rw [Run.serveFloor, if_pos room]
    have works : u.mode ≠ .config := q.works (i := e.sled) (by rw [admitting]; rfl)
    obtain ⟨books, therm, served⟩ := Run.floorServed_settleAdmission (Run.queued_of_mem he) admitting works still get
      (Run.mem_takeNewest (.inr rfl)) (Run.leaveQueue_queued ..)
    rw [whole] at others ⊢
    refine ⟨⟨by rw [none]; exact Nat.zero_le _, by rw [books], therm, fun _ => ⟨served.queued, served.raised, ?_⟩, others.order _,
      fun _ => served.queued, fun _ tracking => ?_, fun same => ?_, fun _ => served, others.notices _,
      fun fast => absurd fast (Run.not_heldFast he free)⟩, fun _ => ⟨served, by rw [books]⟩⟩
    · rw [books]
      exact Nat.le_max_left ..
    · cases admitting.symm.trans tracking
    · rw [books, waits] at same
      cases same
  · have idle : (r.serveFloor c e.sled).1 = r := by rw [Run.serveFloor, if_neg room]
    rw [idle]
    exact ⟨.refl r, fun room' => absurd room' room⟩

/-! ## The walk -/

/-- What a service of the arbiter does: sled by sled, and out of headroom that covers it. -/
structure Run.Served (c : Cfg) (r t : Run) : Prop where
  each : ∀ i, Run.SledServed c r t i
  mode : t.mode = r.mode
  zone : t.zone.state = r.zone.state
  room : (∀ i, (t.books i).grant = (r.books i).grant) ∨ 0 ≤ t.headroom

theorem Run.Served.refl {c : Cfg} (r : Run) : Run.Served c r r := ⟨fun _ => .refl r, rfl, rfl, .inl fun _ => rfl⟩

theorem Run.Served.trans {c : Cfg} {r t u : Run} (h : Run.Served c r t) (k : Run.Served c t u) (size : u.pool.size = t.pool.size) :
    Run.Served c r u := by
  refine ⟨fun i => (h.each i).trans (k.each i), k.mode.trans h.mode, k.zone.trans h.zone, ?_⟩
  rcases k.room with same | room
  · rcases h.room with same' | room
    · exact .inl fun i => (same i).trans (same' i)
    · refine .inr (Int.le_trans room (Int.le_of_eq ?_))
      have loans (i : Sled) : (u.books i).loan = (t.books i).loan := (congrArg Books.loan (k.each i).books).trans rfl
      have drains (i : Sled) : (u.books i).draining = (t.books i).draining := (congrArg Books.draining (k.each i).books).trans rfl
      unfold Run.headroom Run.sumGrants Run.sumLoans Run.sumDraining
      simp only [same, loans, drains, size]
  · exact .inr room

/-- What one sled gains, headroom loses. -/
theorem Run.headroom_of_served {c : Cfg} {i : Sled} {r t : Run} (others : Run.OthersKept c i r t) (own : Run.SledServed c r t i) :
    t.headroom + (t.books i).grant = r.headroom + (r.books i).grant := by
  have total := Run.headroom_of_other (r := r) (t := t) (i := i) others.size fun j hj => congrArg SledRun.books (others.sled j hj)
  have loan : (t.books i).loan = (r.books i).loan := (congrArg Books.loan own.books).trans rfl
  have draining : (t.books i).draining = (r.books i).draining := (congrArg Books.draining own.books).trans rfl
  unfold Run.units at total
  omega

theorem Run.Served.of_one {c : Cfg} {i : Sled} {r t : Run} (others : Run.OthersKept c i r t) (own : Run.SledServed c r t i)
    (covered : ((t.books i).grant : Int) ≤ (r.books i).grant + r.headroom ∨ (t.books i).grant = (r.books i).grant) :
    Run.Served c r t := by
  refine ⟨fun j => ?_, others.mode, others.zone, ?_⟩
  · by_cases e : j = i
    · exact e ▸ own
    · exact others.served e
  · have total := Run.headroom_of_served others own
    rcases covered with room | same
    · right
      omega
    · refine .inl fun j => ?_
      by_cases e : j = i
      · exact e ▸ same
      · exact congrArg (fun x : SledRun => x.books.grant) (others.sled j e)

theorem Run.serveEntry_kept (c : Cfg) (e : Entry) (r : Run) : Run.OthersKept c e.sled r (r.serveEntry c e).1 := by
  unfold Run.serveEntry
  split
  · exact .serveFloor r
  · exact .serveClass r

/-- The service of an entry that is not held. -/
theorem Run.served_serveEntry {c : Cfg} {r : Run} {e : Entry} (q : r.queueSound) (b : r.booksSound c) (he : e ∈ r.queue)
    (free : e.held = false) : Run.Served c r (r.serveEntry c e).1 := by
  have kept := r.serveEntry_kept c e
  unfold Run.serveEntry at kept ⊢
  split at kept
  · next floor =>
    obtain ⟨served, grant⟩ := Run.served_serveFloor q b he floor
    refine .of_one kept served ?_
    by_cases room : floorCost c e.sled ≤ r.headroom
    · rw [(grant room).2]
      left
      omega
    · rw [Run.serveFloor, if_neg room]
      exact .inr rfl
  · next k cls =>
    have tracking := q.2.2.1 e he (by rw [cls]; nofun)
    refine .of_one kept (Run.served_serveClass q b he free tracking) ?_
    cases service : r.serviceLevel c e.sled with
    | none =>
      rw [Run.serveClass, service]
      exact .inr rfl
    | some k =>
      have fits := (loosest_fits (Run.serviceLevel_some service).1).2
      have grant : ((r.serveClass c e.sled).1.books e.sled).grant = costAt c e.sled k :=
        congrArg (fun x : SledRun => x.books.grant) (Run.serveClass_get service)
      rw [grant]
      exact .inl fits

theorem Run.walk_size (c : Cfg) (n : Nat) (r : Run) : (r.walk c n).pool.size = r.pool.size :=
  (congrArg (fun x : Run => x.pool.size) (Run.Accounts.walk c n r).frame).trans rfl

theorem Run.served_walk {c : Cfg} {n : Nat} {r : Run} (q : r.queueSound) (b : r.booksSound c) : Run.Served c r (r.walk c n) := by
  induction n generalizing r with
  | zero => exact .refl r
  | succ n ih =>
    rw [Run.walk]
    split
    · exact .refl r
    · next e found =>
      have he := List.mem_of_find?_eq_some found
      have served := Run.served_serveEntry q b he (by simpa using List.find?_some found)
      split
      · exact served.trans (ih (Run.queueSound_serveEntry q) (Run.booksSound_serveEntry q b he)) (Run.walk_size ..)
      · exact served

end Sys2Proof.Machine
end

section
namespace Sys2Proof.Machine

open Sys2Proof

/-! ## The first entry that is not held (R44, R45) -/

theorem Run.serve_of_none {c : Cfg} {r : Run} (held : ∀ e ∈ r.queue, e.held = true) : r.serve c = { r with arbiterDue := false } := by
  have none : r.queue.find? (fun e => !e.held) = Option.none := List.find?_eq_none.mpr fun e he => by simp [held e he]
  unfold Run.serve walkTurns
  rw [Run.walk, none]

/-- The service begins with the first entry that is not held, and goes on where that lets it. -/
theorem Run.serve_of_first {c : Cfg} {r : Run} {e : Entry} (first : r.queue.find? (fun e => !e.held) = some e) :
    r.serve c =
      { (if (r.serveEntry c e).2 then (r.serveEntry c e).1.walk c 71 else (r.serveEntry c e).1) with arbiterDue := false } := by
  unfold Run.serve walkTurns
  rw [Run.walk, first]

theorem Run.serve_of_stop {c : Cfg} {r : Run} {e : Entry} (first : r.queue.find? (fun e => !e.held) = some e)
    (stop : (r.serveEntry c e).2 = false) : r.serve c = { (r.serveEntry c e).1 with arbiterDue := false } := by
  rw [Run.serve_of_first first, if_neg (by rw [stop]; exact Bool.false_ne_true)]

/-- The levels that a class entry's service can choose from: no looser than want and ceiling, and covered by headroom (R45). -/
def Run.fits (c : Cfg) (r : Run) (i : Sled) (k : Level) : Prop :=
  (r.books i).wanted ≤ k ∧ r.ceiling c i ≤ k ∧ (costAt c i k : Int) - (r.books i).grant ≤ r.headroom

theorem Run.fits_iff {c : Cfg} {r : Run} {i : Sled} {k : Level} :
    (decide (tighter (r.books i).wanted (r.ceiling c i) ≤ k) && decide ((costAt c i k : Int) ≤ (r.books i).grant + r.headroom)) = true
      ↔ r.fits c i k := by
  rw [Bool.and_eq_true, decide_eq_true_eq, decide_eq_true_eq, tighter_le_iff, and_assoc]
  exact and_congr_right fun _ => and_congr_right fun _ => ⟨fun h => by omega, fun h => by omega⟩

theorem Run.serviceLevel_none {c : Cfg} {r : Run} {i : Sled} (h : ∀ k, r.fits c i k → costAt c i k ≤ (r.books i).grant) :
    r.serviceLevel c i = none := by
  unfold Run.serviceLevel
  split
  · rfl
  · next k found =>
    obtain ⟨tight, covered⟩ := loosest_fits found
    obtain ⟨want, ceiling⟩ := tighter_le_iff.mp tight
    exact if_pos (h k ⟨want, ceiling, by omega⟩)

theorem Run.serviceLevel_of_least {c : Cfg} {r : Run} {i : Sled} {k : Level} (fits : r.fits c i k) (least : ∀ j, j < k → ¬r.fits c i j)
    (above : (r.books i).grant < costAt c i k) : r.serviceLevel c i = some k := by
  have found : loosest c i (tighter (r.books i).wanted (r.ceiling c i)) ((r.books i).grant + r.headroom) = some k := by
    unfold loosest allLevels
    rw [find?_finRange_eq_some]
    exact ⟨Run.fits_iff.mpr fits, fun j hj => Bool.eq_false_iff.mpr fun h => least j hj (Run.fits_iff.mp h)⟩
  unfold Run.serviceLevel
  rw [found]
  exact if_neg (Nat.not_le.mpr above)

/-- A sled that a service has raised short of its want is not touched again by it: it is held. -/
theorem Run.heldFast_serveClass {c : Cfg} {r : Run} {e : Entry} {k : Level} (q : r.queueSound)
    (tracking : (r.life e.sled).state = .tracking) (service : r.serviceLevel c e.sled = some k)
    (short : costAt c e.sled k < r.wantCost c e.sled) (goesOn : (r.serveClass c e.sled).2 = true) :
    (r.serveClass c e.sled).1.heldFast c e.sled := by
  have sound := Run.queueSound_serveClass (c := c) (i := e.sled) q
  have state : ((r.serveClass c e.sled).1.life e.sled).state = .tracking :=
    (congrArg (fun x : SledRun => x.life.state) (Run.serveClass_get service)).trans tracking
  have entries (x : Entry) (hx : x ∈ (r.serveClass c e.sled).1.queue) (same : x.sled = e.sled) : x.cls ≠ .floor := fun floor => by
    have admitting := (sound.2.1 x hx floor).1
    rw [same, state] at admitting
    cases admitting
  rw [Run.serveClass_some service, if_neg (Nat.not_le.mpr short)] at goesOn entries ⊢
  refine ⟨goesOn, fun x hx same => ⟨entries x hx same, ?_⟩⟩
  have held := Run.held_of_mem_refreshHeld hx
  rw [held, same]
  cases cls : x.cls with
  | floor => exact absurd cls (entries x hx same)
  | cls k => exact goesOn

theorem Run.raisesForbidden_of_mode {r t : Run} (mode : t.mode = r.mode) (zone : t.zone.state = r.zone.state) :
    t.raisesForbidden = r.raisesForbidden := by
  unfold Run.raisesForbidden
  rw [mode, zone]

/-- Short of want and ceiling, without a boost and where raises are allowed, the service stops at its sled (R45). -/
theorem Run.serveClass_stops {c : Cfg} {i : Sled} {k : Level} {r : Run} (service : r.serviceLevel c i = some k)
    (short : costAt c i k < r.wantCost c i) (loose : costAt c i k < costAt c i (r.ceiling c i)) (still : (r.books i).boost ≠ .running)
    (allowed : r.raisesForbidden = false) : (r.serveClass c i).2 = false := by
  rw [Run.serveClass_some service, if_neg (Nat.not_le.mpr short)]
  let u := (r.modBooks i fun b => { b with grant := costAt c i k }).takeNewest i
  have get : u.sleds.get i = { r.sleds.get i with books := { r.books i with grant := costAt c i k } } :=
    r.modBooks_get i fun b => { b with grant := costAt c i k }
  have ceiling : u.ceiling c i = r.ceiling c i := Run.ceiling_of_therm ((congrArg SledRun.therm get).trans rfl)
  have grant : (u.books i).grant = costAt c i k := (congrArg (fun x : SledRun => x.books.grant) get).trans rfl
  have boost : (u.books i).boost = (r.books i).boost := (congrArg (fun x : SledRun => x.books.boost) get).trans rfl
  have forbidden : u.raisesForbidden = r.raisesForbidden := rfl
  show u.holds c i = false
  unfold Run.holds
  rw [ceiling, grant, boost, forbidden, allowed]
  simp [still, Nat.not_le.mpr loose]

/-- Once the service is past a sled, from there on it leaves it as it is: not queued, or held. -/
theorem Run.SledServed.past {c : Cfg} {i : Sled} {r t : Run} (h : Run.SledServed c r t i) (done : r.queued i = false ∨ r.heldFast c i) :
    (t.books i).grant = (r.books i).grant ∧ t.queued i = r.queued i := by
  rcases done with out | fast
  · constructor
    · exact Nat.le_antisymm (Nat.not_lt.mp fun less => Bool.false_ne_true (out.symm.trans (h.raised less).1)) h.grant
    · exact (Bool.eq_false_iff.mpr fun hq => Bool.false_ne_true (out.symm.trans (h.queue hq))).trans out.symm
  · obtain ⟨-, books, stays⟩ := h.held fast
    exact ⟨congrArg Books.grant books, Bool.eq_iff_iff.mpr ⟨h.queue, stays⟩⟩

/-- The service after its first entry. -/
theorem Run.served_rest {c : Cfg} {r : Run} {e : Entry} (q : r.queueSound) (b : r.booksSound c) (he : e ∈ r.queue) :
    Run.Served c (r.serveEntry c e).1 (if (r.serveEntry c e).2 then (r.serveEntry c e).1.walk c 71 else (r.serveEntry c e).1) := by
  split
  · exact Run.served_walk (Run.queueSound_serveEntry q) (Run.booksSound_serveEntry q b he)
  · exact .refl _

/-- The mark of a due service is no part of what a service does. -/
theorem Run.Served.of_due (c : Cfg) (b : Bool) (t : Run) : Run.Served c t { t with arbiterDue := b } :=
  ⟨fun _ => ⟨Nat.le_refl _, rfl, rfl, fun less => absurd less (Nat.lt_irrefl _), id, id, fun hq _ => .inl hq, fun _ => rfl,
    fun ne => absurd rfl ne,
    id, fun fast => ⟨fast, rfl, id⟩⟩, rfl, rfl, .inl fun _ => rfl⟩

theorem Run.served_serve {c : Cfg} {r : Run} (q : r.queueSound) (b : r.booksSound c) : Run.Served c r (r.serve c) :=
  (Run.served_walk (n := walkTurns) q b).trans (.of_due c false _) rfl

/-- What a service does once its first entry has been served. -/
theorem Run.served_after_first {c : Cfg} {r : Run} {e : Entry} (q : r.queueSound) (b : r.booksSound c)
    (first : r.queue.find? (fun e => !e.held) = some e) : Run.Served c (r.serveEntry c e).1 (r.serve c) := by
  have rest := Run.served_rest (c := c) q b (List.mem_of_find?_eq_some first)
  rw [Run.serve_of_first first]
  exact rest.trans (.of_due c false _) rfl

/-- A class entry that is first and can be loosened: its sled has the cost of the level chosen (R45). -/
theorem Run.serve_class {c : Cfg} {r : Run} {e : Entry} {n : Fin 4} {k : Level} (q : r.queueSound) (b : r.booksSound c)
    (first : r.queue.find? (fun e => !e.held) = some e) (cls : e.cls = .cls n) (service : r.serviceLevel c e.sled = some k) :
    ((r.serve c).books e.sled).grant = costAt c e.sled k ∧ e.sled ∈ (r.serve c).raiseOrder
      ∧ (r.wantCost c e.sled ≤ costAt c e.sled k → (r.serve c).queued e.sled = false)
      ∧ (costAt c e.sled k < r.wantCost c e.sled → (r.serve c).queued e.sled = true) := by
  have he := List.mem_of_find?_eq_some first
  have tracking := q.2.2.1 e he (by rw [cls]; nofun)
  have entry : r.serveEntry c e = r.serveClass c e.sled := by unfold Run.serveEntry; rw [cls]
  have rest := (Run.served_after_first q b first).each e.sled
  obtain ⟨leaves, stays⟩ := Run.serveClass_queued service (Run.queued_of_mem he)
  rw [entry] at rest
  have grant : ((r.serveClass c e.sled).1.books e.sled).grant = costAt c e.sled k :=
    congrArg (fun x : SledRun => x.books.grant) (Run.serveClass_get service)
  have past : ((r.serve c).books e.sled).grant = ((r.serveClass c e.sled).1.books e.sled).grant
      ∧ (r.serve c).queued e.sled = (r.serveClass c e.sled).1.queued e.sled := by
    by_cases goesOn : (r.serveClass c e.sled).2 = true
    · refine rest.past ?_
      rcases Nat.lt_or_ge (costAt c e.sled k) (r.wantCost c e.sled) with short | full
      · exact .inr (Run.heldFast_serveClass q tracking service short goesOn)
      · exact .inl (leaves full)
    · have stop := Run.serve_of_stop (c := c) first (by rw [entry]; exact Bool.not_eq_true _ ▸ goesOn)
      rw [stop, entry]
      exact ⟨rfl, rfl⟩
  exact ⟨past.1.trans grant, rest.order (Run.serveClass_order service), fun full => past.2.trans (leaves full),
    fun short => past.2.trans (stays short)⟩

/-- A FLOOR entry that is first and that headroom covers (R25, R44). -/
theorem Run.serve_floor {c : Cfg} {r : Run} {e : Entry} (q : r.queueSound) (b : r.booksSound c)
    (first : r.queue.find? (fun e => !e.held) = some e) (floor : e.cls = .floor) (room : floorCost c e.sled ≤ r.headroom) :
    ((r.serve c).books e.sled).floorReserved = true ∧ floorCost c e.sled ≤ ((r.serve c).books e.sled).grant
      ∧ e.sled ∈ (r.serve c).raiseOrder := by
  obtain ⟨-, served⟩ := Run.served_serveFloor q b (List.mem_of_find?_eq_some first) floor
  obtain ⟨now, grant⟩ := served room
  have entry : r.serveEntry c e = r.serveFloor c e.sled := by unfold Run.serveEntry; rw [floor]
  have rest := (Run.served_after_first q b first).each e.sled
  rw [entry] at rest
  refine ⟨?_, Nat.le_trans (Nat.le_of_eq grant.symm) rest.grant, rest.order now.raised⟩
  by_cases same : ((r.serveFloor c e.sled).1.books e.sled).floorReserved = ((r.serve c).books e.sled).floorReserved
  · exact same.symm.trans now.reserved
  · exact (rest.floor same).reserved

end Sys2Proof.Machine

open Sys2Proof Sys2Proof.Machine

/-- Settles O29: each entry that a service takes gains what headroom covers, and what follows leaves it as it is. -/
theorem arbiterServesFromHeadroom : Obligations.ArbiterServesFromHeadroom := by
  unfold Obligations.ArbiterServesFromHeadroom
  intro c r queue books t
  have whole : Run.Served c r t := Run.served_serve queue books
  have front {e : Entry} {rest : List Entry} (h : (r.queue.filter fun x => !x.held) = e :: rest) :
      r.queue.find? (fun x => !x.held) = some e := by rw [← List.head?_filter, h]; rfl
  refine ⟨rfl, fun i => ?_, fun ⟨i, raised⟩ => ?_, Run.serve_of_none, fun e rest h floor short => ?_, fun e rest q h cls => ?_,
    fun e rest h floor room => Run.serve_floor queue books (front h) floor room, fun i => (whole.each i).life, fun i ne => ?_⟩
  · obtain ⟨grant, units, -, raised, -⟩ := whole.each i
    exact ⟨grant, (congrArg Books.loan units).trans rfl, (congrArg Books.draining units).trans rfl, raised⟩
  · refine whole.room.resolve_left fun same => ?_
    rw [same i] at raised
    exact Nat.lt_irrefl _ raised
  · have refused : r.serveEntry c e = (r, false) := by
      unfold Run.serveEntry
      rw [floor]
      exact if_neg (Int.not_le.mpr short)
    have stop := Run.serve_of_stop (c := c) (front h) (by rw [refused])
    rw [refused] at stop
    exact stop
  · intro i b fits
    have entry : r.serveEntry c e = r.serveClass c i := by unfold Run.serveEntry; rw [cls]
    refine ⟨fun none => ?_, fun k fit least above => ?_⟩
    · have refused : r.serveEntry c e = (r, false) := by
        rw [entry, Run.serveClass, Run.serviceLevel_none none]
      have stop := Run.serve_of_stop (c := c) (front h) (by rw [refused])
      rw [refused] at stop
      exact stop
    · have service := Run.serviceLevel_of_least fit least above
      obtain ⟨grant, order, leaves, stays⟩ := Run.serve_class queue books (front h) cls service
      refine ⟨grant, order, leaves, stays, fun short loose still allowed => ?_⟩
      have kept := Run.OthersKept.serveClass (c := c) (i := i) r
      have stop := Run.serve_of_stop (c := c) (front h) (by rw [entry]; exact Run.serveClass_stops service short loose still allowed)
      rw [entry] at stop
      have queue : (r.serveClass c i).1.queue.map (fun x => (x.sled, x.cls, x.wanted)) = r.queue.map fun x => (x.sled, x.cls, x.wanted) := by
        rw [Run.serveClass_some service, if_neg (Nat.not_le.mpr short)]
        exact Run.refreshHeld_places ..
      constructor
      · intro j hj
        rw [show t.books j = _ from congrArg (fun x : Run => x.books j) stop]
        exact congrArg SledRun.books (kept.sled j hj)
      · rw [show t.queue = _ from congrArg Run.queue stop]
        exact queue
  · intro l awaits
    obtain ⟨queued, admitting, reserved, raised, contained, waiting, tracking, notice⟩ := (whole.each i).floor ne
    exact ⟨queued, admitting, reserved, raised, contained, waiting, tracking, notice⟩
end

section
/-! SUPPORT. Taking a fault (R138 to R144). -/

namespace Sys2Proof.Machine

open Sys2Proof

/-! ## Records -/

/-- A fault put into its severity's record: first, or later (R141). -/
theorem SeverityRecord.take_eq (f : FaultRecord) (v : SeverityRecord) :
    v.take f =
      if v.first = none then { v with first := some f }
      else
        { v with
          laterSet := v.laterSet ||| BitVec.ofNat 16 (2 ^ f.cls.index.val)
          laterCount := if v.laterCount < 255 then v.laterCount + 1 else v.laterCount } := by
  have mark (k : FaultClass) : 1#16 <<< k.index.val = BitVec.ofNat 16 (2 ^ k.index.val) := by cases k <;> decide
  unfold SeverityRecord.take satSucc
  cases h : v.first with
  | none => simp
  | some g => simp [mark]

theorem SeverityRecord.take_first (f : FaultRecord) (v : SeverityRecord) : (v.take f).first.isSome = true := by
  unfold SeverityRecord.take
  split
  · rfl
  · next h => simp [h]

theorem Run.record_advisory (c : Cfg) (f : FaultRecord) (r : Run) :
    r.record c .advisory f =
      { r with
        advisory := r.advisory.take f
        notices := if c.mask.fault then r.notices.insert (.fault .advisory) else r.notices } := by
  unfold Run.record Run.post noticeAllowed
  dsimp only
  split <;> rfl

theorem Run.record_severe (c : Cfg) (f : FaultRecord) (r : Run) :
    r.record c .severe f =
      { r with
        severe := r.severe.take f
        notices := if c.mask.fault then r.notices.insert (.fault .severe) else r.notices } := by
  unfold Run.record Run.post noticeAllowed
  dsimp only
  split <;> rfl

/-! ## Containment -/

/-- What containment makes of a sled's records (R69, R70). -/
def SledRun.contained (floor : Nat) (x : SledRun) : SledRun :=
  match x.life.state with
  | .disabled | .absent | .standby | .isolated => x
  | .tracking => x.isolated floor
  | .admitting => if x.books.floorReserved then x.isolated floor else { x with life := { x.life with containPending := true } }

/-- A sled that containment isolates: one that holds its floor. -/
def SledRun.holdsFloor (x : SledRun) : Prop :=
  x.life.state = .tracking ∨ x.life.state = .admitting ∧ x.books.floorReserved = true

theorem SledRun.contained_of_holds {floor : Nat} {x : SledRun} (h : x.holdsFloor) : x.contained floor = x.isolated floor := by
  unfold SledRun.contained
  rcases h with tracking | ⟨admitting, reserved⟩
  · rw [tracking]
  · rw [admitting]
    exact if_pos reserved

theorem SledRun.contained_of_waits {floor : Nat} {x : SledRun} (admitting : x.life.state = .admitting)
    (waits : x.books.floorReserved = false) :
    x.contained floor = { x with life := { x.life with containPending := true } } := by
  unfold SledRun.contained
  rw [admitting]
  exact if_neg (by rw [waits]; exact Bool.false_ne_true)

theorem SledRun.contained_of_other {floor : Nat} {x : SledRun} (h1 : x.life.state ≠ .tracking) (h2 : x.life.state ≠ .admitting) :
    x.contained floor = x := by
  unfold SledRun.contained
  split
  all_goals first | rfl | contradiction

theorem Run.containSled_get (c : Cfg) (i j : Sled) (r : Run) :
    (r.containSled c i).sleds.get j = if j = i then (r.sleds.get i).contained (floorCost c i) else r.sleds.get j := by
  have same : (if j = i then r.sleds.get i else r.sleds.get j) = r.sleds.get j := by
    split
    · next e => rw [e]
    · rfl
  have life (i : Sled) : r.life i = (r.sleds.get i).life := rfl
  unfold Run.containSled SledRun.contained
  rw [life]
  cases state : (r.sleds.get i).life.state with
  | disabled => exact same.symm
  | absent => exact same.symm
  | standby => exact same.symm
  | isolated => exact same.symm
  | tracking => exact r.isolate_get c i j
  | admitting =>
    dsimp only
    cases reserved : (r.books i).floorReserved with
    | true =>
      rw [if_pos rfl, if_pos (show (r.sleds.get i).books.floorReserved = true from reserved)]
      exact r.isolate_get c i j
    | false =>
      have plain (x y : SledRun) : (if (r.sleds.get i).books.floorReserved = true then x else y) = y :=
        if_neg (by rw [show (r.sleds.get i).books.floorReserved = false from reserved]; exact Bool.false_ne_true)
      rw [if_neg Bool.false_ne_true, plain]
      exact modAt_get i j (fun x => { x with life := { x.life with containPending := true } }) r.sleds

theorem Run.Accounts.containSled (c : Cfg) (i : Sled) (r : Run) : Run.Accounts r (r.containSled c i) := by
  unfold Run.containSled
  split
  · exact refl r
  · exact refl r
  · exact refl r
  · exact refl r
  · exact isolate ..
  · split
    · exact isolate ..
    · exact modLife rfl

theorem Run.OthersKept.containSled {c : Cfg} {i : Sled} (r : Run) : Run.OthersKept c i r (r.containSled c i) := by
  unfold Run.containSled
  split
  · exact refl r
  · exact refl r
  · exact refl r
  · exact refl r
  · exact isolate r
  · split
    · exact isolate r
    · exact modSled _ r

/-- A sled that containment isolates is not queued after it, and is noticed. -/
theorem Run.containSled_isolates {c : Cfg} {i : Sled} {r : Run} (h : (r.sleds.get i).holdsFloor) : r.containSled c i = r.isolate c i := by
  unfold Run.containSled
  rcases h with tracking | ⟨admitting, reserved⟩
  · rw [show (r.life i).state = .tracking from tracking]
  · rw [show (r.life i).state = .admitting from admitting]
    exact if_pos reserved

theorem Run.containSled_queued {c : Cfg} {i j : Sled} {r : Run} (h : (r.containSled c i).queued j = true) : r.queued j = true := by
  have isolated (h : (r.isolate c i).queued j = true) : r.queued j = true := by
    obtain ⟨x, hx, rfl⟩ := Run.queued_iff.mp h
    have seat := List.mem_map_of_mem (f := Entry.seat) hx
    rw [Run.isolate_queue] at seat
    obtain ⟨y, hy, same⟩ := List.mem_map.mp seat
    exact Run.queued_iff.mpr ⟨y, (List.mem_filter.mp hy).1, congrArg Prod.fst same⟩
  unfold Run.containSled at h
  split at h
  · exact h
  · exact h
  · exact h
  · exact h
  · exact isolated h
  · split at h
    · exact isolated h
    · exact h

/-- Containment of a list of sleds. -/
theorem Run.contain_spec {c : Cfg} {l : List Sled} (nodup : l.Nodup) (r : Run) :
    Run.Accounts r (l.foldl (fun r i => r.containSled c i) r)
      ∧ (∀ j, (l.foldl (fun r i => r.containSled c i) r).sleds.get j
          = if j ∈ l then (r.sleds.get j).contained (floorCost c j) else r.sleds.get j)
      ∧ (∀ j, (l.foldl (fun r i => r.containSled c i) r).queued j = true → r.queued j = true)
      ∧ (∀ j, r.notices.sled.get j = true → (l.foldl (fun r i => r.containSled c i) r).notices.sled.get j = true)
      ∧ ∀ j ∈ l, (r.sleds.get j).holdsFloor → (l.foldl (fun r i => r.containSled c i) r).queued j = false
          ∧ (c.mask.sled = true → r.mode ≠ .config → (l.foldl (fun r i => r.containSled c i) r).notices.sled.get j = true) := by
  have get := foldl_sleds_get (g := fun i x => x.contained (floorCost c i)) (fun r i j => r.containSled_get c i j) nodup r
  induction l generalizing r with
  | nil => exact ⟨.refl r, get, fun _ => id, fun _ => id, nofun⟩
  | cons i l ih =>
    obtain ⟨new, nodup⟩ := List.nodup_cons.mp nodup
    obtain ⟨accounts, -, queued, notices, isolated⟩ := ih nodup (r.containSled c i)
      (foldl_sleds_get (g := fun i x => x.contained (floorCost c i)) (fun r i j => r.containSled_get c i j) nodup _)
    have kept := Run.OthersKept.containSled (c := c) (i := i) r
    rw [List.foldl_cons] at get ⊢
    refine ⟨(Run.Accounts.containSled c i r).trans accounts, get, fun j hj => Run.containSled_queued (queued j hj),
      fun j hj => notices j (kept.notices j hj), fun j hj holds => ?_⟩
    rcases List.mem_cons.mp hj with rfl | hj
    · have whole := Run.containSled_isolates (c := c) holds
      refine ⟨Bool.eq_false_iff.mpr fun hq => ?_, fun masked works => notices j ?_⟩
      · have still := queued j hq
        rw [whole, Run.isolate_queued] at still
        cases still
      · rw [whole]
        exact Run.isolate_notice works masked
    · have other : j ≠ i := fun e => new (e ▸ hj)
      have same : (r.containSled c i).sleds.get j = r.sleds.get j := (r.containSled_get c i j).trans (if_neg other)
      obtain ⟨out, noticed⟩ := isolated j hj (same ▸ holds)
      exact ⟨out, fun masked works => noticed masked (by rw [kept.mode]; exact works)⟩

/-- An isolated sled's books: what was above the floor drains, and so does a loan (R69). -/
theorem SledRun.isolated_books (n : Nat) (x : SledRun) :
    (x.isolated n).books.grant = min x.books.grant n
      ∧ (x.isolated n).books.loan = (if x.books.boost = .running then 0 else x.books.loan)
      ∧ (x.isolated n).books.grant + (x.isolated n).books.loan + (x.isolated n).books.draining
          = x.books.grant + x.books.loan + x.books.draining := by
  obtain ⟨grant, rest⟩ := SledRun.boostEnded_units x
  have loan : x.boostEnded.books.loan = if x.books.boost = .running then 0 else x.books.loan := by
    unfold SledRun.boostEnded
    split <;> rfl
  refine ⟨congrArg (min · n) grant, loan, ?_⟩
  show min x.boostEnded.books.grant n + x.boostEnded.books.loan + (x.boostEnded.books.draining + (x.boostEnded.books.grant - n)) = _
  omega

/-- The sleds that a fault's subject covers (R143). -/
theorem Run.mem_covered {r : Run} {x : Subject} {i : Sled} :
    i ∈ r.covered x ↔
      match x with
      | .probe p => i.val = p.val / 2
      | .sled j => i = j
      | .lane n => i.val / 6 = n.val ∧ ((r.life i).state = .admitting ∨ (r.life i).state = .tracking)
      | .zoneInput _ | .pool | .link => False := by
  cases x with
  | probe p => simp [Run.covered, sledOfProbe, Fin.ext_iff]
  | sled j => simp [Run.covered]
  | lane n => simp [Run.covered, sledsOfLane, laneOfSled, mem_allSleds, Fin.ext_iff, and_comm]
  | zoneInput z => simp [Run.covered]
  | pool => simp [Run.covered]
  | link => simp [Run.covered]

theorem Run.covered_nodup (r : Run) (x : Subject) : (r.covered x).Nodup := by
  cases x with
  | probe p => exact List.pairwise_singleton _ _
  | sled j => exact List.pairwise_singleton _ _
  | lane n => exact (allSleds_nodup.filter _).filter _
  | zoneInput z => exact List.nodup_nil
  | pool => exact List.nodup_nil
  | link => exact List.nodup_nil

/-! ## The demand for SAFE -/

/-- A SLED or MODE notice leaves the mark of the severe record's. -/
theorem Run.post_severe {c : Cfg} {k : Notice} {r : Run} (h : r.notices.severe = true) : (r.post c k).notices.severe = true := by
  unfold Run.post
  split
  · cases k with
    | fault v =>
      cases v with
      | severe => rfl
      | advisory => exact h
    | sled i => exact h
    | pool => exact h
    | zone => exact h
    | mode => exact h
  · exact h

theorem Run.containSled_severe {c : Cfg} {i : Sled} {r : Run} (h : r.notices.severe = true) :
    (r.containSled c i).notices.severe = true := by
  have isolated : (r.isolate c i).notices.severe = true := by
    refine Run.post_severe ?_
    have ended := (r.modLife i fun l => { l with state := .isolated, admission := none, containPending := false }).endBoostEarly_frame i
    unfold Run.cutToFloor
    exact (congrArg (fun x : Run => x.notices.severe) ended).trans h
  unfold Run.containSled
  split
  · exact h
  · exact h
  · exact h
  · exact h
  · exact isolated
  · split
    · exact isolated
    · exact h

theorem Run.toSafe_notices {c : Cfg} {r : Run} :
    (r.notices.severe = true → (r.toSafe c).notices.severe = true) ∧ (c.mask.mode = true → (r.toSafe c).notices.mode = true) := by
  constructor
  · intro h
    have ended := Run.endAllBoosts_frame { r with mode := .safe, cause := .fault }
    unfold Run.toSafe
    generalize Run.endAllBoosts { r with mode := .safe, cause := .fault } = v at ended
    refine Run.post_severe ?_
    show v.notices.severe = true
    rw [ended]
    exact h
  · intro masked
    unfold Run.toSafe Run.post noticeAllowed
    rw [if_pos masked]
    rfl

end Sys2Proof.Machine
end

section
/-! SUPPORT. A fault that contains, and one that demands SAFE (R143, R144). -/

namespace Sys2Proof.Machine

open Sys2Proof

/-- The record of a fault, as it is taken. -/
def Run.fault (r : Run) (k : FaultClass) (x : Subject) (d : Nat) : FaultRecord :=
  { cls := k, subject := x, time := r.clock.stamp, detail := d }

section Routed
variable {c : Cfg} {k : FaultClass} {x : Subject} {d : Nat} {r : Run}

theorem Run.raise_of_ignore (h : c.routing.get k.index = .ignore) : r.raise c k x d = r := by
  unfold Run.raise
  rw [h]

theorem Run.raise_of_report (h : c.routing.get k.index = .report) : r.raise c k x d = r.record c .advisory (r.fault k x d) := by
  unfold Run.raise
  rw [h]
  rfl

theorem Run.raise_of_contain (h : c.routing.get k.index = .contain) :
    r.raise c k x d = (r.record c .severe (r.fault k x d)).contain c x := by
  unfold Run.raise
  rw [h]
  rfl

theorem Run.raise_of_safe (h : c.routing.get k.index = .safe) :
    r.raise c k x d = (r.record c .severe (r.fault k x d)).demandSafe c := by
  unfold Run.raise
  rw [h]
  rfl

end Routed

/-- A fault put into the severe record, with its notice (R140, R141). -/
structure Run.Severe (c : Cfg) (f : FaultRecord) (r t : Run) : Prop where
  frame : t = { r with severe := r.severe.take f, notices := t.notices }
  notice : c.mask.fault = true → t.notices.severe = true

theorem Run.severe_record (c : Cfg) (f : FaultRecord) (r : Run) : Run.Severe c f r (r.record c .severe f) := by
  rw [r.record_severe c f]
  by_cases masked : c.mask.fault = true
  · rw [if_pos masked]
    exact ⟨rfl, fun _ => rfl⟩
  · rw [if_neg masked]
    exact ⟨rfl, fun h => absurd h masked⟩

theorem Run.severe_contain {c : Cfg} {l : List Sled} {r : Run} (h : r.notices.severe = true) :
    (l.foldl (fun r i => r.containSled c i) r).notices.severe = true := by
  induction l generalizing r with
  | nil => exact h
  | cons i l ih => exact ih (Run.containSled_severe h)

/-- What the severe faults have in common, whatever their action (R141, R144). -/
structure Run.TakenSevere (c : Cfg) (f : FaultRecord) (r t : Run) : Prop where
  severe : t.severe = r.severe.take f
  advisory : t.advisory = r.advisory
  notice : c.mask.fault = true → t.notices.severe = true

theorem Run.TakenSevere.alarm {c : Cfg} {f : FaultRecord} {r t : Run} (h : Run.TakenSevere c f r t) : t.alarm = true := by
  unfold Run.alarm
  rw [h.severe, SeverityRecord.take_first]
  rfl

theorem Run.Severe.contain {c : Cfg} {f : FaultRecord} {r t : Run} (h : Run.Severe c f r t) (x : Subject) :
    Run.TakenSevere c f r (t.contain c x) := by
  obtain ⟨accounts, -⟩ := Run.contain_spec (c := c) (t.covered_nodup x) t
  exact ⟨((congrArg Run.severe accounts.frame).trans rfl).trans ((congrArg Run.severe h.frame).trans rfl),
    ((congrArg Run.advisory accounts.frame).trans rfl).trans ((congrArg Run.advisory h.frame).trans rfl),
    fun masked => Run.severe_contain (h.notice masked)⟩

theorem Run.Severe.demandSafe {c : Cfg} {f : FaultRecord} {r t : Run} (h : Run.Severe c f r t) :
    Run.TakenSevere c f r (t.demandSafe c) := by
  have severe : t.severe = r.severe.take f := (congrArg Run.severe h.frame).trans rfl
  have advisory : t.advisory = r.advisory := (congrArg Run.advisory h.frame).trans rfl
  rw [Run.demandSafe_eq]
  split
  · have frame := (t.toSafe_spec c).1
    exact ⟨((congrArg Run.severe frame).trans rfl).trans severe, ((congrArg Run.advisory frame).trans rfl).trans advisory,
      fun masked => Run.toSafe_notices.1 (h.notice masked)⟩
  · exact ⟨severe, advisory, h.notice⟩

theorem Run.takenSevere_raise {c : Cfg} {k : FaultClass} {x : Subject} {d : Nat} {r : Run}
    (h : c.routing.get k.index = .contain ∨ c.routing.get k.index = .safe) :
    Run.TakenSevere c (r.fault k x d) r (r.raise c k x d) := by
  have recorded := Run.severe_record c (r.fault k x d) r
  rcases h with contain | safe
  · rw [Run.raise_of_contain contain]
    exact recorded.contain x
  · rw [Run.raise_of_safe safe]
    exact recorded.demandSafe

/-- What CONTAIN makes of the sleds that the fault covers, and of the others (R69, R70, R143). -/
structure Run.Contained (c : Cfg) (covers : Sled → Prop) (r t : Run) : Prop where
  mode : t.mode = r.mode
  uncovered : ∀ i, ¬covers i → t.sleds.get i = r.sleds.get i
  covered : ∀ i, covers i → t.sleds.get i = (r.sleds.get i).contained (floorCost c i)
  queued : ∀ i, covers i → (r.sleds.get i).holdsFloor → t.queued i = false
  notice : ∀ i, covers i → (r.sleds.get i).holdsFloor → c.mask.sled = true → r.mode ≠ .config → t.notices.sled.get i = true

theorem Run.contained_contain (c : Cfg) (x : Subject) (r : Run) : Run.Contained c (fun i => i ∈ r.covered x) r (r.contain c x) := by
  obtain ⟨accounts, get, -, -, isolated⟩ := Run.contain_spec (c := c) (r.covered_nodup x) r
  exact ⟨(congrArg Run.mode accounts.frame).trans rfl, fun i out => (get i).trans (if_neg out), fun i inside => (get i).trans (if_pos inside),
    fun i inside holds => (isolated i inside holds).1, fun i inside holds => (isolated i inside holds).2⟩

theorem Run.contained_raise {c : Cfg} {k : FaultClass} {x : Subject} {d : Nat} {r : Run} (h : c.routing.get k.index = .contain) :
    Run.Contained c (fun i => i ∈ r.covered x) r (r.raise c k x d) := by
  rw [Run.raise_of_contain h]
  have frame := (Run.severe_record c (r.fault k x d) r).frame
  have contained := Run.contained_contain c x (r.record c .severe (r.fault k x d))
  have sleds : (r.record c .severe (r.fault k x d)).sleds = r.sleds := (congrArg Run.sleds frame).trans rfl
  have mode : (r.record c .severe (r.fault k x d)).mode = r.mode := (congrArg Run.mode frame).trans rfl
  have covers : (r.record c .severe (r.fault k x d)).covered x = r.covered x := by
    rw [frame]
    cases x <;> rfl
  rw [covers] at contained
  obtain ⟨m, u, i, q, n⟩ := contained
  rw [sleds] at u i q n
  rw [mode] at m n
  exact ⟨m, u, i, q, n⟩

/-- What a demand for SAFE makes of RUN (R144, R155). -/
theorem Run.raise_of_safe_run {c : Cfg} {k : FaultClass} {x : Subject} {d : Nat} {r : Run} (h : c.routing.get k.index = .safe)
    (run : r.mode = .run) :
    (r.raise c k x d).mode = .safe ∧ (r.raise c k x d).cause = .fault
      ∧ (c.mask.mode = true → (r.raise c k x d).notices.mode = true)
      ∧ (∀ i, (r.raise c k x d).sleds.get i = (r.sleds.get i).boostEnded)
      ∧ (r.raise c k x d).queue.map (fun e => (e.sled, e.cls, e.wanted)) = r.queue.map (fun e => (e.sled, e.cls, e.wanted))
      ∧ ∀ e ∈ (r.raise c k x d).queue, e.held = decide (e.cls ≠ .floor) := by
  have recorded := (Run.severe_record c (r.fault k x d) r).frame
  rw [Run.raise_of_safe h, Run.demandSafe_eq]
  generalize r.record c .severe (r.fault k x d) = u at recorded ⊢
  have sleds : u.sleds = r.sleds := (congrArg Run.sleds recorded).trans rfl
  have queue : u.queue = r.queue := (congrArg Run.queue recorded).trans rfl
  rw [if_pos (((congrArg Run.mode recorded).trans rfl).trans run)]
  obtain ⟨frame, ended, places, held⟩ := u.toSafe_spec c
  exact ⟨(congrArg Run.mode frame).trans rfl, (congrArg Run.cause frame).trans rfl, Run.toSafe_notices.2, sleds ▸ ended, queue ▸ places, held⟩

theorem SledRun.boostEnded_life (x : SledRun) : x.boostEnded.life = x.life := by
  unfold SledRun.boostEnded
  split <;> rfl

theorem Run.raise_of_safe_out {c : Cfg} {k : FaultClass} {x : Subject} {d : Nat} {r : Run} (h : c.routing.get k.index = .safe)
    (out : r.mode ≠ .run) :
    (r.raise c k x d).mode = r.mode ∧ (r.raise c k x d).sleds = r.sleds ∧ (r.raise c k x d).queue = r.queue := by
  have recorded := (Run.severe_record c (r.fault k x d) r).frame
  rw [Run.raise_of_safe h, Run.demandSafe_eq]
  generalize r.record c .severe (r.fault k x d) = u at recorded ⊢
  have mode : u.mode = r.mode := (congrArg Run.mode recorded).trans rfl
  rw [if_neg (fun e => out (mode.symm.trans e))]
  exact ⟨mode, (congrArg Run.sleds recorded).trans rfl, (congrArg Run.queue recorded).trans rfl⟩

end Sys2Proof.Machine

open Sys2Proof Sys2Proof.Machine

/-- Settles O50: an action of a class is looked up once; a severe fault is recorded, then contains sled by sled or demands SAFE. -/
theorem faultIsTakenByItsAction : Obligations.FaultIsTakenByItsAction := by
  intro c k x detail r f taken t a
  have taken_eq (v : SeverityRecord) : v.take f = taken v := SeverityRecord.take_eq f v
  refine ⟨Run.raise_of_ignore, fun report => ?_, fun severe => ?_, fun contain => ?_, Run.raise_of_safe_out, fun safe run => ?_⟩
  · have whole : t = _ := (Run.raise_of_report report).trans (r.record_advisory c f)
    rw [taken_eq] at whole
    exact whole
  · have h := Run.takenSevere_raise (x := x) (d := detail) (r := r) severe
    exact ⟨h.severe.trans (taken_eq _), h.advisory, h.notice, h.alarm⟩
  · intro covers
    have h := Run.contained_raise (x := x) (d := detail) (r := r) contain
    have inside (i : Sled) : covers i ↔ i ∈ r.covered x := Run.mem_covered.symm
    refine ⟨h.mode, fun i out => h.uncovered i (mt (inside i).mpr out), fun i k h1 h2 => ?_, fun i k holds => ?_, fun i k h1 h2 => ?_⟩
    · exact (h.covered i ((inside i).mp k)).trans (SledRun.contained_of_other h1 h2)
    · have isolated := (h.covered i ((inside i).mp k)).trans (SledRun.contained_of_holds holds)
      obtain ⟨grant, loan, sum⟩ := SledRun.isolated_books (floorCost c i) (r.sleds.get i)
      have books : t.books i = ((r.sleds.get i).isolated (floorCost c i)).books := congrArg SledRun.books isolated
      rw [books]
      exact ⟨(congrArg SledRun.life isolated).trans rfl, grant, loan, h.queued i ((inside i).mp k) holds, sum,
        h.notice i ((inside i).mp k) holds⟩
    · have waits := (h.covered i ((inside i).mp k)).trans (SledRun.contained_of_waits h1 h2)
      exact ⟨(congrArg SledRun.life waits).trans rfl, (congrArg SledRun.books waits).trans rfl⟩
  · obtain ⟨mode, cause, notice, ended, places, held⟩ := Run.raise_of_safe_run (x := x) (d := detail) safe run
    refine ⟨mode, cause, notice, fun i => ?_, places, held⟩
    obtain ⟨boost, grant, units⟩ := Run.boostEnded_of_get ended i
    exact ⟨boost, grant, units, (congrArg SledRun.life (ended i)).trans (SledRun.boostEnded_life _)⟩
end

section
/-! SUPPORT. The levels, the lines and the lane pins (R10 to R12, R106, R107, R161). -/

namespace Sys2Proof.Machine

open Sys2Proof

/-! ## Levels -/

/-- The grant level is the loosest that the units cover (R11). -/
theorem Run.grantLevel_spec {c : Cfg} {r : Run} {i : Sled} (h : (r.life i).state ≠ .disabled) :
    (∀ k, costAt c i k ≤ (r.books i).grant + (r.books i).loan → r.grantLevel c i ≤ k)
      ∧ (costAt c i (r.grantLevel c i) ≤ (r.books i).grant + (r.books i).loan ∨ r.grantLevel c i = 15) := by
  have level : r.grantLevel c i = (loosest c i 0 ((r.books i).grant + (r.books i).loan : Nat)).getD 15 := if_neg h
  have fits (k : Level) : (decide (0 ≤ k) && decide ((costAt c i k : Int) ≤ ((r.books i).grant + (r.books i).loan : Nat))) = true
      ↔ costAt c i k ≤ (r.books i).grant + (r.books i).loan := by
    simp
    omega
  unfold loosest at level
  rw [level]
  cases found : allLevels.find? fun k => decide (0 ≤ k) && decide ((costAt c i k : Int) ≤ ((r.books i).grant + (r.books i).loan : Nat)) with
  | none =>
    exact ⟨fun k covered => absurd ((fits k).mpr covered) (List.find?_eq_none.mp found k (List.mem_finRange k)), .inr rfl⟩
  | some g =>
    obtain ⟨covered, first⟩ := find?_finRange_eq_some.mp found
    exact ⟨fun k hk => Fin.not_lt.mp fun less => absurd ((fits k).mpr hk) (by simpa using first k less), .inl ((fits g).mp covered)⟩

theorem tighter_val (a b : Level) : (tighter a b).val = max a.val b.val := by
  unfold tighter
  split
  · next h => exact (Nat.max_eq_right (Fin.le_def.mp h)).symm
  · next h => exact (Nat.max_eq_left (Nat.le_of_not_le h)).symm

theorem ceilingOf_val (c : Cfg) (h : Heat) :
    (ceilingOf c h).val = (match h with | .cool => 0 | .warm => c.globals.warmCeiling.val | .hot => c.globals.hotCeiling.val) := by
  cases h <;> rfl

/-! ## THR and LINK_TX -/

section Thr
variable (s : State) {i : Sled} (running : s.inReset = false)
include running

theorem State.thr_of_disabled (h : (s.run.life i).state = .disabled) : s.thr i = .highZ := by
  unfold State.thr
  rw [if_neg (by rw [running]; exact Bool.false_ne_true)]
  simp only [h]

theorem State.thr_of_absent (h : (s.run.life i).state = .absent) : s.thr i = (s.cfg.sled i).polarity.level false := by
  unfold State.thr
  rw [if_neg (by rw [running]; exact Bool.false_ne_true)]
  simp only [h]

theorem State.thr_of_present (h1 : (s.run.life i).state ≠ .disabled) (h2 : (s.run.life i).state ≠ .absent) :
    s.thr i = if (s.run.chan i).carrier = .admitting then (s.cfg.sled i).polarity.level true else (s.cfg.sled i).polarity.level false := by
  unfold State.thr
  rw [if_neg (by rw [running]; exact Bool.false_ne_true)]
  have drive : (s.cfg.sled i).polarity.level ((s.run.chan i).carrier == .admitting)
      = if (s.run.chan i).carrier = .admitting then (s.cfg.sled i).polarity.level true else (s.cfg.sled i).polarity.level false := by
    by_cases e : (s.run.chan i).carrier = .admitting
    · rw [if_pos e, e]
      rfl
    · rw [if_neg e, beq_eq_false_iff_ne.mpr e]
  cases state : (s.run.life i).state with
  | disabled => exact absurd state h1
  | absent => exact absurd state h2
  | standby => exact drive
  | admitting => exact drive
  | tracking => exact drive
  | isolated => exact drive

end Thr

theorem State.linkTx_of_idle (s : State) (h : s.inReset = true ∨ s.link.tx = none) (bit : Nat) : s.linkTx bit = .high := by
  unfold State.linkTx
  split
  · rfl
  · next running => rw [h.resolve_left running]

theorem State.linkTx_of_sending {s : State} {o : Outgoing} (running : s.inReset = false) (h : s.link.tx = some o) (bit : Nat) :
    s.linkTx bit = (o.frame.wire.flatMap lineLevels).getD bit .high := by
  unfold State.linkTx
  rw [if_neg (by rw [running]; exact Bool.false_ne_true), h]

/-- The levels of bytes back to back, bit by bit (R161). -/
theorem lineLevels_getD (l : List Byte) (bit : Nat) :
    (10 * l.length ≤ bit → (l.flatMap lineLevels).getD bit .high = .high)
      ∧ ∀ b, l[bit / 10]? = some b → (l.flatMap lineLevels).getD bit .high = (lineLevels b).getD (bit % 10) .high := by
  have length (b : Byte) : (lineLevels b).length = 10 := rfl
  induction l generalizing bit with
  | nil => exact ⟨fun _ => rfl, nofun⟩
  | cons a l ih =>
    rw [List.flatMap_cons]
    by_cases here : bit < 10
    · refine ⟨fun h => by simp at h; omega, fun b hb => ?_⟩
      rw [Nat.div_eq_of_lt here] at hb
      obtain rfl := Option.some.inj hb
      rw [List.getD_eq_getElem?_getD, List.getElem?_append_left (by rw [length]; exact here), ← List.getD_eq_getElem?_getD, Nat.mod_eq_of_lt here]
    · obtain ⟨past, byte⟩ := ih (bit - 10)
      rw [List.getD_eq_getElem?_getD, List.getElem?_append_right (by rw [length]; omega), ← List.getD_eq_getElem?_getD, length]
      refine ⟨fun h => past (by simp at h; omega), fun b hb => ?_⟩
      rw [show bit % 10 = (bit - 10) % 10 by omega]
      refine byte b ?_
      rw [show bit / 10 = (bit - 10) / 10 + 1 by omega] at hb
      exact hb

theorem lineLevels_bit (b : Byte) {k : Nat} (h : k < 10) :
    (lineLevels b).getD k .high = if k = 0 then .low else if k = 9 then .high else if b.getLsbD (k - 1) then .high else .low := by
  match k, h with
  | 0, _ | 1, _ | 2, _ | 3, _ | 4, _ | 5, _ | 6, _ | 7, _ | 8, _ | 9, _ => rfl

/-! ## The pins of a lane -/

theorem pullAfter_recoverySteps (samples : List Pin) : pullAfter (recoverySteps samples) = .none := by
  unfold recoverySteps
  rw [pullAfter_append]
  rfl

/-- A transaction ends with its stop (R125, R128). -/
theorem Poll.openTransaction_stop {c : Cfg} {q : Poll} {t : List BusStep} (h : q.openTransaction c = some t) :
    (q.phase = .init ∨ q.phase = .read) ∧ ∃ a, t = a ++ [.stop] := by
  unfold Poll.openTransaction at h
  cases phase : q.phase with
  | settle =>
    rw [phase] at h
    cases h
  | wait =>
    rw [phase] at h
    cases h
  | read =>
    rw [phase] at h
    obtain rfl := Option.some.inj h
    exact ⟨.inr rfl, _, rfl⟩
  | init =>
    rw [phase] at h
    have mem := List.mem_of_getElem? h
    unfold initTransactions at mem
    refine ⟨.inl rfl, ?_⟩
    dsimp only at mem
    split at mem
    · exact ⟨_, List.mem_singleton.mp mem⟩
    · obtain ⟨a, -, rfl⟩ := List.mem_map.mp mem
      exact ⟨_, rfl⟩

theorem Lane.quiet_iff (y : Lane) :
    y.quiet = true ↔ y.state = .idle ∨ y.state = .failed
      ∨ y.state = .busy ∧ (y.poll = .absent ∨ ∃ q, y.poll = .poll q ∧ (q.phase = .settle ∨ q.phase = .wait)) := by
  unfold Lane.quiet
  cases y.state with
  | idle => simp
  | failed => simp
  | recover => simp
  | busy => cases y.poll <;> simp

theorem Lane.quiet_of_opened {y : Lane} {q : Poll} (busy : y.state = .busy) (polls : y.poll = .poll q)
    (phase : q.phase = .init ∨ q.phase = .read) : y.quiet = false := by
  unfold Lane.quiet
  rw [busy, polls]
  rcases phase with h | h <;> simp [h]

theorem State.lanePull_nil (s : State) (n : LaneNo) : s.lanePull n [] = .none := by
  unfold State.lanePull
  split <;> rfl

theorem BusStep.send_pins (b : Byte) :
    (BusStep.send b).pins
      = bitSteps (b.getLsbD 7) ++ bitSteps (b.getLsbD 6) ++ bitSteps (b.getLsbD 5) ++ bitSteps (b.getLsbD 4) ++ bitSteps (b.getLsbD 3)
        ++ bitSteps (b.getLsbD 2) ++ bitSteps (b.getLsbD 1) ++ bitSteps (b.getLsbD 0) ++ bitSteps true := by
  have msb (k : Nat) (h : k < 8) : b.getMsbD k = b.getLsbD (7 - k) := by
    rw [BitVec.getMsbD, decide_eq_true h]
    rfl
  show ((List.range 8).flatMap fun k => bitSteps (b.getMsbD k)) ++ bitSteps true = _
  have bits : ((List.range 8).flatMap fun k => bitSteps (b.getMsbD k)) = (List.range 8).flatMap fun k => bitSteps (b.getLsbD (7 - k)) :=
    congrArg List.flatten (List.map_congr_left fun k hk => congrArg bitSteps (msb k (List.mem_range.mp hk)))
  rw [bits]
  simp [List.range_succ]

end Sys2Proof.Machine

open Sys2Proof Sys2Proof.Machine

/-- Settles O60: the grant level is the first level of the table that fits, the target a maximum of its terms; the lines follow
the sled's state, the frame in hand and the pin steps made, and every transaction and attempt ends with both pins released. -/
theorem targetsAndOutputsFollowTheState : Obligations.TargetsAndOutputsFollowTheState := by
  refine ⟨fun c r i h => Run.grantLevel_spec h, fun c r i => ?_, fun s i => ?_, fun s bit => ?_, fun s n course => ?_,
    pullAfter_recoverySteps, fun b a => ⟨BusStep.send_pins b, rfl, rfl, rfl, rfl⟩⟩
  · intro st entering
    have enters : ((r.life i).state == .admitting || (r.life i).state == .tracking) = decide entering :=
      (Bool.decide_or _ _).symm
    have value (p : Prop) [Decidable p] (a b : Level) : (if p then a else b).val = if p then a.val else b.val := by
      split <;> rfl
    unfold Run.target Run.ceiling
    simp only [tighter_val, ceilingOf_val, enters, value, beq_iff_eq, Bool.and_eq_true, decide_eq_true_eq, and_assoc]
    rfl
  · intro st x admits holds
    refine ⟨fun reset => ?_, fun running => ⟨fun h => ?_, fun h => ?_, fun h1 h2 => ?_, ?_⟩⟩
    · unfold State.thr State.alarm
      rw [reset]
      exact ⟨rfl, rfl⟩
    · exact s.thr_of_disabled running h
    · exact s.thr_of_absent running h
    · exact s.thr_of_present running h1 h2
    · unfold State.alarm Run.alarm
      rw [running]
      simp [Option.isSome_iff_ne_none]
  · refine ⟨fun quiet => s.linkTx_of_idle quiet bit, fun o running sending => ?_⟩
    rw [State.linkTx_of_sending running sending]
    obtain ⟨past, byte⟩ := lineLevels_getD o.frame.wire bit
    exact ⟨past, fun b hb => (byte b hb).trans (lineLevels_bit b (Nat.mod_lt _ (by decide)))⟩
  · intro y free
    refine ⟨fun quiet => ?_, s.lanePull_nil n, fun q t running busy polls opened => ?_⟩
    · refine State.lanePull_of_quiet ?_ course
      rcases quiet with reset | idle | failed | ⟨q, busy, polls, phase⟩
      · exact .inl reset
      · exact .inr (y.quiet_iff.mpr (.inl idle))
      · exact .inr (y.quiet_iff.mpr (.inr (.inl failed)))
      · exact .inr (y.quiet_iff.mpr (.inr (.inr ⟨busy, .inr ⟨q, polls, phase⟩⟩)))
    · obtain ⟨phase, a, rfl⟩ := Poll.openTransaction_stop opened
      have works (x : List PinStep) : s.lanePull n x = pullAfter x :=
        State.lanePull_of_working running (Lane.quiet_of_opened busy polls phase) x
      refine ⟨works course, (works _).trans ?_⟩
      rw [List.flatMap_append]
      exact pullAfter_stop _
end

section
/-! SUPPORT. A poll's first phase and the service of a lane's queue (R107, R115, R124). -/

namespace Sys2Proof.Machine

open Sys2Proof

/-! ## Opening a transaction (R107) -/

/-- The lane has set the poll `q` and opened its transaction: its count and its clock rate are read, its pins are free. -/
structure Run.Opened (c : Cfg) (n : LaneNo) (q : Poll) (r t : Run) : Prop where
  lane : t.lane n =
    { r.lane n with
      poll := .poll q
      transaction := some (c.globals.laneTimeoutMs.get n)
      clock := c.globals.laneSpeed.get n
      scl := (t.lane n).scl
      sda := (t.lane n).sda }
  others : ∀ m, m ≠ n → t.lane m = r.lane m
  probes : t.probes = r.probes
  onLanes : Run.OnLanes r t

/-- A lane whose pins read what they read. -/
theorem Lane.pins_free {x y : Lane} {a b : Pin} (h : x = { y with scl := a, sda := b }) : x = { y with scl := x.scl, sda := x.sda } := by
  rw [h]

theorem Run.openOnLane_setPoll (c : Cfg) (n : LaneNo) (q : Poll) (r : Run) :
    (r.setPoll n q).openOnLane c n
      = (r.modLane n fun x =>
          { x with
            poll := .poll q
            transaction := some (c.globals.laneTimeoutMs.get n)
            clock := c.globals.laneSpeed.get n
            scl := (Config.linesRead r.free).1
            sda := (Config.linesRead r.free).2 }).spendFree :=
  congrArg Run.spendFree (r.modLane_modLane n _ _)

theorem Run.opened_openOnLane (c : Cfg) (n : LaneNo) (q : Poll) (r : Run) :
    Run.Opened c n q r ((r.setPoll n q).openOnLane c n) := by
  rw [Run.openOnLane_setPoll]
  have own := r.modLane_lane_self n fun x =>
    { x with
      poll := .poll q
      transaction := some (c.globals.laneTimeoutMs.get n)
      clock := c.globals.laneSpeed.get n
      scl := (Config.linesRead r.free).1
      sda := (Config.linesRead r.free).2 }
  exact ⟨Lane.pins_free (y := { r.lane n with
      poll := .poll q, transaction := some (c.globals.laneTimeoutMs.get n), clock := c.globals.laneSpeed.get n }) own, fun m other => (r.modLane_lane n m _).trans (if_neg other), rfl,
    (Run.OnLanes.modLane n _ r).trans (.spendFree _)⟩

theorem Run.Opened.of_closed {c : Cfg} {n : LaneNo} {q : Poll} {r t : Run} (h : Run.Opened c n q (r.closeOnLane n) t) :
    Run.Opened c n q r t where
  lane := by
    have lane := h.lane
    unfold Run.closeOnLane at lane
    rw [Run.modLane_lane_self] at lane
    exact lane
  others m other := (h.others m other).trans ((r.modLane_lane n m _).trans (if_neg other))
  probes := h.probes
  onLanes := (Run.OnLanes.closeOnLane n r).trans h.onLanes

/-- A poll of a probe at the beginning of a phase. -/
def Poll.first (p : Probe) (k : Phase) (timer : Count) : Poll :=
  { probe := p, phase := k, transaction := 0, retries := 0, timer := timer }

section Begin
variable {c : Cfg} {n : LaneNo} {p : Probe} {r : Run}

theorem Run.beginWaitOrRead_of_direct (h : (c.probe p).mode = .direct) :
    Run.Opened c n (.first p .read none) r (r.beginWaitOrRead c n p) := by
  unfold Run.beginWaitOrRead
  rw [h]
  exact Run.opened_openOnLane c n _ r

theorem Run.beginWaitOrRead_of_waits (h : (c.probe p).mode ≠ .direct) :
    r.beginWaitOrRead c n p = r.setPoll n (.first p .wait (some (c.probe p).waitMs)) := by
  unfold Run.beginWaitOrRead
  split
  · next direct => exact absurd direct h
  · rfl
  · rfl

/-- Whether the poll that begins begins with INIT, and whether with WAIT (R124). -/
def Run.inits (c : Cfg) (r : Run) (p : Probe) : Prop :=
  0 < (c.probe p).initCount ∧ ((c.probe p).initEvery = true ∨ (r.probe p).needsInit = true)

theorem Run.initCalledFor_iff : r.initCalledFor c p = true ↔ r.inits c p := by
  simp [Run.initCalledFor, Run.inits]

/-- What the first phase of a poll makes of its lane (R124). -/
structure Run.Starts (c : Cfg) (n : LaneNo) (p : Probe) (k : Phase) (r t : Run) : Prop where
  lane : t.lane n =
    { r.lane n with
      poll := .poll (.first p k (if k = .wait then some (c.probe p).waitMs else none))
      transaction := if k = .wait then (r.lane n).transaction else some (c.globals.laneTimeoutMs.get n)
      clock := if k = .wait then (r.lane n).clock else c.globals.laneSpeed.get n
      scl := (t.lane n).scl
      sda := (t.lane n).sda }
  others : ∀ m, m ≠ n → t.lane m = r.lane m
  probes : t.probes = r.probes
  onLanes : Run.OnLanes r t

theorem Run.Opened.starts {k : Phase} {t : Run} (h : Run.Opened c n (.first p k none) r t) (opens : k ≠ .wait) :
    Run.Starts c n p k r t where
  lane := by
    rw [if_neg opens, if_neg opens, if_neg opens]
    exact h.lane
  others := h.others
  probes := h.probes
  onLanes := h.onLanes

theorem Run.starts_setPoll : Run.Starts c n p .wait r (r.setPoll n (.first p .wait (some (c.probe p).waitMs))) where
  lane := by
    unfold Run.setPoll
    rw [if_pos rfl, if_pos rfl, if_pos rfl, Run.modLane_lane_self]
  others m other := (r.modLane_lane n m _).trans (if_neg other)
  probes := rfl
  onLanes := .setPoll ..

open scoped Classical in
/-- The first phase of a poll: INIT where it is called for, or else READ in DIRECT mode and WAIT in the others (R124). -/
theorem Run.starts_beginPoll (c : Cfg) (n : LaneNo) (p : Probe) (r : Run) :
    Run.Starts c n p (if r.inits c p then .init else if (c.probe p).mode = .direct then .read else .wait) r (r.beginPoll c n p) := by
  unfold Run.beginPoll
  by_cases inits : r.inits c p
  · rw [if_pos inits, if_pos (Run.initCalledFor_iff.mpr inits)]
    exact (Run.opened_openOnLane c n _ r).starts nofun
  · rw [if_neg inits, if_neg (mt Run.initCalledFor_iff.mp inits)]
    by_cases direct : (c.probe p).mode = .direct
    · rw [if_pos direct]
      exact (Run.beginWaitOrRead_of_direct direct).starts nofun
    · rw [if_neg direct, Run.beginWaitOrRead_of_waits direct]
      exact Run.starts_setPoll

end Begin

/-! ## The service of the queue (R115) -/

/-- The front of a lane's queue has been served. -/
structure Run.LaneServed (c : Cfg) (n : LaneNo) (p : Probe) (rest : List Probe) (k : Phase) (r t : Run) : Prop where
  lane : t.lane n =
    { r.lane n with
      state := .busy
      queue := rest
      poll := .poll (.first p k (if k = .wait then some (c.probe p).waitMs else none))
      transaction := if k = .wait then (r.lane n).transaction else some (c.globals.laneTimeoutMs.get n)
      clock := if k = .wait then (r.lane n).clock else c.globals.laneSpeed.get n
      scl := (t.lane n).scl
      sda := (t.lane n).sda }
  others : ∀ m, m ≠ n → t.lane m = r.lane m
  probe : ∀ q, t.probe q = if q = p then { r.probe p with run := .active } else r.probe q
  onLanes : Run.OnLanes r t

open scoped Classical in
theorem Run.laneServed_serveLane {c : Cfg} {n : LaneNo} {p : Probe} {rest : List Probe} {r : Run} (idle : (r.lane n).state = .idle)
    (queue : (r.lane n).queue = p :: rest) :
    Run.LaneServed c n p rest (if r.inits c p then .init else if (c.probe p).mode = .direct then .read else .wait) r
      (r.serveLane c n) := by
  have whole : r.serveLane c n
      = ((r.modLane n fun x => { x with state := .busy, queue := rest }).modProbe p fun x => { x with run := .active }).beginPoll c n p := by
    unfold Run.serveLane
    rw [idle, queue]
  have same : ((r.modLane n fun x => { x with state := .busy, queue := rest }).modProbe p fun x => { x with run := .active }).inits c p
      ↔ r.inits c p := by
    unfold Run.inits
    rw [Run.modProbe_probe_self, Run.modLane_probe]
  have starts := Run.starts_beginPoll c n p
    ((r.modLane n fun x => { x with state := .busy, queue := rest }).modProbe p fun x => { x with run := .active })
  rw [← whole, same] at starts
  obtain ⟨lane, others, probes, onLanes⟩ := starts
  rw [Run.modProbe_lane, Run.modLane_lane_self] at lane
  refine ⟨lane, fun m other => (others m other).trans ((r.modLane_lane n m _).trans (if_neg other)), fun q => ?_,
    ((Run.OnLanes.modLane n _ r).trans (.modProbe ..)).trans onLanes⟩
  refine (congrArg (fun v : Vector ProbeRun _ => v.get q) probes).trans ((Run.modProbe_probe _ p q _).trans ?_)
  rfl

theorem Run.serveLane_of_busy {c : Cfg} {n : LaneNo} {r : Run} (h : (r.lane n).state ≠ .idle) : r.serveLane c n = r := by
  unfold Run.serveLane
  split
  · next idle _ => exact absurd idle h
  · rfl

end Sys2Proof.Machine
end

section
/-! SUPPORT. Due events (R112, R113, R115). -/

namespace Sys2Proof.Machine

open Sys2Proof

section Due
variable {c : Cfg} {p : Probe} {r : Run}

/-- The probe joins its lane's queue, its due timer started again (R112, R113). -/
def Run.enqueue (c : Cfg) (p : Probe) (r : Run) : Run :=
  (r.modProbe p fun x => { x with due := some (c.probe p).pollMs, run := .queued }).modLane (laneOfProbe p) fun y =>
    { y with queue := y.queue ++ [p] }

/-- A QUEUED or ACTIVE probe overruns (R113). -/
theorem Run.dueEvent_of_overrun (h : (r.probe p).run ≠ .idle) :
    r.dueEvent c p
      = (r.modProbe p fun x => { x with due := some (c.probe p).pollMs, overruns := satSucc 65535 (r.probe p).overruns }).raise c
          .pollOverrun (.probe p) (satSucc 65535 (r.probe p).overruns) := by
  have count : (r.modProbe p fun x => { x with due := some (c.probe p).pollMs }).modProbe p
        (fun x => { x with overruns := satSucc 65535 x.overruns })
      = r.modProbe p fun x => { x with due := some (c.probe p).pollMs, overruns := satSucc 65535 (r.probe p).overruns } :=
    (r.modProbe_modProbe p _ _).trans (Run.modProbe_congr rfl)
  unfold Run.dueEvent
  dsimp only
  rw [count, Run.modProbe_probe_self, Run.modProbe_probe_self]
  dsimp only
  cases run : (r.probe p).run with
  | idle => exact absurd run h
  | queued => rfl
  | active => rfl

theorem Run.dueEvent_of_failed (h : (r.probe p).run = .idle) (failed : (r.lane (laneOfProbe p)).state = .failed) :
    r.dueEvent c p
      = (r.modProbe p fun x => { x with due := some (c.probe p).pollMs }).handOutcome c p (.failure .laneFailed none) := by
  unfold Run.dueEvent
  dsimp only
  rw [Run.modProbe_probe_self, Run.modProbe_lane]
  dsimp only
  rw [h, failed]
  rfl

theorem Run.dueEvent_of_queued (h : (r.probe p).run = .idle) (other : (r.lane (laneOfProbe p)).state ≠ .failed) :
    r.dueEvent c p = (r.enqueue c p).serveLane c (laneOfProbe p) := by
  have joined : (r.modProbe p fun x => { x with due := some (c.probe p).pollMs }).modProbe p (fun x => { x with run := .queued })
      = r.modProbe p fun x => { x with due := some (c.probe p).pollMs, run := .queued } := r.modProbe_modProbe p _ _
  unfold Run.dueEvent
  dsimp only
  rw [joined, Run.modProbe_probe_self, Run.modProbe_lane]
  dsimp only
  rw [h]
  exact if_neg (by simpa using other)

theorem Run.enqueue_lane (m : LaneNo) :
    (r.enqueue c p).lane m
      = if m = laneOfProbe p then { r.lane (laneOfProbe p) with queue := (r.lane (laneOfProbe p)).queue ++ [p] } else r.lane m :=
  Run.modLane_lane _ _ m _

theorem Run.enqueue_probe (q : Probe) :
    (r.enqueue c p).probe q = if q = p then { r.probe p with due := some (c.probe p).pollMs, run := .queued } else r.probe q :=
  Run.modProbe_probe _ p q _

/-- The phase in which a poll begins (R124). -/
theorem phase_of_inits {inits direct : Prop} [Decidable inits] [Decidable direct] :
    ((if inits then Phase.init else if direct then .read else .wait) = .wait ↔ ¬inits ∧ ¬direct) := by
  by_cases inits <;> by_cases direct <;> simp [*]

/-- An IDLE probe on an IDLE lane without a queue starts its poll (R113, R115, R124). -/
theorem Run.dueEvent_of_starts (idle : (r.probe p).run = .idle) (free : (r.lane (laneOfProbe p)).state = .idle)
    (empty : (r.lane (laneOfProbe p)).queue = []) (inits waits : Prop) [Decidable inits] [Decidable waits]
    (hi : inits ↔ r.inits c p) (hw : waits ↔ ¬inits ∧ (c.probe p).mode ≠ .direct) :
    (r.dueEvent c p).probe p = { r.probe p with due := some (c.probe p).pollMs, run := .active }
      ∧ (r.dueEvent c p).lane (laneOfProbe p) =
          { r.lane (laneOfProbe p) with
            state := .busy
            queue := []
            poll := .poll
              { probe := p
                phase := if inits then .init else if waits then .wait else .read
                transaction := 0
                retries := 0
                timer := if waits then some (c.probe p).waitMs else none }
            transaction := if waits then (r.lane (laneOfProbe p)).transaction else some (c.globals.laneTimeoutMs.get (laneOfProbe p))
            clock := if waits then (r.lane (laneOfProbe p)).clock else c.globals.laneSpeed.get (laneOfProbe p)
            scl := ((r.dueEvent c p).lane (laneOfProbe p)).scl
            sda := ((r.dueEvent c p).lane (laneOfProbe p)).sda }
      ∧ Run.OnLanes r (r.dueEvent c p)
      ∧ (∀ q, q ≠ p → (r.dueEvent c p).probe q = r.probe q)
      ∧ ∀ m, m ≠ laneOfProbe p → (r.dueEvent c p).lane m = r.lane m := by
  rw [Run.dueEvent_of_queued idle (by rw [free]; exact nofun)]
  have own : (r.enqueue c p).lane (laneOfProbe p) = { r.lane (laneOfProbe p) with queue := [p] } := by
    rw [Run.enqueue_lane, if_pos rfl, empty]
    rfl
  have same : (r.enqueue c p).inits c p ↔ inits := by
    unfold Run.inits at hi ⊢
    rw [Run.enqueue_probe, if_pos rfl]
    exact hi.symm
  have probe (q : Probe) := Run.enqueue_probe (c := c) (p := p) (r := r) q
  obtain ⟨lane, others, probes, onLanes⟩ := Run.laneServed_serveLane (c := c) (p := p) (rest := []) ((congrArg Lane.state own).trans free)
    (congrArg Lane.queue own)
  generalize (r.enqueue c p).serveLane c (laneOfProbe p) = t at lane others probes onLanes ⊢
  refine ⟨?_, ?_, ((Run.OnLanes.modProbe p _ r).trans (.modLane ..)).trans onLanes, fun q other => ?_, fun m other => ?_⟩
  · rw [probes p, if_pos rfl, probe p, if_pos rfl]
  · rw [lane, own]
    unfold Poll.first
    simp only [phase_of_inits, same, ← ne_eq, ← hw]
    by_cases h : inits
    · have out : ¬waits := fun w => (hw.mp w).1 h
      simp [h, out]
    · by_cases w : waits
      · simp [h, w, (hw.mp w).2]
      · have direct : (c.probe p).mode = .direct := Classical.byContradiction fun d => w (hw.mpr ⟨h, d⟩)
        simp [h, w, direct]
  · rw [probes q, if_neg other, probe q, if_neg other]
  · rw [others m other, Run.enqueue_lane, if_neg other]

end Due

theorem dueRuns_iff {p : Probe} {s : State} :
    ((s.run.probe p).due.isSome && s.run.mode.works) = true ↔ (s.run.probe p).due ≠ none ∧ s.run.mode ≠ .config := by
  rw [Bool.and_eq_true, Option.isSome_iff_ne_none, Mode.works_iff]

end Sys2Proof.Machine

open Sys2Proof Sys2Proof.Machine

/-- Settles O56: a due event does one of four things, by the probe's part in its lane and the lane's state. -/
theorem dueEventsAreTaken : Obligations.DueEventsAreTaken := by
  intro p s live r₀ n x y k due runs
  have after (u : Run) (h : runs) (e : r₀.dueEvent s.cfg p = u) : exec (.dueEvent p) s = .next (s.after u) :=
    e ▸ State.runEvent_after (f := fun c r => r.dueEvent c p) live (dueRuns_iff.mpr h)
  refine ⟨fun out => State.runEvent_not (f := fun c r => r.dueEvent c p) (.inr (Bool.eq_false_iff.mpr (mt dueRuns_iff.mp out))), fun h part => ?_, fun h idle failed => ?_,
    fun h idle busy => ?_, fun h idle free empty => ?_⟩
  · intro count
    exact after _ h (Run.dueEvent_of_overrun part)
  · exact after _ h (Run.dueEvent_of_failed idle failed)
  · have other : y.state ≠ .failed ∧ y.state ≠ .idle := by
      rcases busy with e | e <;> rw [e] <;> exact ⟨nofun, nofun⟩
    refine after _ h ((Run.dueEvent_of_queued idle other.1).trans (Run.serveLane_of_busy ?_))
    rw [Run.enqueue_lane, if_pos rfl]
    exact other.2
  · intro inits waits
    obtain ⟨own, lane, onLanes, probes, lanes⟩ := Run.dueEvent_of_starts (c := s.cfg) idle free empty inits waits Iff.rfl Iff.rfl
    exact ⟨_, after _ h rfl, own, lane, onLanes.sleds, (congrArg Run.queue onLanes).trans rfl,
      (congrArg Run.notices onLanes).trans rfl, (congrArg Run.mode onLanes).trans rfl, probes, lanes⟩
end

section
/-! SUPPORT. Outcomes: the health record, the awaiting set and the faults (R65, R115, R133 to R135). -/

namespace Sys2Proof.Machine

open Sys2Proof

/-! ## Operations that leave the probes alone -/

theorem Run.raise_probes (c : Cfg) (k : FaultClass) (x : Subject) (d : Nat) (r : Run) : (r.raise c k x d).probes = r.probes := by
  have recorded (v : Severity) (f : FaultRecord) : (r.record c v f).probes = r.probes :=
    (congrArg Run.probes (r.record_frame c v f)).trans rfl
  cases action : c.routing.get k.index with
  | ignore => rw [Run.raise_of_ignore action]
  | report => rw [Run.raise_of_report action, recorded]
  | contain =>
    rw [Run.raise_of_contain action, ← recorded .severe (r.fault k x d)]
    exact (congrArg Run.probes (Run.contain_spec (c := c) (Run.covered_nodup _ x) _).1.frame).trans rfl
  | safe =>
    rw [Run.raise_of_safe action, Run.demandSafe_eq, ← recorded .severe (r.fault k x d)]
    split
    · exact (congrArg Run.probes (Run.toSafe_spec c _).1).trans rfl
    · rfl

theorem Run.handThermal_probes (c : Cfg) (i : Sled) (k : Heat) (r : Run) : (r.handThermal c i k).probes = r.probes := by
  unfold Run.handThermal
  split
  · rfl
  · obtain ⟨n, e⟩ := Run.post_eq c (.sled i) ((if k == .cool then r.endBoostEarly i else r).refreshHeld c)
    rw [e]
    show (if k == .cool then r.endBoostEarly i else r).probes = r.probes
    split
    · rw [r.endBoostEarly_frame i]
    · rfl

theorem Run.evaluate_probes (c : Cfg) (i : Sled) (r : Run) : (r.evaluate c i).probes = r.probes := by
  cases inService : (r.life i).state.inService with
  | false => rw [Run.evaluate_of_out inService]
  | true => rw [Run.evaluate_of_inService inService, Run.handThermal_probes, Run.modTherm_probes]

theorem Run.evaluate_life (c : Cfg) (i : Sled) (r : Run) : (r.evaluate c i).life i = r.life i := by
  cases inService : (r.life i).state.inService with
  | false => rw [Run.evaluate_of_out inService]
  | true => exact (Run.evaluate_frame inService).2.1

/-! ## A success (R133, R135) -/

section Success
variable (c : Cfg) (p : Probe) (cls : Heat) (value : Option Int) (r : Run)

/-- The health record after a success (R133). -/
def Run.succeeded : Run :=
  r.modProbe p fun x =>
    { x with failures := 0, lastClass := some cls, lastValue := value.or x.lastValue, lastTime := some r.clock.stamp, health := .ok }

/-- The sled's record with the probe out of its awaiting set (R65). -/
def Life.without (p : Probe) (l : Life) : Life := if p.val % 2 = 0 then { l with awaitA := false } else { l with awaitB := false }

theorem Life.without_keeps (p : Probe) (l : Life) :
    (l.without p).state = l.state ∧ (l.without p).containPending = l.containPending := by
  unfold Life.without
  split <;> exact ⟨rfl, rfl⟩

theorem Run.handSuccess_eq :
    r.handOutcome c p (.success cls value)
      = (if r.awaits p then ((r.succeeded p cls value).leaveAwaiting p).settleAdmission c (sledOfProbe p)
          else r.succeeded p cls value).evaluate c (sledOfProbe p) := by
  have health : (r.modProbe p fun x => x.succeed r.clock.stamp cls value) = r.succeeded p cls value := by
    refine Run.modProbe_congr ?_
    unfold ProbeRun.succeed
    cases value <;> rfl
  unfold Run.handOutcome Run.handSuccess
  dsimp only
  rw [health]
  rfl

theorem Run.handSuccess_probe : (r.handOutcome c p (.success cls value)).probe p = (r.succeeded p cls value).probe p := by
  refine congrArg (fun v : Vector ProbeRun _ => v.get p) ?_
  rw [Run.handSuccess_eq, Run.evaluate_probes]
  split
  · exact (congrArg Run.probes (Run.Accounts.settleAdmission c _ _).frame).trans rfl
  · rfl

end Success

/-- What becomes of an ADMITTING sled's record when it is looked at again (R65, R70). -/
theorem Run.settleAdmission_life {c : Cfg} {i : Sled} {r : Run} :
    (¬((r.life i).state = .admitting ∧ (r.books i).floorReserved = true)
        ∨ (r.life i).containPending = false ∧ ((r.life i).awaitA = true ∨ (r.life i).awaitB = true) →
      (r.settleAdmission c i).life i = r.life i)
    ∧ ((r.life i).state = .admitting ∧ (r.books i).floorReserved = true → (r.life i).containPending = false →
        (r.life i).awaitA = false → (r.life i).awaitB = false →
        (r.settleAdmission c i).life i = { r.life i with state := .tracking, admission := none })
    ∧ ((r.life i).state = .admitting ∧ (r.books i).floorReserved = true → (r.life i).containPending = true →
        ((r.settleAdmission c i).life i).state = .isolated) := by
  refine ⟨fun h => ?_, fun ⟨admitting, reserved⟩ pending a b => ?_, fun ⟨admitting, reserved⟩ pending => ?_⟩
  · by_cases floor : (r.life i).state = .admitting ∧ (r.books i).floorReserved = true
    · obtain ⟨pending, awaits⟩ := h.resolve_left (Classical.not_not.mpr floor)
      rw [Run.settleAdmission_eq floor.1 floor.2, if_neg (by rw [pending]; exact Bool.false_ne_true), if_pos (by simpa using awaits)]
    · unfold Run.settleAdmission
      dsimp only
      rw [if_neg (by simpa using floor)]
  · rw [Run.settleAdmission_eq admitting reserved, if_neg (by rw [pending]; exact Bool.false_ne_true), if_neg (by simp [a, b])]
    exact (congrArg SledRun.life (r.becomeTracking_get c i)).trans rfl
  · rw [Run.settleAdmission_eq admitting reserved, if_pos pending]
    exact (congrArg (fun x : SledRun => x.life.state) ((r.isolate_get c i i).trans (if_pos rfl))).trans rfl

/-! ## A failure (R130, R134, R135) -/

section Failure
variable (c : Cfg) (p : Probe) (reason : Reason) (r : Run)

/-- The failures counted with this one, and the health they come to (R134). -/
def Run.failures : Nat := if (r.probe p).failures < 255 then (r.probe p).failures + 1 else (r.probe p).failures
def Run.worse : Health := if (c.probe p).lostLimit ≤ r.failures p then .lost else .suspect

/-- The health record after a failure (R134). -/
def Run.failed : Run :=
  r.modProbe p fun x =>
    { x with failures := r.failures p, lastReason := some reason, lastTime := some r.clock.stamp, health := r.worse c p }

/-- The faults of a failure: READING_IMPLAUSIBLE with its reading, and PROBE_LOST when the probe gets lost (R130, R134). -/
def Run.implausible (raw : Option Nat) (r : Run) : Run :=
  match raw with
  | some k => r.raise c .readingImplausible (.probe p) k
  | none => r

theorem Run.handFailure_eq (raw : Option Nat) :
    r.handOutcome c p (.failure reason raw)
      = (if r.worse c p = .lost ∧ (r.probe p).health ≠ .lost then
            ((r.failed c p reason).implausible c p raw).raise c .probeLost (.probe p) reason.code
          else (r.failed c p reason).implausible c p raw).evaluate c (sledOfProbe p) := by
  have health : (r.modProbe p fun x => x.fail r.clock.stamp (c.probe p).lostLimit reason) = r.failed c p reason :=
    Run.modProbe_congr rfl
  have lost : ((r.failed c p reason).probe p).health = r.worse c p := congrArg ProbeRun.health (Run.modProbe_probe_self ..)
  unfold Run.handOutcome Run.handFailure
  dsimp only
  rw [health, lost]
  have same : ((r.worse c p == .lost && !((r.probe p).health == .lost)) = true)
      ↔ (r.worse c p = .lost ∧ (r.probe p).health ≠ .lost) := by simp
  simp only [same]
  cases raw <;> rfl

theorem Run.handFailure_probes (raw : Option Nat) :
    (r.handOutcome c p (.failure reason raw)).probes = (r.failed c p reason).probes := by
  have faults : ((r.failed c p reason).implausible c p raw).probes = (r.failed c p reason).probes := by
    cases raw with
    | none => rfl
    | some k => exact Run.raise_probes ..
  rw [Run.handFailure_eq, Run.evaluate_probes]
  split
  · rw [Run.raise_probes, faults]
  · exact faults

end Failure

/-! ## The end of a poll (R115) -/

theorem Run.freeLane_of_empty {c : Cfg} {n : LaneNo} {r : Run} (h : (r.lane n).queue = []) :
    r.freeLane c n = r.modLane n fun y => { y with state := .idle, poll := .absent } := by
  refine Run.serveLane_of_empty ?_
  rw [Run.modLane_lane_self]
  exact h

open scoped Classical in
theorem Run.laneServed_freeLane {c : Cfg} {n : LaneNo} {p : Probe} {rest : List Probe} {r : Run}
    (queue : (r.lane n).queue = p :: rest) :
    Run.LaneServed c n p rest (if r.inits c p then .init else if (c.probe p).mode = .direct then .read else .wait) r
      (r.freeLane c n) := by
  have own : (r.modLane n fun x => { x with state := .idle, poll := .absent }).lane n
      = { r.lane n with state := .idle, poll := .absent } := Run.modLane_lane_self ..
  have served := Run.laneServed_serveLane (c := c) (n := n) (p := p) (rest := rest)
    (r := r.modLane n fun x => { x with state := .idle, poll := .absent }) (congrArg Lane.state own) ((congrArg Lane.queue own).trans queue)
  obtain ⟨lane, others, probe, onLanes⟩ := served
  rw [own] at lane
  exact ⟨lane, fun m other => (others m other).trans ((r.modLane_lane n m _).trans (if_neg other)), probe,
    (Run.OnLanes.modLane n _ r).trans onLanes⟩

end Sys2Proof.Machine

open Sys2Proof Sys2Proof.Machine

/-- Settles O58: what each outcome hands on is its record, its faults and its evaluation in order; a poll that ends frees a lane,
whose queue is served from the front. -/
theorem outcomesAreHandedOn : Obligations.OutcomesAreHandedOn := by
  intro c n p r i x l now
  refine ⟨fun cls value => ?_, fun reason raw => ?_, fun o => ?_⟩
  · intro h u left floor
    have whole := Run.handSuccess_eq c p cls value r
    have settled (awaits : r.awaits p = true) :
        h.life i = (((r.succeeded p cls value).leaveAwaiting p).settleAdmission c i).life i := by
      rw [if_pos awaits] at whole
      exact (congrArg (fun t : Run => t.life i) whole).trans (Run.evaluate_life ..)
    have life : ((r.succeeded p cls value).leaveAwaiting p).life i = left := Run.modLife_life_self ..
    have state : left.state = l.state ∧ left.containPending = l.containPending := Life.without_keeps p l
    have waiting (admits : left.state = .admitting ∧ (r.books i).floorReserved = true) : floor := ⟨state.1 ▸ admits.1, admits.2⟩
    have admitting (f : floor) : left.state = .admitting ∧ (r.books i).floorReserved = true := ⟨state.1.trans f.1, f.2⟩
    obtain ⟨stays, tracks, isolates⟩ :=
      Run.settleAdmission_life (c := c) (i := i) (r := (r.succeeded p cls value).leaveAwaiting p)
    have books : ((r.succeeded p cls value).leaveAwaiting p).books i = r.books i := by
      unfold Run.leaveAwaiting
      rw [Run.modLife_books]
      rfl
    rw [life, books] at stays tracks isolates
    refine ⟨Run.handSuccess_probe .., fun out => ?_, fun awaits => ?_, fun awaits h => ?_, fun awaits f pending a b => ?_,
      fun awaits f pending => ?_⟩
    · exact whole.trans (by rw [if_neg (by rw [out]; exact Bool.false_ne_true)]; exact rfl)
    · rw [if_pos awaits] at whole
      exact whole.trans (congrArg (fun t : Run => (t.settleAdmission c i).evaluate c i) (Run.modLife_congr rfl))
    · exact (settled awaits).trans (stays (h.imp (mt waiting) (And.imp_left state.2.trans)))
    · exact (settled awaits).trans (tracks (admitting f) (state.2.trans pending) a b)
    · exact (congrArg Life.state (settled awaits)).trans (isolates (admitting f) (state.2.trans pending))
  · intro failures health u v w
    exact Run.handFailure_eq c p reason r raw
  · intro e h
    have lanes : h.lanes = r.lanes := Run.handOutcome_lanes c p o r
    have lane : h.lane n = r.lane n := congrArg (fun v : Vector Lane _ => v.get n) lanes
    refine ⟨lanes, fun empty => Run.freeLane_of_empty ((congrArg Lane.queue lane).trans empty), fun q rest queue => ?_⟩
    obtain ⟨own, -, probes, onLanes⟩ := Run.laneServed_freeLane (c := c) ((congrArg Lane.queue lane).trans queue)
    refine ⟨congrArg Lane.state own, congrArg Lane.queue own, ?_, _, congrArg Lane.poll own, rfl, onLanes.sleds⟩
    exact congrArg ProbeRun.run ((probes q).trans (if_pos rfl))
end

section
/-! SUPPORT. Recovery on the pins (R109, R116). -/

namespace Sys2Proof.Machine

open Sys2Proof

/-! ## The pulses of an attempt -/

/-- How long a run at the front of a list is. -/
theorem takeWhile_length {α : Type} {p : α → Bool} {l : List α} {k : Nat} (front : ∀ j, j < k → ∃ x, l[j]? = some x ∧ p x = true)
    (stop : ∀ x, l[k]? = some x → p x = false) : (l.takeWhile p).length = k := by
  induction l generalizing k with
  | nil =>
    cases k with
    | zero => rfl
    | succ k =>
      obtain ⟨x, hx, -⟩ := front 0 (Nat.succ_pos k)
      cases hx
  | cons a l ih =>
    cases k with
    | zero => rw [List.takeWhile_cons_of_neg (by rw [stop a rfl]; exact Bool.false_ne_true), List.length_nil]
    | succ k =>
      obtain ⟨x, hx, met⟩ := front 0 (Nat.succ_pos k)
      obtain rfl := Option.some.inj hx
      rw [List.takeWhile_cons_of_pos met, List.length_cons, ih (fun j hj => front (j + 1) (Nat.succ_lt_succ hj)) stop]

theorem recoveryPulses_of_high {samples : List Pin} {k : Nat} (h : k < 9) (low : ∀ j, j < k → samples[j]? = some .low)
    (high : samples[k]? = some .high) : recoveryPulses samples = k + 1 := by
  have length : ((samples.take 9).takeWhile fun x => x == .low).length = k := by
    refine takeWhile_length (fun j hj => ⟨.low, ?_, rfl⟩) fun x hx => ?_
    · rw [List.getElem?_take_of_lt (Nat.lt_trans hj h)]
      exact low j hj
    · rw [List.getElem?_take_of_lt h, high] at hx
      obtain rfl := Option.some.inj hx
      rfl
  unfold recoveryPulses
  rw [length]
  omega

theorem recoveryPulses_of_low {samples : List Pin} (low : ∀ j, j < 9 → samples[j]? = some .low) : recoveryPulses samples = 9 := by
  have length : ((samples.take 9).takeWhile fun x => x == .low).length = 9 := by
    refine takeWhile_length (fun j hj => ⟨.low, ?_, rfl⟩) fun x hx => ?_
    · rw [List.getElem?_take_of_lt hj]
      exact low j hj
    · rw [List.getElem?_take_eq_none (Nat.le_refl 9)] at hx
      cases hx
  unfold recoveryPulses
  rw [length]
  rfl

/-! ## What an attempt reads -/

theorem readSteps_waitSclHigh {held : List Reading} (h : ∀ x ∈ held, x.scl = .low) (steps : List PinStep) :
    readSteps (.waitSclHigh :: steps) held = none
      ∧ ∀ m later, readSteps (.waitSclHigh :: steps) (held ++ { scl := .high, sda := m } :: later) = readSteps steps later := by
  have low : ∀ x ∈ held, (x.scl == .high) = false := fun x hx => by simp [h x hx]
  constructor
  · exact congrArg (fun o : Option (List Reading) => o.bind (readSteps steps)) (awaitReading_eq_none low)
  · intro m later
    exact congrArg (fun o : Option (List Reading) => o.bind (readSteps steps)) (awaitReading_append low _)

/-- A pulse takes one sample of SDA, after the wait for SCL (R109). -/
theorem readSteps_recoveryPulse {held : List Reading} (h : ∀ x ∈ held, x.scl = .low) (m : Pin) (x : Reading)
    (later : List Reading) :
    readSteps recoveryPulse (held ++ { scl := .high, sda := m } :: x :: later) = some ([x.sda], later) :=
  (readSteps_waitSclHigh h [.halfPeriod, .sampleSda, .sclLow]).2 m (x :: later)

/-- Pulses that end with a high sample, or are all there are to make (R109). -/
theorem hearPulses_append {k : Nat} {pulses : List (List Reading × Pin × Reading)} (length : pulses.length ≤ k)
    (held : ∀ x ∈ pulses, ∀ y ∈ x.1, y.scl = .low) (low : ∀ x ∈ pulses.dropLast, x.2.2.sda = .low)
    (done : pulses.length = k ∨ (pulses.getLast?.map fun x => x.2.2.sda) = some .high) (rest : List Reading) :
    hearPulses k ((pulses.flatMap fun x => x.1 ++ [{ scl := .high, sda := x.2.1 }, x.2.2]) ++ rest) = some rest := by
  induction pulses generalizing k with
  | nil =>
    obtain rfl := done.resolve_right nofun
    rfl
  | cons x xs ih =>
    cases k with
    | zero => cases length
    | succ k =>
      have pulse := readSteps_recoveryPulse (held x List.mem_cons_self) x.2.1 x.2.2
        ((xs.flatMap fun x => x.1 ++ [{ scl := .high, sda := x.2.1 }, x.2.2]) ++ rest)
      have split : ((x :: xs).flatMap fun x => x.1 ++ [{ scl := .high, sda := x.2.1 }, x.2.2]) ++ rest
          = x.1 ++ { scl := .high, sda := x.2.1 } :: x.2.2
            :: ((xs.flatMap fun x => x.1 ++ [{ scl := .high, sda := x.2.1 }, x.2.2]) ++ rest) := by
        simp
      rw [split]
      unfold hearPulses
      rw [pulse]
      cases xs with
      | nil =>
        by_cases high : x.2.2.sda = .high
        · exact if_pos (by simp [high])
        · refine (if_neg (by simpa [eq_comm] using high)).trans ?_
          obtain rfl : 0 = k := Nat.succ.inj (done.resolve_right fun e => high (Option.some.inj e))
          rfl
      | cons y ys =>
        have sample : x.2.2.sda = .low := low x List.mem_cons_self
        refine (if_neg (by simp [sample])).trans ?_
        refine ih (Nat.le_of_succ_le_succ length) (fun z hz => held z (.tail _ hz)) (fun z hz => low z (.tail _ hz)) ?_
        exact done.imp Nat.succ.inj id

/-- The check of an attempt (R109). -/
theorem readSteps_recoveryCheck {held : List Reading} (h : ∀ x ∈ held, x.scl = .low) :
    readSteps recoveryCheck held = none
      ∧ ∀ m x later, readSteps recoveryCheck (held ++ { scl := .high, sda := m } :: x :: later) = some ([x.sda], later) :=
  have waits := readSteps_waitSclHigh h [.halfPeriod, .sdaRelease, .halfPeriod, .sampleSda]
  ⟨waits.1, fun m x later => waits.2 m (x :: later)⟩

/-! ## A transaction cut short (R116) -/

theorem cutShort_append (begun : List BusStep) (x : BusStep) :
    cutShort (begun ++ [x])
      = match x with
        | .stop => begun ++ [.stop]
        | .receive _ => begun ++ [.receive false, .stop]
        | .start | .repeatedStart | .send _ => begun ++ [x, .stop] := by
  unfold cutShort
  rw [List.getLast?_concat, List.dropLast_concat]
  cases x <;> simp

/-! ## What an abort and an attempt bring -/

theorem State.laneHears_of_recover {s : State} {n : LaneNo} (live : s.inReset = false) (h : (s.run.lane n).state = .recover)
    (begun : List BusStep) (readings : List Reading) :
    s.laneHears n begun readings = (hearRecovery readings).map fun sda => .recoveryAttemptEnd n sda := by
  unfold State.laneHears
  rw [if_neg (by rw [live]; exact Bool.false_ne_true), h]

theorem State.laneHears_of_aborting {s : State} {n : LaneNo} (live : s.inReset = false) (h : (s.run.lane n).state = .busy)
    (aborting : (s.run.lane n).poll = .aborting) (begun : List BusStep) (readings : List Reading) :
    s.laneHears n begun readings = if hear (cutShort begun) readings = .unfinished then none else some (.abortStopEnd n) := by
  unfold State.laneHears
  rw [if_neg (by rw [live]; exact Bool.false_ne_true), h, aborting]

theorem State.laneHears_of_poll {s : State} {n : LaneNo} {q : Poll} {t : List BusStep} (live : s.inReset = false)
    (h : (s.run.lane n).state = .busy) (poll : (s.run.lane n).poll = .poll q) (opened : q.openTransaction s.cfg = some t)
    (begun : List BusStep) (readings : List Reading) : s.laneHears n begun readings = (hear t readings).event n q.phase := by
  unfold State.laneHears
  rw [if_neg (by rw [live]; exact Bool.false_ne_true), h, poll]
  dsimp only
  rw [opened]
  rfl

end Sys2Proof.Machine
end

section
/-! SUPPORT. Timeouts, aborts and recovery on the lane record (R108 to R110, R116, R123). -/

namespace Sys2Proof.Machine

open Sys2Proof

/-! ## What the lane reads when it lets go -/

/-- The lane's pins read what they read. -/
def Lane.reads (pins : Pin × Pin) (x : Lane) : Lane := { x with scl := pins.1, sda := pins.2 }

/-- The lane begins its attempt `k`, with pins that read what they read (R109). -/
def Run.begins (c : Cfg) (n : LaneNo) (k : Nat) (pins : Pin × Pin) (r : Run) : Run :=
  r.spendFree.modLane n fun x =>
    Lane.reads pins
      { x with
        state := .recover, attempts := k, attempt := some (c.globals.laneTimeoutMs.get n), clock := c.globals.laneSpeed.get n }

theorem Run.beginAttempt_eq (c : Cfg) (n : LaneNo) (k : Nat) (r : Run) :
    r.beginAttempt c n k = r.begins c n k (Config.linesRead r.free) := rfl

/-- The lane abandons its work, with pins that read what they read (R108, R109). -/
def Run.abandons (n : LaneNo) (pins : Pin × Pin) (r : Run) : Run :=
  r.spendFree.modLane n fun x => Lane.reads pins { x with transaction := none, attempt := none }

theorem Run.abandonLane_eq (n : LaneNo) (r : Run) : r.abandonLane n = r.abandons n (Config.linesRead r.free) := rfl

theorem Run.abandons_lane (n : LaneNo) (pins : Pin × Pin) (r : Run) :
    (r.abandons n pins).lane n = Lane.reads pins { r.lane n with transaction := none, attempt := none } := Run.modLane_lane_self ..

/-! ## The end of an attempt (R110, R123) -/

/-- The probes of a lane marked to need their pairs again (R123). -/
def Run.remark (n : LaneNo) (r : Run) : Run :=
  { r with probes := mapAt (fun p x => if laneOfProbe p = n then { x with needsInit := true } else x) r.probes }

theorem Run.remark_probe (n : LaneNo) (r : Run) (k : Probe) :
    (r.remark n).probe k = if laneOfProbe k = n then { r.probe k with needsInit := true } else r.probe k := mapAt_get ..

/-- Marks made probe by probe. -/
theorem Run.foldl_needsInit (l : List Probe) (r : Run) :
    l.foldl (fun r p => r.modProbe p fun x => { x with needsInit := true }) r
      = { r with probes := mapAt (fun p x => if p ∈ l then { x with needsInit := true } else x) r.probes } := by
  induction l generalizing r with
  | nil =>
    have same : mapAt (fun p (x : ProbeRun) => if p ∈ ([] : List Probe) then { x with needsInit := true } else x) r.probes = r.probes := by
      refine Vector.ext fun k hk => ?_
      have get := mapAt_get (fun p (x : ProbeRun) => if p ∈ ([] : List Probe) then { x with needsInit := true } else x) r.probes ⟨k, hk⟩
      rw [if_neg List.not_mem_nil] at get
      exact get
    rw [same]
    rfl
  | cons p l ih =>
    rw [List.foldl_cons, ih]
    have same : mapAt (fun q (x : ProbeRun) => if q ∈ l then { x with needsInit := true } else x)
          (r.modProbe p fun x => { x with needsInit := true }).probes
        = mapAt (fun q (x : ProbeRun) => if q ∈ p :: l then { x with needsInit := true } else x) r.probes := by
      refine Vector.ext fun k hk => ?_
      have left := mapAt_get (fun q (x : ProbeRun) => if q ∈ l then { x with needsInit := true } else x)
        (r.modProbe p fun x => { x with needsInit := true }).probes ⟨k, hk⟩
      have right := mapAt_get (fun q (x : ProbeRun) => if q ∈ p :: l then { x with needsInit := true } else x) r.probes ⟨k, hk⟩
      refine left.trans (Eq.trans ?_ right.symm)
      have own := modAt_get p (⟨k, hk⟩ : Probe) (fun x : ProbeRun => { x with needsInit := true }) r.probes
      rw [Run.modProbe_probes, own]
      by_cases here : (⟨k, hk⟩ : Probe) = p
      · rw [if_pos here, here, if_pos List.mem_cons_self]
        split <;> rfl
      · rw [if_neg here]
        simp only [List.mem_cons, here, false_or]
    rw [same]
    rfl

theorem mem_probesOfLane {n : LaneNo} {p : Probe} : p ∈ probesOfLane n ↔ laneOfProbe p = n := by
  simp [probesOfLane, allProbes]

/-- The lane of an attempt that succeeds, before its queue is served (R110). -/
def Lane.recovered (y : Lane) : Lane :=
  { y with
    state := .idle, attempts := 0, attempt := none, recoveries := if y.recoveries < 65535 then y.recoveries + 1 else y.recoveries
    scl := .high, sda := .high }

theorem Run.attemptChecked_high (n : LaneNo) (c : Cfg) (r : Run) :
    r.attemptChecked n .high c = ((r.modLane n Lane.recovered).remark n).serveLane c n := by
  have lanes : (r.modLane n fun x => { x with scl := .high, sda := .high }).modLane n (fun x =>
        { x with state := .idle, attempts := 0, attempt := none, recoveries := satSucc 65535 x.recoveries })
      = r.modLane n Lane.recovered := r.modLane_modLane n _ _
  unfold Run.attemptChecked
  dsimp only
  unfold Run.attemptSucceeded
  dsimp only
  rw [lanes, Run.foldl_needsInit]
  simp only [mem_probesOfLane]
  rfl

theorem Run.attemptChecked_low (n : LaneNo) (c : Cfg) (r : Run) :
    r.attemptChecked n .low c = (r.modLane n fun x => { x with scl := .high, sda := .low }).attemptFailed c n := rfl

/-! ## A lane that gives up (R110) -/

/-- A queued probe fails as the lane gives up. -/
def Run.dropFront (c : Cfg) (n : LaneNo) (r : Run) (p : Probe) : Run :=
  ((r.modLane n fun x => { x with queue := x.queue.tail }).modProbe p fun x => { x with run := .idle }).handOutcome c p
    (.failure .laneFailed none)

/-- A probe that has failed with its lane. -/
def ProbeRun.fell (x : ProbeRun) : Prop := x.run = .idle ∧ x.lastReason = some .laneFailed

theorem Run.failed_probe (c : Cfg) (p q : Probe) (k : Reason) (r : Run) :
    (r.failed c p k).probe q =
      if q = p then
        { r.probe p with
          failures := r.failures p, lastReason := some k, lastTime := some r.clock.stamp, health := r.worse c p }
      else r.probe q := Run.modProbe_probe _ p q _

theorem Run.handFailure_probe (c : Cfg) (p q : Probe) (k : Reason) (raw : Option Nat) (r : Run) :
    (r.handOutcome c p (.failure k raw)).probe q = (r.failed c p k).probe q :=
  congrArg (fun v : Vector ProbeRun _ => v.get q) (Run.handFailure_probes c p k r raw)

theorem Run.dropFront_lane (c : Cfg) (n : LaneNo) (r : Run) (p : Probe) :
    (r.dropFront c n p).lane n = { r.lane n with queue := (r.lane n).queue.tail } :=
  (congrArg (fun v : Vector Lane _ => v.get n) (Run.handOutcome_lanes ..)).trans (Run.modLane_lane_self r n _)

theorem Run.dropFront_fell {c : Cfg} {n : LaneNo} {r : Run} {p q : Probe} (h : q = p ∨ (r.probe q).fell) :
    ((r.dropFront c n p).probe q).fell := by
  have freed := Run.modProbe_probe (r.modLane n fun x => { x with queue := x.queue.tail }) p q fun x => { x with run := .idle }
  unfold Run.dropFront
  rw [Run.handFailure_probe, Run.failed_probe]
  by_cases e : q = p
  · subst e
    rw [if_pos rfl] at freed ⊢
    exact ⟨congrArg ProbeRun.run freed, rfl⟩
  · rw [if_neg e] at freed ⊢
    rw [freed]
    exact h.resolve_left e

/-- The queue of a lane that gives up, front first. -/
theorem Run.foldl_dropFront {c : Cfg} {n : LaneNo} (l : List Probe) (r : Run) (queue : (r.lane n).queue = l) :
    ((l.foldl (Run.dropFront c n) r).lane n) = { r.lane n with queue := [] }
      ∧ ∀ q, q ∈ l ∨ (r.probe q).fell → ((l.foldl (Run.dropFront c n) r).probe q).fell := by
  induction l generalizing r with
  | nil => exact ⟨congrArg (fun l => { r.lane n with queue := l }) queue, fun q h => h.resolve_left List.not_mem_nil⟩
  | cons p l ih =>
    have lane := r.dropFront_lane c n p
    obtain ⟨own, fell⟩ := ih (r.dropFront c n p) ((congrArg Lane.queue lane).trans (congrArg List.tail queue))
    rw [lane] at own
    refine ⟨own, fun q h => fell q ?_⟩
    rcases h with h | h
    · exact (List.mem_cons.mp h).symm.imp_right fun e => Run.dropFront_fell (.inl e)
    · exact .inr (Run.dropFront_fell (.inr h))

/-- A lane that gives up: FAILED, LANE_STUCK, and its queued probes fail (R110). -/
def Run.givesUp (c : Cfg) (n : LaneNo) (queue : List Probe) (r : Run) : Run :=
  queue.foldl (Run.dropFront c n)
    ((r.modLane n fun x => { x with state := .failed, attempts := 3, attempt := none }).raise c .laneStuck (.lane n) 3)

theorem Run.givesUp_spec {c : Cfg} {n : LaneNo} {r : Run} {queue : List Probe} (h : (r.lane n).queue = queue) :
    (r.givesUp c n queue).lane n = { r.lane n with state := .failed, attempts := 3, attempt := none, queue := [] }
      ∧ ∀ q ∈ queue, ((r.givesUp c n queue).probe q).fell := by
  have lane : ((r.modLane n fun x => { x with state := .failed, attempts := 3, attempt := none }).raise c .laneStuck (.lane n) 3).lane n
      = { r.lane n with state := .failed, attempts := 3, attempt := none } :=
    (congrArg (fun v : Vector Lane _ => v.get n) (Run.raise_lanes ..)).trans (Run.modLane_lane_self r n _)
  obtain ⟨own, fell⟩ := Run.foldl_dropFront (c := c) queue _ ((congrArg Lane.queue lane).trans h)
  exact ⟨own.trans (by rw [lane]), fun q hq => fell q (.inl hq)⟩

theorem Run.attemptFailed_of_more {c : Cfg} {n : LaneNo} {r : Run} (h : (r.lane n).attempts < 3) :
    r.attemptFailed c n = r.beginAttempt c n ((r.lane n).attempts + 1) := if_pos h

theorem Run.attemptFailed_of_last {c : Cfg} {n : LaneNo} {r : Run} (h : 3 ≤ (r.lane n).attempts) :
    r.attemptFailed c n = r.givesUp c n (r.lane n).queue := if_neg (Nat.not_lt.mpr h)

/-! ## The end of an abort (R116) -/

/-- The lane whose abort has ended, before its queue is served. -/
theorem Run.abortEnds_eq (n : LaneNo) (r : Run) :
    (r.closeOnLane n).modLane n (fun x => { x with state := .idle, poll := .absent })
      = r.modLane n fun y => { y with state := .idle, poll := .absent, transaction := none, scl := .high, sda := .high } :=
  r.modLane_modLane n _ _

/-! ## The transaction count's expiry (R108) -/

/-- What an expired transaction makes of the poll that is in progress. -/
def Run.laneAborts (c : Cfg) (k : InProgress) (r : Run) : Run :=
  match k with
  | .poll q => (r.modProbe q.probe fun x => { x with run := .idle }).handOutcome c q.probe (.failure .laneAbort none)
  | .absent | .aborting => r

theorem Run.laneAborts_lanes (c : Cfg) (k : InProgress) (r : Run) : (r.laneAborts c k).lanes = r.lanes := by
  cases k with
  | absent => rfl
  | aborting => rfl
  | poll q => exact Run.handOutcome_lanes ..

theorem Run.laneAborts_probe {c : Cfg} {q : Poll} {r : Run} :
    ((r.laneAborts c (.poll q)).probe q.probe).run = .idle
      ∧ ((r.laneAborts c (.poll q)).probe q.probe).lastReason = some .laneAbort
      ∧ ((r.laneAborts c (.poll q)).probe q.probe).needsInit = (r.probe q.probe).needsInit := by
  have freed := Run.modProbe_probe_self r q.probe fun x => { x with run := .idle }
  unfold Run.laneAborts
  dsimp only
  rw [Run.handFailure_probe, Run.failed_probe, if_pos rfl, freed]
  exact ⟨rfl, rfl, rfl⟩

end Sys2Proof.Machine
end

section
/-! SUPPORT. The events of recovery (R108 to R110, R116). -/

namespace Sys2Proof.Machine

open Sys2Proof

section Events
variable {n : LaneNo} {s : State}

theorem expires_iff :
    ((s.run.lane n).transaction.isSome && (s.run.lane n).poll != .absent) = true
      ↔ (s.run.lane n).transaction ≠ none ∧ (s.run.lane n).poll ≠ .absent := by
  rw [Bool.and_eq_true, Option.isSome_iff_ne_none, bne_iff_ne]

theorem recovering_iff :
    s.run.recovering n = true ↔ (s.run.lane n).state = .recover ∧ (s.run.lane n).attempt ≠ none := by
  unfold Run.recovering
  rw [Bool.and_eq_true, Option.isSome_iff_ne_none, beq_iff_eq]

/-- The lane whose transaction count has expired, its poll failed (R108). -/
def Run.timesOut (c : Cfg) (n : LaneNo) (pins : Pin × Pin) (r : Run) : Run :=
  (((r.abandons n pins).modLane n fun x =>
      { x with timeouts := if x.timeouts < 65535 then x.timeouts + 1 else x.timeouts }).laneAborts c (r.lane n).poll).modLane n fun x =>
    { x with poll := .absent }

theorem Run.transactionExpired_eq (c : Cfg) (n : LaneNo) (r : Run) :
    ∃ pins pins', r.transactionExpired n c = (r.timesOut c n pins).begins c n 1 pins' := by
  have poll : (((r.abandonLane n).modLane n fun x => { x with timeouts := satSucc 65535 x.timeouts }).lane n).poll = (r.lane n).poll := by
    rw [Run.modLane_lane_self, Run.abandonLane_eq, Run.abandons_lane]
    rfl
  refine ⟨Config.linesRead r.free, Config.linesRead (r.timesOut c n (Config.linesRead r.free)).free, ?_⟩
  unfold Run.transactionExpired Run.enterRecover
  dsimp only
  rw [poll, Run.beginAttempt_eq]
  unfold Run.timesOut
  cases (r.lane n).poll <;> rfl

theorem Run.timesOut_lane (c : Cfg) (n : LaneNo) (pins : Pin × Pin) (r : Run) :
    (r.timesOut c n pins).lane n =
      Lane.reads pins
        { r.lane n with
          poll := .absent, transaction := none, attempt := none
          timeouts := if (r.lane n).timeouts < 65535 then (r.lane n).timeouts + 1 else (r.lane n).timeouts } := by
  unfold Run.timesOut
  rw [Run.modLane_lane_self]
  have same := Run.laneAborts_lanes c (r.lane n).poll ((r.abandons n pins).modLane n fun x =>
      { x with timeouts := if x.timeouts < 65535 then x.timeouts + 1 else x.timeouts })
  have lane := (congrArg (fun v : Vector Lane _ => v.get n) same).trans (Run.modLane_lane_self ..)
  rw [Run.abandons_lane] at lane
  exact congrArg (fun y : Lane => { y with poll := .absent }) lane

theorem Run.timesOut_probe {c : Cfg} {n : LaneNo} {pins : Pin × Pin} {q : Poll} {r : Run} (h : (r.lane n).poll = .poll q) :
    ((r.timesOut c n pins).probe q.probe).run = .idle ∧ ((r.timesOut c n pins).probe q.probe).lastReason = some .laneAbort
      ∧ ((r.timesOut c n pins).probe q.probe).needsInit = (r.probe q.probe).needsInit := by
  unfold Run.timesOut
  rw [h]
  exact Run.laneAborts_probe

theorem Run.begins_timesOut_lane (c : Cfg) (n : LaneNo) (pins pins' : Pin × Pin) (r : Run) :
    ((r.timesOut c n pins).begins c n 1 pins').lane n =
      Lane.reads pins'
        { r.lane n with
          state := .recover, poll := .absent, transaction := none, attempts := 1
          attempt := some (c.globals.laneTimeoutMs.get n), clock := c.globals.laneSpeed.get n
          timeouts := if (r.lane n).timeouts < 65535 then (r.lane n).timeouts + 1 else (r.lane n).timeouts } := by
  have own := (r.timesOut c n pins).spendFree.modLane_lane_self n fun x =>
    Lane.reads pins'
      { x with
        state := .recover, attempts := 1, attempt := some (c.globals.laneTimeoutMs.get n), clock := c.globals.laneSpeed.get n }
  have before : (r.timesOut c n pins).spendFree.lane n = _ := r.timesOut_lane c n pins
  rw [before] at own
  exact own

/-- The probes of a lane that is recovered and serves its queue (R110, R123). -/
theorem Run.served_probe (n : LaneNo) (p k : Probe) (r : Run) :
    (if k = p then { ((r.modLane n Lane.recovered).remark n).probe p with run := .active }
        else ((r.modLane n Lane.recovered).remark n).probe k)
      = { r.probe k with
          run := if k = p then .active else (r.probe k).run
          needsInit := if laneOfProbe k = n then true else (r.probe k).needsInit } := by
  rw [Run.remark_probe, Run.remark_probe, Run.modLane_probe, Run.modLane_probe]
  by_cases e : k = p
  · subst e
    rw [if_pos rfl, if_pos rfl]
    split <;> rfl
  · rw [if_neg e, if_neg e]
    split <;> rfl

theorem Run.attemptFailed_of_count {c : Cfg} {n : LaneNo} {r : Run} {k : Nat} (count : (r.lane n).attempts = k) (more : k < 3) :
    r.attemptFailed c n = r.begins c n (k + 1) (Config.linesRead r.free) := by
  subst count
  exact (Run.attemptFailed_of_more more).trans (r.beginAttempt_eq c n _)

theorem Run.attemptFailed_of_queue {c : Cfg} {n : LaneNo} {r : Run} {l : List Probe} (queue : (r.lane n).queue = l)
    (last : 3 ≤ (r.lane n).attempts) : r.attemptFailed c n = r.givesUp c n l := by
  subst queue
  exact Run.attemptFailed_of_last last

end Events

/-- What readings bring of an attempt whose pulses have been made (R109). -/
theorem hearRecovery_append {pulses : List (List Reading × Pin × Reading)} {held : List Reading} (length : pulses.length ≤ 9)
    (stretched : ∀ x ∈ pulses, ∀ y ∈ x.1, y.scl = .low) (low : ∀ x ∈ pulses.dropLast, x.2.2.sda = .low)
    (done : pulses.length = 9 ∨ (pulses.getLast?.map fun x => x.2.2.sda) = some .high) (waits : ∀ y ∈ held, y.scl = .low) :
    hearRecovery ((pulses.flatMap fun x => x.1 ++ [{ scl := .high, sda := x.2.1 }, x.2.2]) ++ held) = none
      ∧ ∀ level check later,
        hearRecovery ((pulses.flatMap fun x => x.1 ++ [{ scl := .high, sda := x.2.1 }, x.2.2])
            ++ (held ++ { scl := .high, sda := level } :: check :: later)) = some check.sda := by
  have pulsed := hearPulses_append length stretched low done
  have checks := readSteps_recoveryCheck waits
  unfold hearRecovery
  refine ⟨?_, fun level check later => ?_⟩
  · rw [pulsed, Option.bind_some, checks.1]
    rfl
  · rw [pulsed, Option.bind_some, checks.2]
    rfl

end Sys2Proof.Machine

open Sys2Proof Sys2Proof.Machine

/-- Settles O59: the expiry, the abort's stop and the attempt's check as they change the lane's record, with its queue served or
dropped front first; and the pulses of an attempt read one by one. -/
theorem lanesAreRecovered : Obligations.LanesAreRecovered := by
  refine ⟨fun n s live => ?_, fun samples => ?_, fun pulses held later level check length stretched waits low => ?_,
    fun n s begun readings live =>
      ⟨fun h => State.laneHears_of_recover live h begun readings, fun h k => State.laneHears_of_aborting live h k begun readings⟩,
    fun begun b a => ⟨cutShort_append .., cutShort_append .., cutShort_append .., cutShort_append .., cutShort_append ..⟩⟩
  · intro r₀ c y g sat expires recovers reads begins abandons drops givesUp checked
    have expiry (h : expires) : exec (.transactionTimeout n) s = .next (s.after (r₀.transactionExpired n c)) :=
      State.runEvent_after (f := Run.transactionExpired n) live (expires_iff.mpr h)
    have abort (h : y.poll = .aborting) : exec (.abortStopEnd n) s = .next (s.after ((r₀.closeOnLane n).freeLane c n)) :=
      State.runEvent_after (f := fun c r => (r.closeOnLane n).freeLane c n) live (beq_iff_eq.mpr h)
    have ends (h : recovers) (sda : Pin) : exec (.recoveryAttemptEnd n sda) s = .next (s.after (r₀.attemptChecked n sda c)) :=
      State.runEvent_after (f := Run.attemptChecked n sda) live (recovering_iff.mpr h)
    have timeout (h : recovers) :
        exec (.recoveryAttemptTimeout n) s = .next (s.after ((r₀.abandonLane n).attemptFailed c n)) :=
      State.runEvent_after (f := fun c r => (r.abandonLane n).attemptFailed c n) live (recovering_iff.mpr h)
    have checks (sda : Pin) : (checked sda).lane n = { y with scl := .high, sda := sda } := r₀.modLane_lane_self n _
    have lets (pins : Pin × Pin) : (abandons pins).lane n = Lane.reads pins { y with transaction := none, attempt := none } :=
      r₀.abandons_lane n pins
    refine ⟨fun out => ?_, fun h => ?_, fun out => ?_, fun h empty => ?_, fun p rest h queue => ?_, fun out => ⟨fun sda => ?_, ?_⟩,
      fun h empty => ?_, fun p rest h queue => ?_, fun h more => ⟨?_, ?_⟩, fun h last => ⟨?_, ?_, fun r hr => ?_⟩⟩
    · exact State.runEvent_not (f := Run.transactionExpired n) (.inr (Bool.eq_false_iff.mpr (mt expires_iff.mp out)))
    · obtain ⟨pins, pins', whole⟩ := r₀.transactionExpired_eq c n
      refine ⟨pins, pins', (expiry h).trans (congrArg (fun r => Host.Outcome.next (s.after r)) whole), ?_, fun q poll => ?_⟩
      · exact Run.begins_timesOut_lane c n pins pins' r₀
      · exact Run.timesOut_probe poll
    · exact State.runEvent_not (f := fun c r => (r.closeOnLane n).freeLane c n) (.inr (beq_eq_false_iff_ne.mpr out))
    · refine (abort h).trans (congrArg (fun r => Host.Outcome.next (s.after r)) ?_)
      exact (Run.freeLane_of_empty ((congrArg Lane.queue (r₀.modLane_lane_self n _)).trans empty)).trans (r₀.abortEnds_eq n)
    · obtain ⟨own, -, probe, onLanes⟩ := Run.laneServed_freeLane (c := c) (r := r₀.closeOnLane n)
        ((congrArg Lane.queue (r₀.modLane_lane_self n _)).trans queue)
      exact ⟨_, _, abort h, congrArg Lane.state own, congrArg Lane.queue own, congrArg Lane.poll own, rfl,
        congrArg ProbeRun.run ((probe p).trans (if_pos rfl)), fun k other => (probe k).trans (if_neg other), onLanes.sleds⟩
    · exact State.runEvent_not (f := Run.attemptChecked n sda) (.inr (Bool.eq_false_iff.mpr (mt recovering_iff.mp out)))
    · exact State.runEvent_not (f := fun c r => (r.abandonLane n).attemptFailed c n)
        (.inr (Bool.eq_false_iff.mpr (mt recovering_iff.mp out)))
    · refine (ends h .high).trans (congrArg (fun r => Host.Outcome.next (s.after r)) ?_)
      refine (r₀.attemptChecked_high n c).trans (Run.serveLane_of_empty ?_)
      exact (congrArg Lane.queue (r₀.modLane_lane_self n _)).trans empty
    · obtain ⟨own, -, probe, onLanes⟩ := Run.laneServed_serveLane (c := c) (n := n) (p := p) (rest := rest)
        (r := (r₀.modLane n Lane.recovered).remark n) (congrArg Lane.state (r₀.modLane_lane_self n _))
        ((congrArg Lane.queue (r₀.modLane_lane_self n _)).trans queue)
      have lane : ((r₀.modLane n Lane.recovered).remark n).lane n = y.recovered := r₀.modLane_lane_self n _
      rw [lane] at own
      refine ⟨_, _, (ends h .high).trans (congrArg (fun r => Host.Outcome.next (s.after r)) (r₀.attemptChecked_high n c)),
        congrArg Lane.state own, congrArg Lane.recoveries own, congrArg Lane.attempts own, congrArg Lane.queue own,
        congrArg Lane.poll own, rfl, fun k => (probe k).trans ?_⟩
      exact Run.served_probe n p k r₀
    · refine ⟨Config.linesRead r₀.free, (ends h .low).trans (congrArg (fun r => Host.Outcome.next (s.after r)) ?_)⟩
      exact Run.attemptFailed_of_count ((congrArg Lane.attempts (checks .low)).trans rfl) more
    · refine ⟨Config.linesRead r₀.free, Config.linesRead (r₀.abandonLane n).free, (timeout h).trans (congrArg (fun r => Host.Outcome.next (s.after r)) ?_)⟩
      exact Run.attemptFailed_of_count ((congrArg Lane.attempts (lets _)).trans rfl) more
    · refine (ends h .low).trans (congrArg (fun r => Host.Outcome.next (s.after r)) ?_)
      exact Run.attemptFailed_of_queue ((congrArg Lane.queue (checks .low)).trans rfl)
        (Nat.le_trans last (Nat.le_of_eq (congrArg Lane.attempts (checks .low)).symm))
    · refine ⟨Config.linesRead r₀.free, (timeout h).trans (congrArg (fun r => Host.Outcome.next (s.after r)) ?_)⟩
      exact Run.attemptFailed_of_queue ((congrArg Lane.queue (lets _)).trans rfl)
        (Nat.le_trans last (Nat.le_of_eq (congrArg Lane.attempts (lets _)).symm))
    · have queue : (r.lane n).queue = y.queue := by
        rcases hr with rfl | ⟨pins, rfl⟩
        · exact (congrArg Lane.queue (checks .low)).trans rfl
        · exact (congrArg Lane.queue (lets pins)).trans rfl
      obtain ⟨own, fell⟩ := Run.givesUp_spec (c := c) queue
      exact ⟨congrArg Lane.state own, congrArg Lane.attempts own, congrArg Lane.attempt own, congrArg Lane.queue own, fell⟩
  · intro pulse stop course
    refine ⟨fun k h low high => ?_, fun low => ?_⟩
    · exact congrArg course (recoveryPulses_of_high h low high)
    · exact congrArg course (recoveryPulses_of_low low)
  · intro readings done
    obtain ⟨goes, found⟩ := hearRecovery_append length stretched low done waits
    exact ⟨goes, (congrArg hearRecovery (List.append_assoc ..)).trans (found level check later)⟩
end

section
/-! SUPPORT. A byte on the pins, and what a transaction's bus steps read (R107, R125, R129, R161). -/

namespace Sys2Proof.Machine

open Sys2Proof

/-! ## Bytes bit by bit -/

/-- A number from its bits, the lowest first. -/
theorem foldr_testBit (n m : Nat) :
    ((List.range n).map fun k => lineLevel (m.testBit k)).foldr (fun x n => 2 * n + if x = .high then 1 else 0) 0 = m % 2 ^ n := by
  induction n generalizing m with
  | zero => rw [Nat.pow_zero, Nat.mod_one]; rfl
  | succ n ih =>
    have rest : ((List.range n).map fun k => lineLevel (m.testBit (k + 1))) = (List.range n).map fun k => lineLevel ((m / 2).testBit k) := by
      simp only [Nat.testBit_succ]
    have low : (if lineLevel (m.testBit 0) = .high then 1 else 0) = m % 2 := by
      rw [Nat.testBit_zero]
      rcases Nat.mod_two_eq_zero_or_one m with h | h <;> simp [h, lineLevel]
    rw [List.range_succ_eq_map, List.map_cons, List.map_map, List.foldr_cons]
    change 2 * ((List.range n).map fun k => lineLevel (m.testBit (k + 1))).foldr _ 0 + _ = _
    rw [rest, ih, low, Nat.pow_succ', Nat.mod_mul, Nat.add_comm]

/-- Eight levels, the first the lowest bit, make the byte they come from (R161). -/
theorem byteOfLevels_bits (b : Byte) : byteOfLevels ((List.range 8).map fun k => lineLevel (b.getLsbD k)) = b := by
  have fold := foldr_testBit 8 b.toNat
  rw [Nat.mod_eq_of_lt b.isLt] at fold
  unfold byteOfLevels
  exact (congrArg (BitVec.ofNat 8) fold).trans (by simp)

/-- A byte read bit by bit, the highest first (R107). -/
theorem byteRead_bits {b : Byte} {samples : List Pin}
    (h : samples.take 8 = (List.range 8).map fun k => if b.getMsbD k then .high else .low) : byteRead samples = b := by
  have reversed : ((List.range 8).map fun k => if b.getMsbD k then Pin.high else .low).reverse
      = (List.range 8).map fun k => lineLevel (b.getLsbD k) := rfl
  unfold byteRead
  rw [h, reversed, byteOfLevels_bits]

/-! ## Nine bits of a byte -/

/-- What the pins read in the bits of a byte: a wait for SCL, a sample, and one more look (R107). -/
abbrev BitReadings := List Reading × Pin × Reading

def BitReadings.stretched (x : BitReadings) : Prop := ∀ y ∈ x.1, y.scl = .low

theorem readSteps_bits (flags : List Bool) {bits : List BitReadings} (length : bits.length = flags.length)
    (held : ∀ x ∈ bits, x.stretched) (later : List Reading) :
    readSteps (flags.flatMap bitSteps) ((bits.flatMap fun x => x.1 ++ [{ scl := .high, sda := x.2.1 }, x.2.2]) ++ later)
      = some (bits.map fun x => x.2.2.sda, later) := by
  induction flags generalizing bits with
  | nil =>
    obtain rfl := List.length_eq_zero_iff.mp length
    rfl
  | cons flag flags ih =>
    obtain ⟨x, xs, rfl⟩ : ∃ x xs, bits = x :: xs := List.exists_cons_of_length_eq_add_one length
    have split : ((x :: xs).flatMap fun x => x.1 ++ [{ scl := .high, sda := x.2.1 }, x.2.2]) ++ later
        = x.1 ++ { scl := .high, sda := x.2.1 } :: x.2.2
          :: ((xs.flatMap fun x => x.1 ++ [{ scl := .high, sda := x.2.1 }, x.2.2]) ++ later) := by
      simp
    rw [split, List.flatMap_cons, readSteps_append, readSteps_bitSteps flag (held x List.mem_cons_self), Option.bind_some,
      ih (Nat.succ.inj length) fun y hy => held y (.tail _ hy)]
    rfl

/-- The flags of the nine bits of a byte: released or pulled low. -/
theorem BusStep.pins_of_byte :
    (∀ b : Byte, (BusStep.send b).pins = ((List.range 8).map (b.getMsbD ·) ++ [true]).flatMap bitSteps)
      ∧ ∀ a : Bool, (BusStep.receive a).pins = (List.replicate 8 true ++ [!a]).flatMap bitSteps := by
  refine ⟨fun b => ?_, fun a => ?_⟩
  · rw [List.flatMap_append, List.flatMap_map]
    rfl
  · rfl

section Nine
variable {bits : List BitReadings} (length : bits.length = 9) (held : ∀ x ∈ bits, x.stretched) (steps : List BusStep)
  (later : List Reading)
include length held

theorem hear_send (b : Byte) :
    hear (.send b :: steps) ((bits.flatMap fun x => x.1 ++ [{ scl := .high, sda := x.2.1 }, x.2.2]) ++ later)
      = if (bits.map fun x => x.2.2.sda)[8]? = some .high then
          if hear [.stop] later = .unfinished then .unfinished else .refused
        else hear steps later := by
  have nine := readSteps_bits ((List.range 8).map (b.getMsbD ·) ++ [true]) (length.trans rfl) held later
  have stop : (if (readSteps BusStep.stop.pins later).isSome then Heard.refused else .unfinished)
      = if hear [.stop] later = .unfinished then .unfinished else .refused := by
    unfold hear
    cases readSteps BusStep.stop.pins later <;> rfl
  rw [hear, BusStep.pins_of_byte.1, nine, ← stop]

theorem hear_receive (a : Bool) :
    hear (.receive a :: steps) ((bits.flatMap fun x => x.1 ++ [{ scl := .high, sda := x.2.1 }, x.2.2]) ++ later)
      = (hear steps later).withByte (byteRead (bits.map fun x => x.2.2.sda)) := by
  have nine := readSteps_bits (List.replicate 8 true ++ [!a]) (length.trans rfl) held later
  rw [hear, BusStep.pins_of_byte.2, nine]

end Nine

/-! ## Starts, stops and a held line -/

theorem hear_start {held : List Reading} (h : ∀ x ∈ held, x.scl = .low ∨ x.sda = .low) (steps : List BusStep) :
    hear (.start :: steps) held = .unfinished
      ∧ ∀ later, hear (.start :: steps) (held ++ { scl := .high, sda := .high } :: later) = hear steps later := by
  have low : ∀ x ∈ held, (x.scl == .high && x.sda == .high) = false := fun x hx => by
    rcases h x hx with e | e <;> simp [e]
  have steps_eq (l : List Reading) : readSteps BusStep.start.pins l
      = (awaitReading (fun x => x.scl == .high && x.sda == .high) l).bind fun l => some ([], l) := rfl
  refine ⟨?_, fun later => ?_⟩
  · rw [hear, steps_eq, awaitReading_eq_none low]
    rfl
  · rw [hear, steps_eq, awaitReading_append low]
    rfl

theorem hear_repeatedStart {held : List Reading} (h : ∀ x ∈ held, x.scl = .low) (m : Pin) (steps : List BusStep) (later : List Reading) :
    hear (.repeatedStart :: steps) (held ++ { scl := .high, sda := m } :: later) = hear steps later := by
  have reads : readSteps BusStep.repeatedStart.pins (held ++ { scl := .high, sda := m } :: later) = some ([], later) :=
    (readSteps_waitSclHigh h [.sdaLow, .halfPeriod, .sclLow]).2 m later
  rw [hear, reads]

theorem hear_stop {held waits : List Reading} (h : ∀ x ∈ held, x.scl = .low) (k : ∀ x ∈ waits, x.sda = .low) (m scl : Pin)
    (steps : List BusStep) (later : List Reading) :
    hear (.stop :: steps) (held ++ { scl := .high, sda := m } :: (waits ++ { scl := scl, sda := .high } :: later)) = hear steps later := by
  have low : ∀ x ∈ waits, (x.sda == .high) = false := fun x hx => by simp [k x hx]
  have clock := (readSteps_waitSclHigh h [.sdaRelease, .waitSdaHigh]).2 m (waits ++ { scl := scl, sda := .high } :: later)
  have data : readSteps [.sdaRelease, .waitSdaHigh] (waits ++ { scl := scl, sda := .high } :: later) = some ([], later) :=
    congrArg (fun o : Option (List Reading) => o.bind fun l => some ([], l)) (awaitReading_append low _)
  have reads : readSteps BusStep.stop.pins (held ++ { scl := .high, sda := m } :: (waits ++ { scl := scl, sda := .high } :: later))
      = some ([], later) := clock.trans data
  rw [hear, reads]

/-- SCL held low ends no bus step. -/
theorem readSteps_of_held {held : List Reading} (h : ∀ x ∈ held, x.scl = .low) (x : BusStep) : readSteps x.pins held = none := by
  have waits := fun steps => (readSteps_waitSclHigh h steps).1
  have bit (flag : Bool) : readSteps (bitSteps flag) held = none := by
    cases flag
    · exact waits _
    · exact waits _
  have bits (flag : Bool) (flags : List Bool) : readSteps ((flag :: flags).flatMap bitSteps) held = none := by
    rw [List.flatMap_cons, readSteps_append, bit]
    rfl
  cases x with
  | start =>
    have busy : ∀ x ∈ held, (x.scl == .high && x.sda == .high) = false := fun x hx => by simp [h x hx]
    exact congrArg (fun o : Option (List Reading) => o.bind fun l => some ([], l)) (awaitReading_eq_none busy)
  | repeatedStart => exact waits _
  | stop => exact waits _
  | send b =>
    rw [BusStep.pins_of_byte.1]
    exact bits _ _
  | receive a =>
    rw [BusStep.pins_of_byte.2]
    exact bits _ _

theorem hear_of_held {held : List Reading} (h : ∀ x ∈ held, x.scl = .low) {steps : List BusStep} (some : steps ≠ []) :
    hear steps held = .unfinished := by
  cases steps with
  | nil => exact absurd rfl some
  | cons x steps => rw [hear, readSteps_of_held h]

theorem awaitReading_suffix {met : Reading → Bool} {l left : List Reading} (h : awaitReading met l = some left) : left <:+ l := by
  induction l with
  | nil => cases h
  | cons x xs ih =>
    unfold awaitReading at h
    split at h
    · obtain rfl := Option.some.inj h
      exact List.suffix_cons ..
    · exact (ih h).trans (List.suffix_cons ..)

/-- Pin steps take readings from the front, and sample no level that is not read. -/
theorem readSteps_suffix {steps : List PinStep} {l left : List Reading} {samples : List Pin}
    (h : readSteps steps l = some (samples, left)) : left <:+ l ∧ ∀ m ∈ samples, ∃ x ∈ l, x.sda = m := by
  induction steps generalizing l samples with
  | nil =>
    obtain ⟨rfl, rfl⟩ := Prod.mk.inj (Option.some.inj h)
    exact ⟨List.suffix_rfl, nofun⟩
  | cons a steps ih =>
    have wait {met : Reading → Bool} (h : (awaitReading met l).bind (readSteps steps) = some (samples, left)) :
        left <:+ l ∧ ∀ m ∈ samples, ∃ x ∈ l, x.sda = m := by
      obtain ⟨l', waits, rest⟩ := Option.bind_eq_some_iff.mp h
      obtain ⟨suffix, read⟩ := ih rest
      exact ⟨suffix.trans (awaitReading_suffix waits), fun m hm =>
        (read m hm).imp fun x hx => ⟨(awaitReading_suffix waits).subset hx.1, hx.2⟩⟩
    cases a with
    | sampleSda =>
      cases l with
      | nil => cases h
      | cons x l =>
        obtain ⟨⟨samples', left'⟩, rest, e⟩ := Option.map_eq_some_iff.mp h
        obtain ⟨rfl, rfl⟩ := Prod.mk.inj e
        obtain ⟨suffix, read⟩ := ih rest
        refine ⟨suffix.trans (List.suffix_cons ..), fun m hm => ?_⟩
        rcases List.mem_cons.mp hm with rfl | hm
        · exact ⟨x, List.mem_cons_self, rfl⟩
        · exact (read m hm).imp fun y hy => ⟨.tail _ hy.1, hy.2⟩
    | waitSclHigh => exact wait h
    | waitSdaHigh => exact wait h
    | waitBusFree => exact wait h
    | sclLow => exact ih h
    | sclRelease => exact ih h
    | sdaLow => exact ih h
    | sdaRelease => exact ih h
    | halfPeriod => exact ih h

/-- SDA held low ends no stop. -/
theorem readSteps_stop_of_held {held : List Reading} (h : ∀ x ∈ held, x.sda = .low) : readSteps BusStep.stop.pins held = none := by
  have waits (l : List Reading) (low : ∀ x ∈ l, x.sda = .low) : readSteps [.sdaRelease, .waitSdaHigh] l = none :=
    congrArg (fun o : Option (List Reading) => o.bind fun l => some ([], l)) (awaitReading_eq_none fun x hx => by simp [low x hx])
  show (awaitReading (fun x => x.scl == .high) held).bind (readSteps [.sdaRelease, .waitSdaHigh]) = none
  cases left : awaitReading (fun x => x.scl == .high) held with
  | none => rfl
  | some l => exact waits l fun x hx => h x ((awaitReading_suffix left).subset hx)

theorem hear_of_sda_held {held : List Reading} (h : ∀ x ∈ held, x.sda = .low) {steps : List BusStep} (stops : .stop ∈ steps) :
    hear steps held = .unfinished := by
  induction steps generalizing held with
  | nil => cases stops
  | cons x steps ih =>
    by_cases stop : x = .stop
    · subst stop
      rw [hear, readSteps_stop_of_held h]
    · have later : .stop ∈ steps := (List.mem_cons.mp stops).resolve_left (Ne.symm stop)
      rw [hear]
      cases reads : readSteps x.pins held with
      | none => rfl
      | some t =>
        obtain ⟨samples, left⟩ := t
        obtain ⟨suffix, read⟩ := readSteps_suffix reads
        have rest := ih (fun y hy => h y (suffix.subset hy)) later
        have low : samples[8]? ≠ some .high := fun e => by
          obtain ⟨y, hy, level⟩ := read _ (List.mem_of_getElem? e)
          rw [h y hy] at level
          cases level
        cases x with
        | stop => exact absurd rfl stop
        | start => exact rest
        | repeatedStart => exact rest
        | send b => exact (if_neg low).trans rest
        | receive a => exact (congrArg (Heard.withByte _) rest).trans rfl

end Sys2Proof.Machine
end

section
/-! SUPPORT. The transactions of a poll and its phases (R122, R124 to R131). -/

namespace Sys2Proof.Machine

open Sys2Proof

/-! ## Script pairs and their groups (R122, R125) -/

/-- The second pair's register follows the first's. -/
def rises (a b : Byte × Byte) : Prop := b.1.toNat = a.1.toNat + 1

/-- A group that ends where the next one begins: the registers do not rise by one there. -/
def breaks (g h : List (Byte × Byte)) : Prop := ∀ a b, g.getLast? = some a → h.head? = some b → ¬rises a b

/-- The groups of a phase with `seq` on: every one holds a run of rising registers, and the next begins where it breaks. -/
theorem groupPairs_spec (l : List (Byte × Byte)) :
    (groupPairs l).flatten = l ∧ (∀ g ∈ groupPairs l, g ≠ []) ∧ (∀ g ∈ groupPairs l, chained rises g)
      ∧ chained breaks (groupPairs l) := by
  induction l with
  | nil => exact ⟨rfl, nofun, nofun, trivial⟩
  | cons a l ih =>
    obtain ⟨flat, full, chain, broken⟩ := ih
    cases groups : groupPairs l with
    | nil =>
      rw [groups] at flat
      have whole : groupPairs (a :: l) = [[a]] := by
        unfold groupPairs
        rw [groups]
      rw [whole, ← flat]
      exact ⟨rfl, by simp, by simp [chained], trivial⟩
    | cons g gs =>
      rw [groups] at flat full chain broken
      cases g with
      | nil => exact absurd rfl (full [] List.mem_cons_self)
      | cons b g =>
        have whole : groupPairs (a :: l) = if b.1.toNat = a.1.toNat + 1 then (a :: b :: g) :: gs else [a] :: (b :: g) :: gs := by
          rw [groupPairs, groups]
        rw [whole]
        split
        · next rise =>
          refine ⟨congrArg (a :: ·) flat, fun h hh => ?_, fun h hh => ?_, ?_⟩
          · rcases List.mem_cons.mp hh with rfl | hh
            · exact List.cons_ne_nil _ _
            · exact full h (.tail _ hh)
          · rcases List.mem_cons.mp hh with rfl | hh
            · exact ⟨rise, chain _ List.mem_cons_self⟩
            · exact chain h (.tail _ hh)
          · cases gs with
            | nil => exact trivial
            | cons h gs =>
              obtain ⟨first, rest⟩ := broken
              exact ⟨fun x y hx hy => first x y (by rwa [List.getLast?_cons_cons] at hx) hy, rest⟩
        · next falls =>
          refine ⟨congrArg (a :: ·) flat, fun h hh => ?_, fun h hh => ?_, ⟨fun x y hx hy => ?_, broken⟩⟩
          · rcases List.mem_cons.mp hh with rfl | hh
            · exact List.cons_ne_nil _ _
            · exact full h hh
          · rcases List.mem_cons.mp hh with rfl | hh
            · exact trivial
            · exact chain h hh
          · obtain rfl := Option.some.inj hx
            obtain rfl := Option.some.inj hy
            exact falls

theorem scriptPairs_length (c : Cfg) (p : Probe) : (scriptPairs c p).length = (c.probe p).initCount := by
  simp [scriptPairs]

theorem scriptPairs_get {c : Cfg} {p : Probe} {j : Nat} (h : j < (c.probe p).initCount) :
    (scriptPairs c p)[j]?
      = some (scriptByte c.script (segmentStart c p + 2 * j), scriptByte c.script (segmentStart c p + 2 * j + 1)) := by
  simp [scriptPairs, h]

/-- A group on the bus, which is not empty (R125). -/
theorem groupSteps_of_ne {x : ProbeCfg} {g : List (Byte × Byte)} (h : g ≠ []) :
    groupSteps x g = .send (BitVec.ofNat 8 (2 * x.address)) :: .send (g.headD (0, 0)).1 :: g.map fun a => .send a.2 := by
  cases g with
  | nil => exact absurd rfl h
  | cons a g => rfl

theorem initTransactions_of_single {c : Cfg} {p : Probe} (h : (c.probe p).seq = false) :
    initTransactions c p
      = (scriptPairs c p).map fun a =>
          [.start, .send (BitVec.ofNat 8 (2 * (c.probe p).address)), .send a.1, .send a.2, .stop] := by
  unfold initTransactions
  dsimp only
  rw [if_neg (by rw [h]; exact Bool.false_ne_true)]
  rfl

theorem initTransactions_of_seq {c : Cfg} {p : Probe} (h : (c.probe p).seq = true) :
    initTransactions c p
      = [.start :: (List.intercalate [.repeatedStart] ((groupPairs (scriptPairs c p)).map (groupSteps (c.probe p)))) ++ [.stop]] := by
  unfold initTransactions
  dsimp only
  rw [if_pos h]

theorem readTransaction_eq (x : ProbeCfg) :
    readTransaction x
      = [.start, .send (BitVec.ofNat 8 (2 * x.address)), .send (BitVec.ofNat 8 x.readRegister), .repeatedStart,
          .send (BitVec.ofNat 8 (2 * x.address + 1))]
        ++ (if x.format = .u8 then [.receive false] else [.receive true, .receive false]) ++ [.stop] := by
  unfold readTransaction
  cases x.format <;> rfl

/-- The bytes read are as many as the bytes asked for. -/
def BusStep.receives : BusStep → Bool
  | .receive _ => true
  | .start | .repeatedStart | .send _ | .stop => false

theorem hear_length {steps : List BusStep} {readings : List Reading} {bytes : List Byte} (h : hear steps readings = .ended bytes) :
    bytes.length = steps.countP BusStep.receives := by
  induction steps generalizing readings bytes with
  | nil =>
    obtain rfl := Heard.ended.inj h
    rfl
  | cons x steps ih =>
    rw [hear] at h
    cases reads : readSteps x.pins readings with
    | none =>
      rw [reads] at h
      cases h
    | some t =>
      obtain ⟨samples, left⟩ := t
      rw [reads] at h
      cases x with
      | start => exact ih h
      | repeatedStart => exact ih h
      | stop => exact ih h
      | send b =>
        dsimp only at h
        split at h
        · split at h <;> cases h
        · exact ih h
      | receive a =>
        cases heard : hear steps left with
        | unfinished =>
          dsimp only at h
          rw [heard] at h
          cases h
        | refused =>
          dsimp only at h
          rw [heard] at h
          cases h
        | ended rest =>
          dsimp only at h
          rw [heard] at h
          obtain rfl := Heard.ended.inj h
          rw [List.countP_cons_of_pos rfl, ← ih heard]
          rfl

theorem hear_readTransaction {x : ProbeCfg} {readings : List Reading} {bytes : List Byte}
    (h : hear (readTransaction x) readings = .ended bytes) : bytes.length = if x.format = .u8 then 1 else 2 := by
  rw [hear_length h, readTransaction_eq]
  split <;> rfl

end Sys2Proof.Machine
end

section
/-! SUPPORT. The events of a poll's phases (R124 to R131). -/

namespace Sys2Proof.Machine

open Sys2Proof

/-! ## The poll in a phase -/

/-- A lane polls in a phase. -/
def Lane.inPhase (y : Lane) (k : Phase) : Prop := ∃ q, y.poll = .poll q ∧ q.phase = k

section Phases
variable {r : Run} {n : LaneNo} {k : Phase} {q : Poll}

theorem Run.pollIn_of_phase (poll : (r.lane n).poll = .poll q) (phase : q.phase = k) : r.pollIn n k = some q := by
  unfold Run.pollIn
  rw [poll]
  exact if_pos phase

theorem Run.pollIn_of_other (h : ¬(r.lane n).inPhase k) : r.pollIn n k = none := by
  unfold Run.pollIn
  cases poll : (r.lane n).poll with
  | absent => rfl
  | aborting => rfl
  | poll q => exact if_neg fun phase => h ⟨q, poll, phase⟩

theorem Run.withPoll_of_phase (poll : (r.lane n).poll = .poll q) (phase : q.phase = k) (effect : Poll → Run → Run) :
    r.withPoll n k effect = effect q r := by
  unfold Run.withPoll
  rw [Run.pollIn_of_phase poll phase]

end Phases

/-- An event of a phase does its work on the poll that is in it, and nothing where none is. -/
theorem State.phaseEvent {s : State} {n : LaneNo} {k : Phase} {effect : Cfg → Poll → Run → Run} (live : s.inReset = false) :
    (¬(s.run.lane n).inPhase k → s.runEvent (s.run.pollIn n k).isSome (fun c r => r.withPoll n k (effect c)) = .next s)
      ∧ ∀ q, (s.run.lane n).poll = .poll q → q.phase = k →
          s.runEvent (s.run.pollIn n k).isSome (fun c r => r.withPoll n k (effect c)) = .next (s.after (effect s.cfg q s.run)) := by
  refine ⟨fun other => State.runEvent_not (.inr ?_), fun q poll phase => ?_⟩
  · rw [Run.pollIn_of_other other]
    rfl
  · rw [State.runEvent_after live (by rw [Run.pollIn_of_phase poll phase]; rfl), Run.withPoll_of_phase poll phase]

/-! ## What each phase's event does -/

section Effects
variable {c : Cfg} {n : LaneNo} {q : Poll} {r : Run}

theorem Run.initEnds_of_more (h : q.transaction + 1 < initTransactionCount (c.probe q.probe)) :
    Run.Opened c n { q with transaction := q.transaction + 1, retries := 0 } r (r.initEnds c n q) := by
  unfold Run.initEnds
  rw [if_pos h]
  exact (Run.opened_openOnLane c n _ _).of_closed

/-- The mark of the probe cleared as INIT ends. -/
def Run.initialized (n : LaneNo) (p : Probe) (r : Run) : Run := (r.closeOnLane n).modProbe p fun x => { x with needsInit := false }

theorem Run.initEnds_of_last (h : initTransactionCount (c.probe q.probe) ≤ q.transaction + 1) :
    r.initEnds c n q
      = if 0 < (c.probe q.probe).settleMs then
          (r.initialized n q.probe).setPoll n (.first q.probe .settle (some (c.probe q.probe).settleMs))
        else (r.initialized n q.probe).beginWaitOrRead c n q.probe := by
  unfold Run.initEnds
  rw [if_neg (Nat.not_lt.mpr h)]
  rfl

theorem Run.initialized_probe (p k : Probe) :
    (r.initialized n p).probe k = if k = p then { r.probe k with needsInit := false } else r.probe k := by
  unfold Run.initialized
  rw [Run.modProbe_probe]
  split
  · next e => subst e; rfl
  · rfl

theorem Run.initialized_lane (p : Probe) :
    (r.initialized n p).lane n = { r.lane n with transaction := none, scl := .high, sda := .high } :=
  Run.modLane_lane_self r n _

theorem Run.Opened.effect {t : Run} {u : Poll} (h : Run.Opened c n u r t) :
    t.lane n =
        { r.lane n with
          poll := .poll u, transaction := some (c.globals.laneTimeoutMs.get n), clock := c.globals.laneSpeed.get n
          scl := (t.lane n).scl, sda := (t.lane n).sda }
      ∧ (∀ m, m ≠ n → t.lane m = r.lane m) ∧ t.sleds = r.sleds ∧ t.notices = r.notices :=
  ⟨h.lane, h.others, h.onLanes.sleds, (congrArg Run.notices h.onLanes).trans rfl⟩

theorem Run.Opened.of_initialized {t : Run} {p : Probe} {u : Poll} (h : Run.Opened c n u (r.initialized n p) t) :
    t.lane n =
        { r.lane n with
          poll := .poll u, transaction := some (c.globals.laneTimeoutMs.get n), clock := c.globals.laneSpeed.get n
          scl := (t.lane n).scl, sda := (t.lane n).sda }
      ∧ (∀ m, m ≠ n → t.lane m = r.lane m) ∧ t.sleds = r.sleds ∧ t.notices = r.notices := by
  obtain ⟨lane, others, -, onLanes⟩ := h
  rw [Run.initialized_lane] at lane
  exact ⟨lane, fun m other => (others m other).trans (r.modLane_lane n m _ |>.trans (if_neg other)), onLanes.sleds,
    (congrArg Run.notices onLanes).trans rfl⟩

/-- A poll set without a transaction after INIT (R126, R127). -/
theorem Run.setPoll_initialized (p : Probe) (u : Poll) :
    (((r.initialized n p).setPoll n u).lane n).poll = .poll u ∧ (((r.initialized n p).setPoll n u).lane n).transaction = none := by
  have lane := Run.modLane_lane_self (r.initialized n p) n fun x => { x with poll := .poll u }
  rw [Run.initialized_lane] at lane
  exact ⟨congrArg Lane.poll lane, congrArg Lane.transaction lane⟩

theorem Run.beginWaitOrRead_probes (p : Probe) : (r.beginWaitOrRead c n p).probes = r.probes := by
  unfold Run.beginWaitOrRead
  split <;> rfl

theorem Run.initEnds_probe (h : initTransactionCount (c.probe q.probe) ≤ q.transaction + 1) (k : Probe) :
    (r.initEnds c n q).probe k = if k = q.probe then { r.probe k with needsInit := false } else r.probe k := by
  rw [← Run.initialized_probe (n := n), Run.initEnds_of_last h]
  split
  · rfl
  · exact congrArg (fun v : Vector ProbeRun _ => v.get k) (Run.beginWaitOrRead_probes ..)

theorem Run.notAcknowledged_of_retry {reason : Reason} (h : q.retries < (c.probe q.probe).nakRetries) :
    Run.Opened c n { q with retries := q.retries + 1 } r (r.notAcknowledged c n reason q) := by
  unfold Run.notAcknowledged
  dsimp only
  rw [if_pos h]
  exact (Run.opened_openOnLane c n _ _).of_closed

theorem Run.notAcknowledged_of_last {reason : Reason} (h : (c.probe q.probe).nakRetries ≤ q.retries) :
    r.notAcknowledged c n reason q
      = ((r.closeOnLane n).modProbe q.probe fun x => { x with needsInit := true }).endPoll c n q.probe (.failure reason none) := by
  unfold Run.notAcknowledged
  dsimp only
  rw [if_neg (Nat.not_lt.mpr h)]

/-- NOT_ACKNOWLEDGE in INIT and in READ (R129). -/
theorem exec_notAcknowledge {s : State} (live : s.inReset = false) :
    (¬(s.run.lane n).inPhase .init → ¬(s.run.lane n).inPhase .read → exec (.notAcknowledge n) s = .next s)
      ∧ ∀ q, (s.run.lane n).poll = .poll q → q.phase = .init ∨ q.phase = .read →
          exec (.notAcknowledge n) s
            = .next (s.after (s.run.notAcknowledged s.cfg n (if q.phase = .init then .nakInit else .nakRead) q)) := by
  have event : exec (.notAcknowledge n) s
      = s.runEvent ((s.run.pollIn n .init).isSome || (s.run.pollIn n .read).isSome) fun c r =>
          if (r.pollIn n .init).isSome then r.withPoll n .init (fun p r => r.notAcknowledged c n .nakInit p)
          else r.withPoll n .read (fun p r => r.notAcknowledged c n .nakRead p) := rfl
  refine ⟨fun noInit noRead => ?_, fun q poll phase => ?_⟩
  · rw [event]
    refine State.runEvent_not (.inr ?_)
    rw [Run.pollIn_of_other noInit, Run.pollIn_of_other noRead]
    rfl
  · rw [event]
    rcases phase with init | read
    · have here := Run.pollIn_of_phase poll init
      rw [State.runEvent_after live (by rw [here]; rfl), if_pos (by rw [here]; rfl), if_pos init, Run.withPoll_of_phase poll init]
    · have here := Run.pollIn_of_phase poll read
      have elsewhere : s.run.pollIn n .init = none := by
        refine Run.pollIn_of_other fun ⟨u, hu, init⟩ => ?_
        obtain rfl := InProgress.poll.inj (poll.symm.trans hu)
        exact nomatch read.symm.trans init
      rw [State.runEvent_after live (by rw [here, elsewhere]; rfl), if_neg (by rw [elsewhere]; exact nofun),
        if_neg (by rw [read]; exact nofun), Run.withPoll_of_phase poll read]

/-! ## The outcome of a reading (R128, R130, R131) -/

theorem waitOutcome_eq (m : ProbeMode) : waitOutcome m = if m = .self then .success .cool none else .failure .noReady none := by
  cases m <;> rfl

theorem decodeReading_eq (f : Format) (raw : Nat) :
    decodeReading f raw = if f = .s16 ∧ 32768 ≤ raw then (raw : Int) - 65536 else raw := by
  cases f with
  | u8 => exact (if_neg fun h => nomatch h.1).symm
  | u16 => exact (if_neg fun h => nomatch h.1).symm
  | s16 =>
    show (if raw < 32768 then (raw : Int) else raw - 65536) = _
    by_cases big : 32768 ≤ raw
    · rw [if_neg (Nat.not_lt.mpr big), if_pos ⟨rfl, big⟩]
    · rw [if_pos (Nat.lt_of_not_le big), if_neg fun h => big h.2]

/-- The value and the outcome of a reading, byte by byte. -/
theorem classify_rawReading (x : ProbeCfg) (b0 b1 : Byte) :
    let high := if x.swap then b1 else b0
    let low := if x.swap then b0 else b1
    let raw := if x.format = .u8 then b0.toNat else high.toNat * 256 + low.toNat
    let value : Int := if x.format = .s16 ∧ 32768 ≤ raw then (raw : Int) - 65536 else raw
    classify x (rawReading x b0 b1)
      = (if value < x.underLimit ∨ x.upperLimit < value then .failure .implausible (some raw)
          else if x.hotOver ≤ value then .success .hot (some value)
          else if x.warmOver ≤ value then .success .warm (some value)
          else .success .cool (some value)) := by
  intro high low raw value
  have raw_eq : rawReading x b0 b1 = raw := by
    unfold rawReading
    simp only [raw, high, low]
    cases x.format <;> cases x.swap <;> rfl
  have value_eq : decodeReading x.format raw = value := decodeReading_eq x.format raw
  unfold classify
  dsimp only
  rw [raw_eq, value_eq]

end Effects

end Sys2Proof.Machine
end

section
open Sys2Proof Sys2Proof.Machine

/-- Settles O57: the transactions from the script's pairs and their groups; the bus steps on the pins by the waits and samples of
their nine bits; and the lane's record at each event of a phase. -/
theorem pollsGoFromPhaseToPhase : Obligations.PollsGoFromPhaseToPhase := by
  refine ⟨fun c p => ?_, fun bits steps later length held => ?_, fun steps held later scl sda => ?_, fun n s live => ?_⟩
  · intro x pairs write read body
    obtain ⟨flat, full, rise, broken⟩ := groupPairs_spec pairs
    refine ⟨scriptPairs_length c p, fun j => scriptPairs_get, initTransactions_of_single, fun seq => ?_, readTransaction_eq x,
      fun readings bytes => hear_readTransaction, fun q own => ?_⟩
    · refine ⟨groupPairs pairs, (initTransactions_of_seq seq).trans ?_, flat, full, fun g hg j a b => chained_get (rise g hg),
        fun j g h a b hg hh => chained_get broken hg hh a b⟩
      rw [List.map_congr_left fun g hg => groupSteps_of_ne (full g hg)]
    · subst own
      unfold Poll.openTransaction
      cases q.phase <;> rfl
  · intro readings samples
    refine ⟨fun b low => ?_, fun b high => ?_, fun a b byte => ?_⟩
    · have other : ¬samples[8]? = some .high := by
        rw [low]
        exact nofun
      exact (hear_send length held steps later b).trans (if_neg other)
    · exact (hear_send length held steps later b).trans (if_pos high)
    · refine (hear_receive length held steps later a).trans ?_
      rw [byteRead_bits byte]
      cases hear steps later <;> rfl
  · exact ⟨fun busy => ⟨(hear_start busy steps).1, (hear_start busy steps).2 later⟩,
      fun low => ⟨hear_repeatedStart low sda steps later, fun waits k => hear_stop low k sda scl steps later⟩,
      fun low some => hear_of_held low some, fun low stops => hear_of_sda_held low stops, rfl⟩
  · intro r₀ y opened closed phaseOf
    refine ⟨fun q poll => ?_, (State.phaseEvent (effect := fun c p r => r.initEnds c n p) live).1, (exec_notAcknowledge live).1,
      (State.phaseEvent (effect := fun c p r => r.beginWaitOrRead c n p.probe) live).1,
      (State.phaseEvent (effect := fun c p r => r.endPoll c n p.probe (waitOutcome (c.probe p.probe).mode)) live).1,
      fun out b0 b1 => (State.phaseEvent (effect := fun c p r => (r.closeOnLane n).endPoll c n p.probe
        (classify (c.probe p.probe) (rawReading (c.probe p.probe) b0 b1))) live).1 out,
      fun q t begun readings busy poll opens => ?_⟩
    · intro x first count
      have initEnd (init : q.phase = .init) : exec (.initTransactionEnd n) s = .next (s.after (r₀.initEnds s.cfg n q)) :=
        (State.phaseEvent (effect := fun c p r => r.initEnds c n p) live).2 q poll init
      have refused (phase : q.phase = .init ∨ q.phase = .read) := (exec_notAcknowledge live).2 q poll phase
      have settled (settle : q.phase = .settle) : exec (.settleExpiry n) s = .next (s.after (r₀.beginWaitOrRead s.cfg n q.probe)) :=
        (State.phaseEvent (effect := fun c p r => r.beginWaitOrRead c n p.probe) live).2 q poll settle
      refine ⟨fun init more => ?_, fun init last => ?_, fun phase more => ?_, fun phase last => ?_, fun settle => ?_, fun wait => ?_,
        fun read b0 b1 => ?_⟩
      · have h := Run.initEnds_of_more (c := s.cfg) (n := n) (r := r₀) more
        exact ⟨_, initEnd init, h.effect, h.probes⟩
      · have whole := Run.initEnds_of_last (c := s.cfg) (n := n) (r := r₀) last
        refine ⟨_, initEnd init, Run.initEnds_probe last, fun settles => ?_, fun none waits => ?_, fun none direct => ?_⟩
        · rw [whole, if_pos settles]
          exact Run.setPoll_initialized ..
        · rw [whole, if_neg (by rw [none]; exact Nat.lt_irrefl 0), Run.beginWaitOrRead_of_waits waits]
          exact Run.setPoll_initialized ..
        · rw [whole, if_neg (by rw [none]; exact Nat.lt_irrefl 0)]
          exact (Run.beginWaitOrRead_of_direct direct).of_initialized
      · have h := Run.notAcknowledged_of_retry (c := s.cfg) (n := n) (r := r₀) (reason := if q.phase = .init then .nakInit else .nakRead) more
        exact ⟨_, refused phase, h.effect, h.probes⟩
      · exact (refused phase).trans (congrArg (fun r => Host.Outcome.next (s.after r)) (Run.notAcknowledged_of_last last))
      · refine ⟨_, settled settle, Run.beginWaitOrRead_probes .., fun waits => ?_, fun direct => ?_⟩
        · rw [Run.beginWaitOrRead_of_waits waits]
          exact Run.modLane_lane_self ..
        · exact (Run.beginWaitOrRead_of_direct direct).effect
      · have event := (State.phaseEvent (effect := fun c p r => r.endPoll c n p.probe (waitOutcome (c.probe p.probe).mode)) live).2
          q poll wait
        rw [waitOutcome_eq] at event
        exact event
      · have event := (State.phaseEvent (effect := fun c p r => (r.closeOnLane n).endPoll c n p.probe
          (classify (c.probe p.probe) (rawReading (c.probe p.probe) b0 b1))) live).2 q poll read
        rw [classify_rawReading] at event
        exact event
    · have hears := State.laneHears_of_poll live busy poll opens begun readings
      refine ⟨fun e => ?_, fun e => ?_, fun bytes e init => ?_, fun b0 rest e read => ?_⟩
      · exact hears.trans (by rw [e]; rfl)
      · exact hears.trans (by rw [e]; rfl)
      · refine hears.trans ?_
        rw [e, init]
        rfl
      · refine hears.trans ?_
        rw [e, read]
        cases rest <;> rfl
end

section
/-! SUPPORT. The alert lines: edges, widths and marks (R96 to R102). -/

namespace Sys2Proof.Machine

open Sys2Proof

/-! ## The ms tick of an assertion (R99 to R101) -/

theorem State.refclk_alert {s : State} (h : s.msTicks) (i : Sled) :
    ∃ k, s.refclk.run.alert i = Alert.msTick s.cfg.globals { s.run.alert i with run := k } := by
  have sled := s.refclk_sled i
  dsimp only at sled
  rw [if_pos h] at sled
  by_cases t : s.tTicks
  · rw [if_pos t, Alert.tick_eq] at sled
    exact ⟨_, congrArg SledRun.alert sled⟩
  · rw [if_neg t] at sled
    exact ⟨_, congrArg SledRun.alert sled⟩

theorem Alert.nearsMark_iff (g : Globals) (a : Alert) :
    a.nearsMark g = true ↔ a.sustained = false ∧ g.sustainMs ≤ a.width + 1 ∨ a.stuck = false ∧ g.stuckMs ≤ a.width + 1 := by
  simp [Alert.nearsMark]

/-- The tick of an assertion, by what it brings (R99; assumption 24). -/
theorem Alert.msTick_of (g : Globals) (a : Alert) :
    (a.filtered = false → a.msTick g = a)
      ∧ (a.filtered = true → a.nearsMark g = false →
          a.msTick g =
            { a with
              width := if a.width < 4294967295 then a.width + 1 else a.width
              total := if a.total < 4294967295 then a.total + 1 else a.total })
      ∧ (a.filtered = true → a.nearsMark g = true → a.msTick g = { a with tickOwed := true }) := by
  unfold Alert.msTick
  refine ⟨fun low => if_neg (by rw [low]; exact Bool.false_ne_true), fun filtered far => ?_, fun filtered near => ?_⟩
  · rw [if_pos filtered, if_neg (by rw [far]; exact Bool.false_ne_true)]
    rfl
  · rw [if_pos filtered, if_pos near]

theorem sustainReached_mem_due {s : State} (h : s.msTicks) (i : Sled) :
    .sustainReached i ∈ s.refclk.due
      ↔ (s.refclk.run.alert i).filtered = true ∧ (s.refclk.run.alert i).sustained = false ∧ (s.refclk.run.alert i).tickOwed = true
        ∧ s.cfg.globals.sustainMs ≤ (s.refclk.run.alert i).width + 1 := by
  rw [State.refclk_mem_due_of_ms (by simp [mem_tEvents]) (by simp [msEvents, allSleds])]
  simp [h, isDue, Run.canSustain, and_assoc]

theorem stuckReached_mem_due {s : State} (h : s.msTicks) (i : Sled) :
    .stuckReached i ∈ s.refclk.due
      ↔ (s.refclk.run.alert i).filtered = true ∧ (s.refclk.run.alert i).stuck = false ∧ (s.refclk.run.alert i).tickOwed = true
        ∧ s.cfg.globals.stuckMs ≤ (s.refclk.run.alert i).width + 1 := by
  rw [State.refclk_mem_due_of_ms (by simp [mem_tEvents]) (by simp [msEvents, allSleds])]
  simp [h, isDue, Run.canStick, and_assoc]

/-- What a period with an ms tick makes of an assertion's width, its total and what is owed (R99; assumption 24). -/
theorem State.refclk_width {s : State} (h : s.msTicks) (i : Sled) (sustains sticks : Prop)
    (h1 : sustains ↔ (s.run.alert i).sustained = false ∧ s.cfg.globals.sustainMs ≤ (s.run.alert i).width + 1)
    (h2 : sticks ↔ (s.run.alert i).stuck = false ∧ s.cfg.globals.stuckMs ≤ (s.run.alert i).width + 1) :
    ((s.run.alert i).filtered = false →
        (s.refclk.run.alert i).width = (s.run.alert i).width ∧ (s.refclk.run.alert i).total = (s.run.alert i).total
          ∧ (s.refclk.run.alert i).tickOwed = (s.run.alert i).tickOwed)
      ∧ ((s.run.alert i).filtered = true → ¬sustains → ¬sticks →
          (s.refclk.run.alert i).width = (if (s.run.alert i).width < 4294967295 then (s.run.alert i).width + 1 else (s.run.alert i).width)
            ∧ (s.refclk.run.alert i).total = (if (s.run.alert i).total < 4294967295 then (s.run.alert i).total + 1 else (s.run.alert i).total)
            ∧ (s.refclk.run.alert i).tickOwed = (s.run.alert i).tickOwed)
      ∧ ((s.run.alert i).filtered = true → sustains ∨ sticks →
          (s.refclk.run.alert i).width = (s.run.alert i).width ∧ (s.refclk.run.alert i).total = (s.run.alert i).total
            ∧ (s.refclk.run.alert i).tickOwed = true
            ∧ (.sustainReached i ∈ s.refclk.due ↔ sustains) ∧ (.stuckReached i ∈ s.refclk.due ↔ sticks)) := by
  rw [sustainReached_mem_due h i, stuckReached_mem_due h i]
  obtain ⟨k, after⟩ := State.refclk_alert h i
  have near : Alert.nearsMark s.cfg.globals { s.run.alert i with run := k } = true ↔ sustains ∨ sticks := by
    rw [h1, h2]
    exact Alert.nearsMark_iff ..
  obtain ⟨low, far, close⟩ := Alert.msTick_of s.cfg.globals { s.run.alert i with run := k }
  rw [after]
  refine ⟨fun filtered => ?_, fun filtered n1 n2 => ?_, fun filtered marks => ?_⟩
  · rw [low filtered]
    exact ⟨rfl, rfl, rfl⟩
  · rw [far filtered (Bool.eq_false_iff.mpr (mt near.mp (not_or.mpr ⟨n1, n2⟩)))]
    exact ⟨rfl, rfl, rfl⟩
  · rw [close filtered (near.mpr marks), h1, h2]
    exact ⟨rfl, rfl, rfl, ⟨fun ⟨_, a, _, b⟩ => ⟨a, b⟩, fun ⟨a, b⟩ => ⟨filtered, a, rfl, b⟩⟩,
      ⟨fun ⟨_, a, _, b⟩ => ⟨a, b⟩, fun ⟨a, b⟩ => ⟨filtered, a, rfl, b⟩⟩⟩

/-! ## The marks (R100, R101) -/

section Marks
variable {c : Cfg} {i : Sled} {r : Run} {a : Alert}

/-- The alert record replaced. -/
def Run.setAlert (i : Sled) (a : Alert) (r : Run) : Run := r.modAlert i fun _ => a

theorem Run.setAlert_alert : (r.setAlert i a).alert i = a := Run.modAlert_alert_self ..

/-- The sustained mark set and handed on by role (R98, R100). -/
def Run.sustains (c : Cfg) (i : Sled) (r : Run) : Run :=
  if (c.sled i).alertRole = .heat then (r.modAlert i fun a => { a with sustained := true }).evaluate c i
  else r.modAlert i fun a => { a with sustained := true }

theorem Run.markSustained_eq : r.markSustained c i = r.sustains c i := by
  unfold Run.markSustained Run.sustains
  dsimp only
  cases (c.sled i).alertRole <;> rfl

/-- The stuck mark set, and ALERT_STUCK raised by role (R101). -/
def Run.sticks (c : Cfg) (i : Sled) (count : Nat) (r : Run) : Run :=
  if (c.sled i).alertRole = .none then r.modAlert i fun a => { a with stuck := true }
  else (r.modAlert i fun a => { a with stuck := true }).raise c .alertStuck (.sled i) count

theorem Run.markStuck_eq : r.markStuck c i = r.sticks c i (r.alert i).count := by
  unfold Run.markStuck Run.sticks
  dsimp only
  rw [Run.modAlert_alert_self]
  cases (c.sled i).alertRole <;> rfl

theorem Run.sustains_alert : (r.sustains c i).alert i = { r.alert i with sustained := true } := by
  have marked : (r.modAlert i fun a => { a with sustained := true }).alert i = { r.alert i with sustained := true } :=
    Run.modAlert_alert_self ..
  unfold Run.sustains
  split
  · exact ((Run.Quiet.evaluate c i _).alert i).trans marked
  · exact marked

theorem Run.sticks_alert {k : Nat} : (r.sticks c i k).alert i = { r.alert i with stuck := true } := by
  have marked : (r.modAlert i fun a => { a with stuck := true }).alert i = { r.alert i with stuck := true } :=
    Run.modAlert_alert_self ..
  unfold Run.sticks
  split
  · exact marked
  · exact ((Run.Quiet.raise c _ _ _ _).alert i).trans marked

theorem Alert.stuckDue_iff (g : Globals) (a : Alert) : a.stuckDue g = true ↔ a.filtered = true ∧ a.stuck = false ∧ g.stuckMs ≤ a.width := by
  simp [Alert.stuckDue, and_assoc]

theorem Alert.sustainDue_iff (g : Globals) (a : Alert) :
    a.sustainDue g = true ↔ a.filtered = true ∧ a.sustained = false ∧ g.sustainMs ≤ a.width := by
  simp [Alert.sustainDue, and_assoc]

/-- An assertion comes to `sustain_ms`, and with it to `stuck_ms` where that is reached too (assumption 24). -/
theorem Run.sustain_eq (filtered : (r.alert i).filtered = true) :
    r.sustain c i
      = if (r.alert i).stuck = false ∧ c.globals.stuckMs ≤ max (r.alert i).width c.globals.sustainMs then
          ((r.setAlert i ((r.alert i).reach c.globals.sustainMs)).sustains c i).sticks c i (r.alert i).count
        else (r.setAlert i ((r.alert i).reach c.globals.sustainMs)).sustains c i := by
  have reached : r.modAlert i (fun a => a.reach c.globals.sustainMs) = r.setAlert i ((r.alert i).reach c.globals.sustainMs) :=
    Run.modAlert_congr rfl
  have alert := Run.sustains_alert (c := c) (i := i) (r := r.setAlert i ((r.alert i).reach c.globals.sustainMs))
  rw [Run.setAlert_alert] at alert
  have due : (Alert.stuckDue c.globals { (r.alert i).reach c.globals.sustainMs with sustained := true }) = true
      ↔ (r.alert i).stuck = false ∧ c.globals.stuckMs ≤ max (r.alert i).width c.globals.sustainMs :=
    (Alert.stuckDue_iff ..).trans (and_iff_right filtered)
  unfold Run.sustain
  dsimp only
  rw [reached, Run.markSustained_eq, Run.markStuck_eq, alert]
  simp only [due]
  rfl

theorem Run.stick_eq (filtered : (r.alert i).filtered = true) :
    r.stick c i
      = if (r.alert i).sustained = false ∧ c.globals.sustainMs ≤ max (r.alert i).width c.globals.stuckMs then
          ((r.setAlert i ((r.alert i).reach c.globals.stuckMs)).sticks c i (r.alert i).count).sustains c i
        else (r.setAlert i ((r.alert i).reach c.globals.stuckMs)).sticks c i (r.alert i).count := by
  have reached : r.modAlert i (fun a => a.reach c.globals.stuckMs) = r.setAlert i ((r.alert i).reach c.globals.stuckMs) :=
    Run.modAlert_congr rfl
  have alert := Run.sticks_alert (c := c) (i := i) (r := r.setAlert i ((r.alert i).reach c.globals.stuckMs)) (k := (r.alert i).count)
  rw [Run.setAlert_alert] at alert
  have due : (Alert.sustainDue c.globals { (r.alert i).reach c.globals.stuckMs with stuck := true }) = true
      ↔ (r.alert i).sustained = false ∧ c.globals.sustainMs ≤ max (r.alert i).width c.globals.stuckMs :=
    (Alert.sustainDue_iff ..).trans (and_iff_right filtered)
  have count : ((r.setAlert i ((r.alert i).reach c.globals.stuckMs)).alert i).count = (r.alert i).count :=
    (congrArg Alert.count Run.setAlert_alert).trans rfl
  unfold Run.stick
  dsimp only
  rw [reached, Run.markStuck_eq, count, alert, Run.markSustained_eq]
  simp only [due]

end Marks

/-! ## Edges (R97 to R99, R102) -/

section Edges
variable {c : Cfg} {i : Sled} {r : Run} {a : Alert}

/-- An edge handed on to a HEAT line's sled (R98). -/
def Run.handEdge (c : Cfg) (i : Sled) (a : Alert) (r : Run) : Run :=
  if (c.sled i).alertRole = .heat then (r.setAlert i a).evaluate c i else r.setAlert i a

theorem Run.acceptSample_eq :
    r.acceptSample i c
      = (r.setAlert i { r.alert i with run := max (r.alert i).run c.globals.alertFilter, accepted := (r.alert i).lastSample }).followAlert
          c i :=
  congrArg (Run.followAlert c i) ((r.modAlert_modAlert i _ _).trans (Run.modAlert_congr rfl))

theorem Run.setAlert_level :
    (r.setAlert i a).alertLevel c i = ((r.life i).state.inService && decide (a.accepted ≠ (c.sled i).alertPolarity.deasserted)) := by
  have life : (r.setAlert i a).life i = r.life i := Run.modAlert_life ..
  unfold Run.alertLevel
  rw [Run.setAlert_alert, life]
  have asserts (p : Polarity) (l : Pin) : p.asserts l = decide (l ≠ p.deasserted) := by
    cases p <;> cases l <;> rfl
  rw [asserts]

theorem Run.followAlert_of_same (h : r.alertLevel c i = (r.alert i).filtered) : r.followAlert c i = r := by
  unfold Run.followAlert
  rw [h]
  cases (r.alert i).filtered <;> rfl

theorem Run.followAlert_of_falls (h : (r.setAlert i a).alertLevel c i = false) (k : a.filtered = true) :
    (r.setAlert i a).followAlert c i = r.handEdge c i a.endAssertion := by
  have edge : (r.setAlert i a).modAlert i Alert.endAssertion = r.setAlert i a.endAssertion := r.modAlert_modAlert i _ _
  unfold Run.followAlert
  rw [h, Run.setAlert_alert, k]
  dsimp only
  unfold Run.deassertingEdge Run.handEdge
  dsimp only
  rw [edge]
  cases (c.sled i).alertRole <;> rfl

/-- An asserting edge is handed on by role; a READY line's is offered to the lane (R98, R102). -/
theorem Run.followAlert_of_rises (h : (r.setAlert i a).alertLevel c i = true) (k : a.filtered = false) :
    (r.setAlert i a).followAlert c i
      = if (c.sled i).alertRole = .ready then (r.handEdge c i (a.beginAssertion r.clock.stamp)).offerReady c i
        else r.handEdge c i (a.beginAssertion r.clock.stamp) := by
  have edge : (r.setAlert i a).modAlert i (fun x => x.beginAssertion (r.setAlert i a).clock.stamp)
      = r.setAlert i (a.beginAssertion r.clock.stamp) := r.modAlert_modAlert i _ _
  unfold Run.followAlert
  rw [h, Run.setAlert_alert, k]
  dsimp only
  unfold Run.assertingEdge Run.handEdge
  dsimp only
  rw [edge]
  cases (c.sled i).alertRole <;> rfl

theorem Run.offerReady_of_none
    (h : ∀ q, (r.lane (laneOfSled i)).poll = .poll q → sledOfProbe q.probe = i → q.phase ≠ .wait) : r.offerReady c i = r := by
  unfold Run.offerReady Run.pollOfSled
  cases poll : (r.lane (laneOfSled i)).poll with
  | absent => rfl
  | aborting => rfl
  | poll q =>
    by_cases own : sledOfProbe q.probe = i
    · simp only [if_pos own]
      exact if_neg (by simpa using h q poll own)
    · simp only [if_neg own]

theorem Run.offerReady_of_wait {q : Poll} (poll : (r.lane (laneOfSled i)).poll = .poll q) (own : sledOfProbe q.probe = i)
    (wait : q.phase = .wait) : r.offerReady c i = r.readyAssertion c (laneOfSled i) q.probe := by
  unfold Run.offerReady Run.pollOfSled
  rw [poll]
  simp only [if_pos own]
  exact if_pos (by simp [wait])

theorem Run.readyAssertion_eq {n : LaneNo} {p : Probe} :
    r.readyAssertion c n p
      = if (c.probe p).mode = .self then r.endPoll c n p (.success (c.probe p).selfClass none) else r.beginRead c n p := by
  unfold Run.readyAssertion
  cases (c.probe p).mode <;> rfl

theorem Run.handEdge_lanes : (r.handEdge c i a).lanes = r.lanes := by
  unfold Run.handEdge
  split
  · rw [Run.evaluate_lanes]
    rfl
  · rfl

end Edges

end Sys2Proof.Machine
end

section
open Sys2Proof Sys2Proof.Machine

/-- Settles O55: the accepted level makes one edge or none, handed on by role; the tick of an assertion stops at a mark; and each
mark's event brings the other along where its limit is reached too. -/
theorem alertLinesAreFollowed : Obligations.AlertLinesAreFollowed := by
  refine ⟨fun i s live => ?_, fun i s ticks => ?_, fun i s live => ?_⟩
  · intro r₀ a x b level handed
    have moves : r₀.alertMoves i = true ↔ a.lastSample ≠ a.accepted := bne_iff_ne
    have accepted (u : Run) (h : a.lastSample ≠ a.accepted) (e : (r₀.setAlert i b).followAlert s.cfg i = u) :
        exec (.alertLevelAccepted i) s = .next (s.after u) :=
      e ▸ (State.runEvent_after (f := Run.acceptSample i) live (moves.mpr h)).trans
        (congrArg (fun r => Host.Outcome.next (s.after r)) Run.acceptSample_eq)
    have level_eq : (r₀.setAlert i b).alertLevel s.cfg i = level := Run.setAlert_level
    refine ⟨fun same => ?_, fun h same => ?_, fun h high low => ?_, fun h low high => ?_⟩
    · exact State.runEvent_not (f := Run.acceptSample i) (.inr (Bool.eq_false_iff.mpr (mt moves.mp (Classical.not_not.mpr same))))
    · refine accepted _ h (Run.followAlert_of_same (level_eq.trans ?_))
      rw [Run.setAlert_alert]
      exact same
    · intro c
      have rises := Run.followAlert_of_rises (c := s.cfg) (i := i) (r := r₀) (a := b) (level_eq.trans high) low
      have lane : (r₀.handEdge s.cfg i c).lane (laneOfSled i) = r₀.lane (laneOfSled i) :=
        congrArg (fun v : Vector Lane _ => v.get (laneOfSled i)) Run.handEdge_lanes
      refine ⟨fun role => accepted _ h (rises.trans ?_), fun role busy => accepted _ h (rises.trans ?_),
        fun q role poll own wait => accepted _ h (rises.trans ?_)⟩
      · exact if_neg role
      · refine (if_pos role).trans (Run.offerReady_of_none fun q poll own => busy q ?_ own)
        rw [← lane]
        exact poll
      · exact (if_pos role).trans
          ((Run.offerReady_of_wait ((congrArg Lane.poll lane).trans poll) own wait).trans Run.readyAssertion_eq)
    · exact accepted _ h (Run.followAlert_of_falls (level_eq.trans low) high)
  · intro a b g sustains sticks
    exact State.refclk_width ticks i sustains sticks Iff.rfl Iff.rfl
  · intro r₀ a role g widened sustain stick
    have canSustain : r₀.canSustain i = true ↔ a.filtered = true ∧ a.sustained = false := by
      simp [Run.canSustain, a]
    have canStick : r₀.canStick i = true ↔ a.filtered = true ∧ a.stuck = false := by
      simp [Run.canStick, a]
    refine ⟨fun out => ?_, fun filtered free => ?_, fun out => ?_, fun filtered free => ?_⟩
    · refine State.runEvent_not (f := fun c r => r.sustain c i) (.inr (Bool.eq_false_iff.mpr (mt canSustain.mp fun h => ?_)))
      rcases out with low | marked
      · exact nomatch low.symm.trans h.1
      · exact nomatch marked.symm.trans h.2
    · exact (State.runEvent_after (f := fun c r => r.sustain c i) live (canSustain.mpr ⟨filtered, free⟩)).trans
        (congrArg (fun r => Host.Outcome.next (s.after r)) (Run.sustain_eq filtered))
    · refine State.runEvent_not (f := fun c r => r.stick c i) (.inr (Bool.eq_false_iff.mpr (mt canStick.mp fun h => ?_)))
      rcases out with low | marked
      · exact nomatch low.symm.trans h.1
      · exact nomatch marked.symm.trans h.2
    · exact (State.runEvent_after (f := fun c r => r.stick c i) live (canStick.mpr ⟨filtered, free⟩)).trans
        (congrArg (fun r => Host.Outcome.next (s.after r)) (Run.stick_eq filtered))
end

section
/-! SUPPORT. A sled's probes leave service (R68, R114 to R116). -/

namespace Sys2Proof.Machine

open Sys2Proof

theorem sledOfProbe_iff {p : Probe} {i : Sled} : sledOfProbe p = i ↔ p = probeA i ∨ p = probeB i := by
  simp only [sledOfProbe, probeA, probeB, Fin.ext_iff]
  omega

theorem laneOfProbe_of_sled {p : Probe} {i : Sled} (h : sledOfProbe p = i) : laneOfProbe p = laneOfSled i := by
  simp only [sledOfProbe, laneOfProbe, laneOfSled, Fin.ext_iff] at h ⊢
  omega

/-- The lane's queue without the sled's probes. -/
def Lane.without (i : Sled) (y : Lane) : Lane := { y with queue := y.queue.filter fun p => p != probeA i && p != probeB i }

/-- A probe out of its lane's queue. -/
def ProbeRun.unqueued (x : ProbeRun) : ProbeRun := { x with run := if x.run = .queued then .idle else x.run }

/-- The sled's probes out of the queue (R114). -/
def Run.unqueued (i : Sled) (r : Run) : Run := (r.unqueue (probeA i)).unqueue (probeB i)

theorem Run.unqueued_lane (i : Sled) (r : Run) (m : LaneNo) :
    (r.unqueued i).lane m = if m = laneOfSled i then (r.lane (laneOfSled i)).without i else r.lane m := by
  have a := laneOfProbe_of_sled (sledOfProbe_iff.mpr (.inl rfl) : sledOfProbe (probeA i) = i)
  have b := laneOfProbe_of_sled (sledOfProbe_iff.mpr (.inr rfl) : sledOfProbe (probeB i) = i)
  unfold Run.unqueued Run.unqueue
  rw [a, b, Run.modProbe_lane, Run.modLane_lane, Run.modProbe_lane, Run.modLane_lane_self, Run.modProbe_lane, Run.modLane_lane]
  split
  · unfold Lane.without
    rw [List.filter_filter]
    simp only [Bool.and_comm]
  · rfl

theorem Run.unqueued_probe (i : Sled) (r : Run) (p : Probe) :
    (r.unqueued i).probe p = if sledOfProbe p = i then (r.probe p).unqueued else r.probe p := by
  have ne : probeA i ≠ probeB i := by simp [probeA, probeB, Fin.ext_iff]
  have same (x : ProbeRun) : { x with run := if x.run == .queued then .idle else x.run } = x.unqueued := by
    unfold ProbeRun.unqueued
    simp only [beq_iff_eq]
  unfold Run.unqueued Run.unqueue
  rw [Run.modProbe_probe, Run.modLane_probe, Run.modLane_probe, Run.modProbe_probe, Run.modProbe_probe, Run.modLane_probe,
    Run.modLane_probe, same, same]
  by_cases b : p = probeB i
  · rw [if_pos b, if_neg ne.symm, if_pos (sledOfProbe_iff.mpr (.inr b)), b]
  · by_cases a : p = probeA i
    · rw [if_neg b, if_pos a, if_pos (sledOfProbe_iff.mpr (.inl a)), a]
    · rw [if_neg b, if_neg a, if_neg (mt sledOfProbe_iff.mp (not_or.mpr ⟨a, b⟩)), Run.modLane_probe]

/-- The sled's health records forgotten and its timers stopped (R68). -/
def Run.forgotten (i : Sled) (r : Run) : Run :=
  [probeA i, probeB i].foldl (fun r p => r.modProbe p fun x => { x.forget with due := none }) r

theorem Run.forgotten_probe (i : Sled) (r : Run) (p : Probe) :
    (r.forgotten i).probe p = if sledOfProbe p = i then { (r.probe p).forget with due := none } else r.probe p := by
  have ne : probeA i ≠ probeB i := by simp [probeA, probeB, Fin.ext_iff]
  unfold Run.forgotten
  rw [List.foldl_cons, List.foldl_cons, List.foldl_nil, Run.modProbe_probe, Run.modProbe_probe, Run.modProbe_probe]
  by_cases b : p = probeB i
  · rw [if_pos b, if_neg ne.symm, if_pos (sledOfProbe_iff.mpr (.inr b)), b]
  · by_cases a : p = probeA i
    · rw [if_neg b, if_pos a, if_pos (sledOfProbe_iff.mpr (.inl a)), a]
    · rw [if_neg b, if_neg a, if_neg (mt sledOfProbe_iff.mp (not_or.mpr ⟨a, b⟩))]

theorem Run.forgotten_lane (i : Sled) (r : Run) (m : LaneNo) : (r.forgotten i).lane m = r.lane m := rfl

/-! ## The abort of the sled's own poll (R116) -/

/-- Whether the poll in progress on a lane is one of sled `i`'s. -/
def Lane.polls (y : Lane) (i : Sled) : Prop := ∃ q, y.poll = .poll q ∧ sledOfProbe q.probe = i

section Abort
variable {c : Cfg} {i : Sled} {n : LaneNo} {r : Run} {q : Poll}

theorem Run.dropProbes_of_other (h : ¬(r.lane (laneOfSled i)).polls i) : r.dropProbes c i = (r.unqueued i).forgotten i := by
  have none : ((r.unqueued i).pollOfSled (laneOfSled i) i).isSome = false := by
    unfold Run.pollOfSled
    rw [Run.unqueued_lane, if_pos rfl]
    unfold Lane.without
    dsimp only
    cases poll : (r.lane (laneOfSled i)).poll with
    | absent => rfl
    | aborting => rfl
    | poll q =>
      dsimp only
      rw [if_neg fun own => h ⟨q, poll, own⟩]
      rfl
  have whole : r.dropProbes c i
      = (if ((r.unqueued i).pollOfSled (laneOfSled i) i).isSome then (r.unqueued i).abortPoll c (laneOfSled i)
          else r.unqueued i).forgotten i := rfl
  rw [whole, none]
  rfl

/-- The sled's probe whose poll is aborted is IDLE (R116). -/
def Run.unpolled (i : Sled) (q : Poll) (r : Run) : Run := (r.unqueued i).modProbe q.probe fun x => { x with run := .idle }

theorem Run.unpolled_lane (m : LaneNo) :
    (r.unpolled i q).lane m = if m = laneOfSled i then (r.lane (laneOfSled i)).without i else r.lane m := r.unqueued_lane i m

theorem Run.unpolled_probe (p : Probe) :
    (r.unpolled i q).probe p = if p = q.probe then { (r.unqueued i).probe p with run := .idle } else (r.unqueued i).probe p := by
  unfold Run.unpolled
  rw [Run.modProbe_probe]
  split
  · next e => rw [e]
  · rfl

theorem Run.dropProbes_of_own (poll : (r.lane (laneOfSled i)).poll = .poll q) (own : sledOfProbe q.probe = i) :
    (q.phase = .init ∨ q.phase = .read →
        r.dropProbes c i = ((r.unpolled i q).modLane (laneOfSled i) fun x => { x with poll := .aborting }).forgotten i)
      ∧ (q.phase = .settle ∨ q.phase = .wait → r.dropProbes c i = ((r.unpolled i q).freeLane c (laneOfSled i)).forgotten i) := by
  have polls : ((r.unqueued i).lane (laneOfSled i)).poll = .poll q := by
    rw [Run.unqueued_lane, if_pos rfl]
    exact poll
  have some : ((r.unqueued i).pollOfSled (laneOfSled i) i).isSome = true := by
    unfold Run.pollOfSled
    rw [polls]
    dsimp only
    rw [if_pos own]
    rfl
  have whole : r.dropProbes c i
      = (if ((r.unqueued i).pollOfSled (laneOfSled i) i).isSome then (r.unqueued i).abortPoll c (laneOfSled i)
          else r.unqueued i).forgotten i := rfl
  rw [whole, if_pos some]
  unfold Run.abortPoll
  rw [polls]
  dsimp only
  constructor
  · rintro (e | e) <;> rw [e] <;> rfl
  · rintro (e | e) <;> rw [e] <;> rfl

end Abort

/-- What becomes of the probes and the lane of a sled that leaves: its probes are IDLE or finish their poll, their records are
forgotten, and the lane goes on without them (R68, R115, R116). -/
structure Run.ProbesDropped (i : Sled) (r t : Run) : Prop where
  own : ∀ p, sledOfProbe p = i →
    t.probe p = { r.probe p with
      run := (t.probe p).run, due := none, health := .unknown, failures := 0, lastReason := none, lastValue := none
      lastClass := none, lastTime := none }
  run : ∀ p, sledOfProbe p = i → (¬∃ q, (r.lane (laneOfSled i)).poll = .poll q ∧ q.probe = p) →
    (t.probe p).run = if (r.probe p).run = .queued then .idle else (r.probe p).run
  idle : ∀ q, (r.lane (laneOfSled i)).poll = .poll q → sledOfProbe q.probe = i → (t.probe q.probe).run = .idle
  keeps : ¬(r.lane (laneOfSled i)).polls i →
    t.lane (laneOfSled i) = (r.lane (laneOfSled i)).without i ∧ ∀ p, sledOfProbe p ≠ i → t.probe p = r.probe p
  aborts : ∀ q, (r.lane (laneOfSled i)).poll = .poll q → sledOfProbe q.probe = i → q.phase = .init ∨ q.phase = .read →
    t.lane (laneOfSled i) = { (r.lane (laneOfSled i)).without i with poll := .aborting }
      ∧ ∀ p, sledOfProbe p ≠ i → t.probe p = r.probe p
  frees : ∀ q, (r.lane (laneOfSled i)).poll = .poll q → sledOfProbe q.probe = i → q.phase = .settle ∨ q.phase = .wait →
    (((r.lane (laneOfSled i)).without i).queue = [] →
        t.lane (laneOfSled i) = { r.lane (laneOfSled i) with state := .idle, poll := .absent, queue := [] }
          ∧ ∀ p, sledOfProbe p ≠ i → t.probe p = r.probe p)
      ∧ ∀ p back, ((r.lane (laneOfSled i)).without i).queue = p :: back →
          (∃ u, (t.lane (laneOfSled i)).poll = .poll u ∧ u.probe = p)
            ∧ (t.lane (laneOfSled i)).state = .busy ∧ (t.lane (laneOfSled i)).queue = back
            ∧ (sledOfProbe p ≠ i → t.probe p = { r.probe p with run := .active })
            ∧ ∀ k, sledOfProbe k ≠ i → k ≠ p → t.probe k = r.probe k
  others : ∀ n, n ≠ laneOfSled i → t.lane n = r.lane n

/-- A probe that is forgotten after its part in the lane is settled. -/
theorem Run.forgotten_own {i : Sled} {r v : Run} (h : ∀ p, sledOfProbe p = i → v.probe p = { r.probe p with run := (v.probe p).run })
    (p : Probe) (own : sledOfProbe p = i) :
    (v.forgotten i).probe p = { r.probe p with
      run := ((v.forgotten i).probe p).run, due := none, health := .unknown, failures := 0, lastReason := none, lastValue := none
      lastClass := none, lastTime := none } := by
  rw [Run.forgotten_probe, if_pos own, h p own]
  rfl

theorem Run.unqueued_own {i : Sled} {r : Run} (p : Probe) (own : sledOfProbe p = i) :
    (r.unqueued i).probe p = (r.probe p).unqueued := (r.unqueued_probe i p).trans (if_pos own)

theorem Run.forgotten_run {i : Sled} {v : Run} (p : Probe) : ((v.forgotten i).probe p).run = (v.probe p).run := by
  rw [Run.forgotten_probe]
  split <;> rfl

theorem Run.forgotten_other {i : Sled} {v : Run} {p : Probe} (h : sledOfProbe p ≠ i) : (v.forgotten i).probe p = v.probe p :=
  (v.forgotten_probe i p).trans (if_neg h)

theorem Run.unqueued_other {i : Sled} {r : Run} {p : Probe} (h : sledOfProbe p ≠ i) : (r.unqueued i).probe p = r.probe p :=
  (r.unqueued_probe i p).trans (if_neg h)

theorem Run.unpolled_other {i : Sled} {q : Poll} {r : Run} {p : Probe} (own : sledOfProbe q.probe = i) (h : sledOfProbe p ≠ i) :
    (r.unpolled i q).probe p = r.probe p := by
  have ne : p ≠ q.probe := fun e => h ((congrArg sledOfProbe e).trans own)
  rw [Run.unpolled_probe, if_neg ne, Run.unqueued_other h]

/-- The sled's probes once its poll is gone. -/
theorem Run.unpolled_own {i : Sled} {q : Poll} {r : Run} (p : Probe) (h : sledOfProbe p = i) :
    (r.unpolled i q).probe p
      = { r.probe p with run := if p = q.probe then .idle else if (r.probe p).run = .queued then .idle else (r.probe p).run } := by
  rw [Run.unpolled_probe, Run.unqueued_own p h]
  split <;> rfl

theorem Run.probesDropped_of_other {c : Cfg} {i : Sled} {r : Run} (h : ¬(r.lane (laneOfSled i)).polls i) :
    Run.ProbesDropped i r (r.dropProbes c i) := by
  rw [Run.dropProbes_of_other h]
  have lane := r.unqueued_lane i
  refine ⟨Run.forgotten_own fun p own => ?_, fun p own _ => ?_, fun q poll own => absurd ⟨q, poll, own⟩ h,
    fun _ => ⟨(lane _).trans (if_pos rfl), fun p other => (Run.forgotten_other other).trans (Run.unqueued_other other)⟩,
    fun q poll own => absurd ⟨q, poll, own⟩ h, fun q poll own => absurd ⟨q, poll, own⟩ h, fun n other => (lane n).trans (if_neg other)⟩
  · rw [Run.unqueued_own p own]
    rfl
  · rw [Run.forgotten_run, Run.unqueued_own p own]
    rfl

theorem Run.probesDropped_of_own {c : Cfg} {i : Sled} {r v : Run} {q : Poll} (poll : (r.lane (laneOfSled i)).poll = .poll q)
    (own : sledOfProbe q.probe = i) (drops : r.dropProbes c i = v.forgotten i)
    (probes : ∀ p, sledOfProbe p = i → v.probe p = (r.unpolled i q).probe p)
    (lanes : ∀ n, n ≠ laneOfSled i → v.lane n = r.lane n)
    (aborts : q.phase = .init ∨ q.phase = .read →
      v.lane (laneOfSled i) = { (r.lane (laneOfSled i)).without i with poll := .aborting }
        ∧ ∀ p, sledOfProbe p ≠ i → v.probe p = r.probe p)
    (frees : q.phase = .settle ∨ q.phase = .wait →
      (((r.lane (laneOfSled i)).without i).queue = [] →
          v.lane (laneOfSled i) = { r.lane (laneOfSled i) with state := .idle, poll := .absent, queue := [] }
            ∧ ∀ p, sledOfProbe p ≠ i → v.probe p = r.probe p)
        ∧ ∀ p back, ((r.lane (laneOfSled i)).without i).queue = p :: back →
            (∃ u, (v.lane (laneOfSled i)).poll = .poll u ∧ u.probe = p)
              ∧ (v.lane (laneOfSled i)).state = .busy ∧ (v.lane (laneOfSled i)).queue = back
              ∧ (sledOfProbe p ≠ i → v.probe p = { r.probe p with run := .active })
              ∧ ∀ k, sledOfProbe k ≠ i → k ≠ p → v.probe k = r.probe k) :
    Run.ProbesDropped i r (r.dropProbes c i) := by
  rw [drops]
  have same {u : Poll} (h : (r.lane (laneOfSled i)).poll = .poll u) : u = q := InProgress.poll.inj (h.symm.trans poll)
  refine ⟨Run.forgotten_own fun p h => ?_, fun p h other => ?_, fun u h _ => ?_, fun h => absurd ⟨q, poll, own⟩ h,
    fun u h _ phase => ?_, fun u h _ phase => ?_, lanes⟩
  · rw [probes p h, Run.unpolled_own p h]
  · rw [Run.forgotten_run, probes p h, Run.unpolled_own p h]
    exact if_neg fun e => other ⟨q, poll, e.symm⟩
  · obtain rfl := same h
    rw [Run.forgotten_run, probes _ own, Run.unpolled_own _ own]
    exact if_pos rfl
  · obtain rfl := same h
    obtain ⟨lane, others⟩ := aborts phase
    exact ⟨lane, fun p out => (Run.forgotten_other out).trans (others p out)⟩
  · obtain rfl := same h
    obtain ⟨empty, served⟩ := frees phase
    refine ⟨fun none => ?_, fun p back queue => ?_⟩
    · obtain ⟨lane, others⟩ := empty none
      exact ⟨lane, fun p out => (Run.forgotten_other out).trans (others p out)⟩
    · obtain ⟨polls, busy, queue, active, others⟩ := served p back queue
      exact ⟨polls, busy, queue, fun out => (Run.forgotten_other out).trans (active out),
        fun k out ne => (Run.forgotten_other out).trans (others k out ne)⟩

/-- The sled's probes leave service (R68, R114 to R116). -/
theorem Run.probesDropped (c : Cfg) (i : Sled) (r : Run) : Run.ProbesDropped i r (r.dropProbes c i) := by
  by_cases polls : (r.lane (laneOfSled i)).polls i
  · obtain ⟨q, poll, own⟩ := polls
    obtain ⟨aborts, frees⟩ := Run.dropProbes_of_own (c := c) poll own
    have lane : (r.unpolled i q).lane (laneOfSled i) = (r.lane (laneOfSled i)).without i := Run.unpolled_lane _ |>.trans (if_pos rfl)
    have elsewhere (n : LaneNo) (other : n ≠ laneOfSled i) : (r.unpolled i q).lane n = r.lane n :=
      (Run.unpolled_lane n).trans (if_neg other)
    by_cases open_ : q.phase = .init ∨ q.phase = .read
    · have closed : ¬(q.phase = .settle ∨ q.phase = .wait) := by
        rcases open_ with e | e <;> rw [e] <;> rintro (k | k) <;> cases k
      refine Run.probesDropped_of_own poll own (aborts open_) (fun p _ => Run.modLane_probe ..)
        (fun n other => (Run.modLane_lane _ _ n _).trans ((if_neg other).trans (elsewhere n other))) (fun _ => ⟨?_, fun p out => ?_⟩)
        fun h => absurd h closed
      · rw [Run.modLane_lane_self, lane]
      · exact (Run.modLane_probe ..).trans (Run.unpolled_other own out)
    · have timed : q.phase = .settle ∨ q.phase = .wait := by
        cases phase : q.phase with
        | init => exact absurd (.inl phase) open_
        | read => exact absurd (.inr phase) open_
        | settle => exact .inl rfl
        | wait => exact .inr rfl
      have drops := frees timed
      cases queue : ((r.lane (laneOfSled i)).without i).queue with
      | nil =>
        have freed := Run.freeLane_of_empty (c := c) ((congrArg Lane.queue lane).trans queue)
        rw [freed] at drops
        refine Run.probesDropped_of_own poll own drops (fun p _ => Run.modLane_probe ..)
          (fun n other => (Run.modLane_lane _ _ n _).trans ((if_neg other).trans (elsewhere n other))) (fun h => absurd h open_)
          fun _ => ⟨fun _ => ⟨?_, fun p out => (Run.modLane_probe ..).trans (Run.unpolled_other own out)⟩, fun p back h => nomatch queue.symm.trans h⟩
        rw [Run.modLane_lane_self, lane, ← queue]
        rfl
      | cons p back =>
        obtain ⟨served, others, probe, -⟩ := Run.laneServed_freeLane (c := c) ((congrArg Lane.queue lane).trans queue)
        have foreign : sledOfProbe p ≠ i := by
          have mem : p ∈ ((r.lane (laneOfSled i)).without i).queue := queue ▸ List.mem_cons_self
          have out := (List.mem_filter.mp mem).2
          rw [Bool.and_eq_true, bne_iff_ne, bne_iff_ne] at out
          exact mt sledOfProbe_iff.mp (not_or.mpr out)
        refine Run.probesDropped_of_own poll own drops
          (fun k h => (probe k).trans (if_neg fun e : k = p => foreign ((congrArg sledOfProbe e).symm.trans h))) (fun n other => (others n other).trans (elsewhere n other))
          (fun h => absurd h open_) fun _ => ⟨fun h => (nomatch queue.symm.trans h), fun k rest h => ?_⟩
        obtain ⟨rfl, rfl⟩ := List.cons.inj (queue.symm.trans h)
        refine ⟨⟨_, congrArg Lane.poll served, rfl⟩, congrArg Lane.state served, congrArg Lane.queue served, fun out => ?_,
          fun k out ne => ?_⟩
        · exact (probe p).trans ((if_pos rfl).trans (by rw [Run.unpolled_other own out]))
        · exact (probe k).trans ((if_neg ne).trans (Run.unpolled_other own out))
  · exact Run.probesDropped_of_other polls

end Sys2Proof.Machine
end

section
/-! SUPPORT. The GONE teardown (R35, R63, R67, R68, R86, R104). -/

namespace Sys2Proof.Machine

open Sys2Proof

theorem Run.modSled_modSled (r : Run) (i : Sled) (f g : SledRun → SledRun) :
    (r.modSled i f).modSled i g = r.modSled i fun x => g (f x) :=
  congrArg (fun v => { r with sleds := v }) (modAt_modAt ..)

/-- The life record of a sled whose slot is empty (R67). -/
def Life.gone (l : Life) : Life :=
  { l with
    state := .absent, admission := none, admitTimeout := false, awaitA := false, awaitB := false, containPending := false }

/-- A removed sled's records, its life, books and channel (R35, R67). -/
def SledRun.gone (c : Cfg) (x : SledRun) : SledRun :=
  { x with life := x.life.gone, books := .initial, chan := x.chan.force c.globals.rampFrames }

/-- The sled's books, channel and places gone, before its probes leave. -/
def Run.gone (c : Cfg) (i : Sled) (r : Run) : Run :=
  ((r.modLife i Life.gone).zeroBooks i).modChan i fun x => x.force c.globals.rampFrames

theorem Run.gone_get (c : Cfg) (i j : Sled) (r : Run) :
    (r.gone c i).sleds.get j = if j = i then (r.sleds.get i).gone c else r.sleds.get j := by
  have whole : (r.gone c i).sleds = (r.modSled i (SledRun.gone c)).sleds := by
    have books : ((r.modLife i Life.gone).modBooks i fun _ => .initial)
        = r.modSled i fun x => { x with life := x.life.gone, books := .initial } := r.modSled_modSled i _ _
    have chan : ((r.modSled i fun x => { x with life := x.life.gone, books := .initial }).modChan i
        fun x => x.force c.globals.rampFrames) = r.modSled i (SledRun.gone c) := r.modSled_modSled i _ _
    rw [← chan, ← books]
    rfl
  rw [whole]
  exact modAt_get i j (SledRun.gone c) r.sleds

theorem Run.gone_frame (c : Cfg) (i : Sled) (r : Run) :
    r.gone c i =
      { r with
        sleds := (r.gone c i).sleds, queue := r.queue.filter fun e => e.sled != i
        raiseOrder := r.raiseOrder.filter fun j => j != i, boostList := r.boostList.filter fun j => j != i
        arbiterDue := r.arbiterDue || decide (0 < (r.books i).grant + (r.books i).loan + (r.books i).draining) } := by
  have books : (r.modLife i Life.gone).books i = r.books i := Run.modLife_books ..
  unfold Run.gone Run.zeroBooks
  dsimp only
  rw [books]
  rfl

/-- A removed sled's alert and heat (R86, R104). -/
def SledRun.quiet (x : SledRun) : SledRun := { x with alert := x.alert.removed, therm := .initial }

theorem Run.teardown_eq (c : Cfg) (i : Sled) (r : Run) :
    r.teardown c i = (((r.gone c i).dropProbes c i).modSled i SledRun.quiet).post c (.sled i) :=
  congrArg (fun x : Run => x.post c (.sled i)) (((r.gone c i).dropProbes c i).modSled_modSled i _ _)

theorem Run.post_sled_eq (c : Cfg) (i : Sled) (r : Run) :
    r.post c (.sled i) = { r with notices := if c.mask.sled = true ∧ r.mode ≠ .config then r.notices.insert (.sled i) else r.notices } := by
  have allowed : noticeAllowed c r.mode (.sled i) = true ↔ c.mask.sled = true ∧ r.mode ≠ .config := by
    simp [noticeAllowed, r.mode.works_iff]
  unfold Run.post
  by_cases h : c.mask.sled = true ∧ r.mode ≠ .config
  · rw [if_pos (allowed.mpr h), if_pos h]
  · rw [if_neg (mt allowed.mp h), if_neg h]

/-- The whole of a removed sled's records. -/
theorem SledRun.quiet_gone (c : Cfg) (x : SledRun) :
    (x.gone c).quiet = { x.gone c with alert := x.alert.removed, therm := .initial } := rfl

/-- The teardown, part by part (R67, R68). -/
structure Run.TornDown (c : Cfg) (i : Sled) (r t : Run) : Prop where
  frame : t =
    { r with
      sleds := t.sleds, queue := r.queue.filter fun e => e.sled != i
      raiseOrder := r.raiseOrder.filter fun j => j != i, boostList := r.boostList.filter fun j => j != i
      arbiterDue := t.arbiterDue, lanes := t.lanes, probes := t.probes, notices := t.notices, free := t.free }
  get : ∀ j, t.sleds.get j = if j = i then ((r.sleds.get i).gone c).quiet else r.sleds.get j
  due : 0 < (r.books i).grant + (r.books i).loan + (r.books i).draining → t.arbiterDue = true
  probes : Run.ProbesDropped i r t
  notices : t.notices = if c.mask.sled = true ∧ r.mode ≠ .config then r.notices.insert (.sled i) else r.notices

theorem Run.ProbesDropped.congr {i : Sled} {r r' t t' : Run} (h : Run.ProbesDropped i r t) (lanes : r'.lanes = r.lanes)
    (probes : r'.probes = r.probes) (lanes' : t'.lanes = t.lanes) (probes' : t'.probes = t.probes) : Run.ProbesDropped i r' t' := by
  have l : r'.lane = r.lane := funext fun n => congrArg (fun v : Vector Lane _ => v.get n) lanes
  have p : r'.probe = r.probe := funext fun n => congrArg (fun v : Vector ProbeRun _ => v.get n) probes
  have l' : t'.lane = t.lane := funext fun n => congrArg (fun v : Vector Lane _ => v.get n) lanes'
  have p' : t'.probe = t.probe := funext fun n => congrArg (fun v : Vector ProbeRun _ => v.get n) probes'
  obtain ⟨own, run, idle, keeps, aborts, frees, others⟩ := h
  rw [← l, ← l'] at keeps aborts frees
  rw [← l, ← p, ← p'] at run
  rw [← p, ← p'] at own keeps aborts frees
  rw [← l, ← p'] at idle
  rw [← l, ← l'] at others
  exact ⟨own, run, idle, keeps, aborts, frees, others⟩

theorem Run.tornDown (c : Cfg) (i : Sled) (r : Run) : Run.TornDown c i r (r.teardown c i) := by
  have gone := r.gone_frame c i
  have get (j : Sled) := r.gone_get c i j
  have dropped := Run.probesDropped c i (r.gone c i)
  have onLanes : Run.OnLanes (r.gone c i) ((r.gone c i).dropProbes c i) := .dropProbes ..
  rw [Run.teardown_eq, Run.post_sled_eq]
  generalize (r.gone c i).dropProbes c i = v at dropped onLanes ⊢
  have sleds : v.sleds = (r.gone c i).sleds := onLanes.sleds
  have mode : v.mode = r.mode := ((congrArg Run.mode onLanes).trans rfl).trans ((congrArg Run.mode gone).trans rfl)
  have notices : v.notices = r.notices := ((congrArg Run.notices onLanes).trans rfl).trans ((congrArg Run.notices gone).trans rfl)
  have due : v.arbiterDue = (r.arbiterDue || decide (0 < (r.books i).grant + (r.books i).loan + (r.books i).draining)) :=
    ((congrArg Run.arbiterDue onLanes).trans rfl).trans ((congrArg Run.arbiterDue gone).trans rfl)
  have own (j : Sled) : (v.modSled i SledRun.quiet).sleds.get j
      = if j = i then ((r.sleds.get i).gone c).quiet else r.sleds.get j := by
    refine (modAt_get i j SledRun.quiet v.sleds).trans ?_
    rw [sleds, get i, if_pos rfl, get j]
    split <;> rfl
  refine ⟨?_, own, fun units => ?_, dropped.congr ((congrArg Run.lanes gone).trans rfl).symm ((congrArg Run.probes gone).trans rfl).symm rfl rfl, ?_⟩
  · have frame : v =
        { r with
          sleds := v.sleds, queue := r.queue.filter fun e => e.sled != i
          raiseOrder := r.raiseOrder.filter fun j => j != i, boostList := r.boostList.filter fun j => j != i
          arbiterDue := v.arbiterDue, lanes := v.lanes, probes := v.probes, free := v.free } := by
      rw [sleds, due]
      exact Eq.trans (show v = _ from onLanes)
        (congrArg (fun x : Run => { x with lanes := v.lanes, probes := v.probes, free := v.free }) gone)
    exact congrArg (fun x : Run =>
      { x.modSled i SledRun.quiet with
        notices := if c.mask.sled = true ∧ v.mode ≠ Mode.config then v.notices.insert (.sled i) else v.notices }) frame
  · exact due.trans (by rw [decide_eq_true units, Bool.or_true])
  · show (if c.mask.sled = true ∧ v.mode ≠ .config then v.notices.insert (.sled i) else v.notices) = _
    rw [mode, notices]

/-- A slot accepted as empty is torn down (R63). -/
theorem Run.settlePresence_of_gone {c : Cfg} {i : Sled} {r : Run} (level : (r.life i).prs = .high) (present : (r.life i).present = true)
    (h1 : (r.life i).state ≠ .disabled) (h2 : (r.life i).state ≠ .absent) :
    r.settlePresence c i = (r.modLife i fun l => { l with settle := none, present := false }).teardown c i := by
  have life : (r.modLife i fun l => { l with settle := none, present := false }).life i
      = { r.life i with settle := none, present := false } := Run.modLife_life_self ..
  unfold Run.settlePresence
  dsimp only
  rw [level, present]
  refine (if_pos rfl).trans ?_
  show Run.presenceEvent c i false (r.modLife i fun l => { l with settle := none, present := false }) = _
  unfold Run.presenceEvent
  rw [life]
  cases state : (r.life i).state with
  | disabled => exact absurd state h1
  | absent => exact absurd state h2
  | standby => rfl
  | admitting => rfl
  | tracking => rfl
  | isolated => rfl

end Sys2Proof.Machine

open Sys2Proof Sys2Proof.Machine

/-- Settles O49: the records of the sled go one by one, then its probes leave their lane. -/
theorem removedSledIsTornDown : Obligations.RemovedSledIsTornDown := by
  intro i s live r₀ l b a settle level present enabled seated
  let v := r₀.modLife i fun l => { l with settle := none, present := false }
  have torn := Run.tornDown s.cfg i v
  have get (j : Sled) : v.sleds.get j = if j = i then { r₀.sleds.get i with life := { l with settle := none, present := false } } else r₀.sleds.get j :=
    modAt_get i j _ r₀.sleds
  have own : (v.teardown s.cfg i).sleds.get i
      = (({ r₀.sleds.get i with life := { l with settle := none, present := false } } : SledRun).gone s.cfg).quiet := by
    rw [torn.get i, if_pos rfl, get i, if_pos rfl]
  have others (j : Sled) (other : j ≠ i) : (v.teardown s.cfg i).sleds.get j = r₀.sleds.get j := by
    rw [torn.get j, if_neg other, get j, if_neg other]
  refine ⟨v.teardown s.cfg i, ?_, ?_, others, congrArg SledRun.life own, congrArg SledRun.books own, congrArg SledRun.therm own,
    congrArg SledRun.chan own, congrArg SledRun.alert own, ?_, ?_, ?_, ?_, ?_, ?_⟩
  · exact (State.runEvent_after (f := fun c r => r.settlePresence c i) live (Option.isSome_iff_ne_none.mpr settle)).trans
      (congrArg (fun r => Host.Outcome.next (s.after r)) (Run.settlePresence_of_gone level present enabled seated))
  · exact torn.frame
  · have units := Run.headroom_of_other (r := r₀) (t := v.teardown s.cfg i) (i := i)
      ((congrArg (fun r : Run => r.pool.size) torn.frame).trans rfl) fun j other => congrArg SledRun.books (others j other)
    have none : (v.teardown s.cfg i).units i = 0 :=
      congrArg (fun x : SledRun => x.books.grant + x.books.loan + x.books.draining) own
    have all : r₀.units i = b.grant + b.loan + b.draining := rfl
    rw [none, all] at units
    omega
  · intro units
    have books : v.books i = b := Run.modLife_books ..
    exact torn.due (by rw [books]; exact units)
  · exact torn.probes.own
  · exact ⟨torn.probes.run, torn.probes.idle, torn.probes.keeps, fun q poll own => ⟨torn.probes.aborts q poll own, torn.probes.frees q poll own⟩⟩
  · exact torn.probes.others
  · exact torn.notices
end

section
/-! SUPPORT. Bytes and frames on the line (R161, R162, R164). -/

namespace Sys2Proof.Machine

open Sys2Proof

/-! ## The receiver (R161) -/

/-- Data bits are collected, eight at most. -/
theorem Receiver.bytes_bits {got l : List Pin} (h : got.length + l.length ≤ 8) (rest : List Pin) :
    (Receiver.bits got).bytes (l ++ rest) = (Receiver.bits (got ++ l)).bytes rest := by
  induction l generalizing got with
  | nil => rw [List.append_nil, List.nil_append]
  | cons x l ih =>
    rw [List.length_cons] at h
    have takes : (Receiver.bits got).take x = (.bits (got ++ [x]), none) := if_pos (by omega)
    rw [List.cons_append, Receiver.bytes, takes]
    refine (ih (by rw [List.length_append, List.length_singleton]; omega)).trans ?_
    rw [List.append_assoc]
    rfl

/-- The start bit and the data bits of a byte. -/
theorem Receiver.bytes_byte (b : Byte) (rest : List Pin) :
    Receiver.idle.bytes ((lineLevels b).dropLast ++ rest)
      = (Receiver.bits ((List.range 8).map fun k => lineLevel (b.getLsbD k))).bytes rest :=
  Receiver.bytes_bits (got := []) (l := (List.range 8).map fun k => lineLevel (b.getLsbD k)) (Nat.le_refl 8) rest

/-- The stop bit ends the byte; after a low one the receiver waits (R161). -/
theorem Receiver.bytes_stop (b : Byte) (level : Pin) (rest : List Pin) :
    Receiver.idle.bytes ((lineLevels b).dropLast ++ level :: rest)
      = b :: (match level with | .high => Receiver.idle | .low => .waitHigh).bytes rest := by
  have takes : (Receiver.bits ((List.range 8).map fun k => lineLevel (b.getLsbD k))).take level
      = (match level with | .high => .idle | .low => .waitHigh, some b) := by
    cases level with
    | high => exact congrArg (fun x => (Receiver.idle, some x)) (byteOfLevels_bits b)
    | low => exact congrArg (fun x => (Receiver.waitHigh, some x)) (byteOfLevels_bits b)
  rw [Receiver.bytes_byte, Receiver.bytes, takes]
  rfl

theorem Receiver.bytes_waitHigh (k : Nat) (rest : List Pin) :
    Receiver.waitHigh.bytes (List.replicate k .low ++ .high :: rest) = Receiver.idle.bytes rest := by
  induction k with
  | zero => rfl
  | succ k ih => exact ih

theorem Receiver.bytes_lineLevels (bs : List Byte) : Receiver.idle.bytes (bs.flatMap lineLevels) = bs := by
  induction bs with
  | nil => rfl
  | cons b bs ih =>
    have byte : (b :: bs).flatMap lineLevels = (lineLevels b).dropLast ++ .high :: bs.flatMap lineLevels := rfl
    rw [byte, Receiver.bytes_stop, ih]

/-! ## The parser (R162) -/

/-- A byte in a state at rest that only moves the parser. -/
theorem feed_cons {s t : State} {b : Byte} (live : s.inReset = false) (takes : s.takeLinkByte b = t) (rest : t.atRest) (bs : List Byte) :
    feed (b :: bs) s = feed bs t := by
  have event : exec (.linkByteReceived b) s = .next t := by
    refine (State.event_occurs live rfl).trans ?_
    rw [takes, State.finish_of_atRest rest]
  rw [feed, event]

theorem Frame.len_toNat {f : Frame} (h : f.payload.length ≤ 124) : f.len.toNat = f.inner.length := by
  unfold Frame.len
  rw [BitVec.toNat_ofNat]
  exact Nat.mod_eq_of_lt (by rw [Frame.inner, List.length_cons, List.length_cons]; omega)

theorem lenOk_of_frame {f : Frame} (h : f.payload.length ≤ 124) : lenOk f.len = true := by
  have inner : f.inner.length = f.payload.length + 2 := rfl
  rw [lenOk, Frame.len_toNat h, inner]
  simp
  omega

/-- The bytes of a frame's body, up to the last of them. -/
theorem feed_body {len : Byte} {kept bs : List Byte} {s : State} (live : s.inReset = false) (rest : s.atRest)
    (parser : s.link.parser = .body len kept) (length : kept.length + bs.length = len.toNat) (some : bs ≠ []) (later : List Byte) :
    feed (bs ++ later) s = feed later (s.setParser (.crcHigh len (kept ++ bs)) gapStart) := by
  induction bs generalizing kept s with
  | nil => exact absurd rfl some
  | cons b bs ih =>
    rw [List.length_cons] at length
    rw [List.cons_append]
    cases bs with
    | nil =>
      refine feed_cons (t := s.setParser (.crcHigh len (kept ++ [b])) gapStart) live ?_ rest later
      unfold State.takeLinkByte
      rw [parser]
      exact if_neg (by rw [List.length_nil] at length; omega)
    | cons x bs =>
      have takes : s.takeLinkByte b = s.setParser (.body len (kept ++ [b])) gapStart := by
        unfold State.takeLinkByte
        rw [parser]
        exact if_pos (by rw [List.length_cons] at length; omega)
      rw [feed_cons (t := s.setParser (.body len (kept ++ [b])) gapStart) live takes rest]
      refine (ih (s := s.setParser (.body len (kept ++ [b])) gapStart) live rest rfl ?_ (List.cons_ne_nil _ _)).trans ?_
      · rw [List.length_append, List.length_singleton]
        omega
      · rw [List.append_assoc]
        rfl

/-- A frame's bytes but the last two bring the parser to its CRC (R162). -/
theorem feed_frame {f : Frame} {s : State} (live : s.inReset = false) (rest : s.atRest) (hunt : s.link.parser = .hunt)
    (short : f.payload.length ≤ 124) (later : List Byte) :
    feed ([0xC3#8] ++ [f.len] ++ f.inner ++ later) s = feed later (s.setParser (.crcHigh f.len f.inner) gapStart) := by
  have start : s.takeLinkByte 0xC3#8 = s.setParser .length gapStart := by
    unfold State.takeLinkByte
    rw [hunt]
    rfl
  have sized : (s.setParser .length gapStart).takeLinkByte f.len = s.setParser (.body f.len []) gapStart :=
    if_pos (lenOk_of_frame short)
  show feed (0xC3#8 :: f.len :: (f.inner ++ later)) s = _
  rw [feed_cons (t := s.setParser .length gapStart) live start rest,
    feed_cons (s := s.setParser .length gapStart) (t := s.setParser (.body f.len []) gapStart) live sized rest]
  exact feed_body (s := s.setParser (.body f.len []) gapStart) (kept := []) live rest rfl
    ((Nat.zero_add _).trans (Frame.len_toNat short).symm) (List.cons_ne_nil _ _) later

/-- The two bytes of the CRC end the frame (R164). -/
theorem feed_crc {len hi lo : Byte} {kept : List Byte} {s : State} (live : s.inReset = false) (rest : s.atRest)
    (parser : s.link.parser = .crcHigh len kept) :
    feed [hi, lo] s = .next ((s.setParser .hunt none).checkFrame len kept hi lo).finish := by
  have high : s.takeLinkByte hi = s.setParser (.crcLow len kept hi) gapStart := by
    unfold State.takeLinkByte
    rw [parser]
  rw [feed_cons (t := s.setParser (.crcLow len kept hi) gapStart) live high rest, feed]
  have last : exec (.linkByteReceived lo) (s.setParser (.crcLow len kept hi) gapStart)
      = .next ((s.setParser .hunt none).checkFrame len kept hi lo).finish := State.event_occurs live rfl
  rw [last]
  rfl

/-- A whole frame ends with its check. -/
theorem feed_whole {f : Frame} {hi lo : Byte} {s : State} (live : s.inReset = false) (rest : s.atRest) (hunt : s.link.parser = .hunt)
    (short : f.payload.length ≤ 124) :
    feed ([0xC3#8] ++ [f.len] ++ f.inner ++ [hi, lo]) s
      = .next (({ s with link := { s.link with gap := none } } : State).checkFrame f.len f.inner hi lo).finish := by
  have idle : s.setParser .hunt none = { s with link := { s.link with gap := none } } := by
    unfold State.setParser
    rw [← hunt]
  rw [feed_frame live rest hunt short, feed_crc (s := s.setParser (.crcHigh f.len f.inner) gapStart) live rest rfl, ← idle]
  rfl

end Sys2Proof.Machine

open Sys2Proof Sys2Proof.Machine

/-- Settles O13: the receiver collects a byte between its start bit and its stop bit, and the parser a frame up to its CRC. -/
theorem wireBytesAreTakenAsTheirFrame : Obligations.WireBytesAreTakenAsTheirFrame := by
  refine ⟨Receiver.bytes_lineLevels, fun b k rest => ?_, fun f s live rest hunt short => ?_⟩
  · rw [Receiver.bytes_stop]
    exact congrArg (b :: ·) (Receiver.bytes_waitHigh k rest)
  · intro idle
    have wire : feed f.wire s = .next (idle.acceptFrame f).finish := by
      exact (feed_whole live rest hunt short).trans (congrArg (fun t : State => Host.Outcome.next t.finish) (if_pos rfl))
    refine ⟨fun room => wire.trans ?_, fun full => wire.trans ?_, fun hi lo wrong => ?_⟩
    · have accepted : idle.acceptFrame f = { idle with link := { idle.link with rx := s.link.rx ++ [f] } } := if_pos room
      rw [accepted]
      exact congrArg Host.Outcome.next (State.finish_of_atRest rest)
    · exact congrArg (fun t : State => Host.Outcome.next t.finish) (if_neg (Nat.not_lt.mpr full))
    · refine (feed_whole live rest hunt short).trans ?_
      rw [State.checkFrame, if_neg wrong.symm]
end

section
/-! SUPPORT. A lane that polls for a probe that is IDLE, at the entry to RUN (R102, R113, R115). -/

namespace Sys2Proof.Machine

open Sys2Proof

/-- In CONFIG, S0 and S1 STANDBY, S0's READY line held asserted, S1's first probe enabled. Every probe is IDLE, but lane 0 is BUSY:
a poll of S0's first probe is in WAIT, and S1's first probe is queued behind it. -/
def strayPoll : State :=
  { State.reset with
    cfg := { Cfg.default with
      sleds := modAt 0 (fun x => { x with alertRole := .ready }) Cfg.default.sleds
      probes := modAt 0 (fun x => { x with mode := .self }) (modAt 2 (fun x => { x with enable := true }) Cfg.default.probes) }
    run :=
      (((State.reset.run.modLife 0 fun l => { l with state := .standby }).modLife 1 fun l => { l with state := .standby }).modAlert 0
        fun a => { a with accepted := .low }).modLane 0 fun y =>
          { y with
            state := .busy, queue := [2]
            poll := .poll { probe := 0, phase := .wait, transaction := 0, retries := 0, timer := none } } }

/-- The overruns of a probe after a command. -/
def overrunsAfter (c : Instr) (p : Probe) (s : State) : Option Nat :=
  match exec c s with
  | .next t => some (t.run.probe p).overruns
  | .fault _ | .refused _ => none

/-- The edge of S0's line ends the stray poll, the lane serves S1's probe, and the first due event of that probe overruns. -/
theorem strayPoll_overruns : overrunsAfter (.setModeRun 0) 2 strayPoll = some 1 := by decide +kernel

theorem strayPoll_meets :
    Ready (frame 0 0x03 [1]) strayPoll ∧ strayPoll.run.mode = .config ∧ validationFault strayPoll.cfg = none
      ∧ strayPoll.run.queueSound ∧ strayPoll.run.lanesServed ∧ (∀ p, (strayPoll.run.probe p).run = .idle)
      ∧ (strayPoll.run.life 1).state = .standby ∧ (strayPoll.cfg.probe 2).enable = true := by
  refine ⟨by decide +kernel, rfl, by decide +kernel, by decide +kernel, by decide +kernel, by decide +kernel, by decide +kernel,
    by decide +kernel⟩

/-- The answer to a request changes no probe. -/
theorem State.replied_probes (s : State) (f : Frame) (content : List Byte) (c : Cfg) (r : Run) :
    (s.replied f content c r).run.probes = r.probes := by
  obtain ⟨tx, replies, notices, -, e⟩ := State.kick_shape
    { s with
      cfg := c
      run := r.serveIfDue c
      link := { s.link with
        rx := s.link.rx.tail
        replies := s.link.replies ++ [{ frame := frame f.tag (f.type + 0x80) content, isReset := false }] } }
  exact ((congrArg (fun t : State => t.run.probes) e).trans rfl).trans
    ((congrArg Run.probes (Run.Accounts.serveIfDue c r).frame).trans rfl)

end Sys2Proof.Machine

open Sys2Proof Sys2Proof.Machine

/-- Refutes O37: every probe IDLE does not keep a lane from polling for one. The poll in WAIT of `strayPoll` ends on the READY edge
of the first sled admitted, its lane serves the second sled's queued probe, and that sled's first due event finds its probe ACTIVE
and is an overrun. -/
theorem not_runIsEnteredFromConfig : ¬ Obligations.RunIsEnteredFromConfig := by
  intro h
  obtain ⟨ready, config, valid, queue, lanes, idle, standby, enabled⟩ := strayPoll_meets
  obtain ⟨r, order, whole, -, -, -, -, -, -, -, -, -, -, -, sleds⟩ := h 0 strayPoll ready config valid queue lanes idle
  obtain ⟨-, -, -, probes⟩ := sleds 1 standby
  obtain ⟨-, zero, -⟩ := probes 2 (.inl rfl) enabled
  have one := strayPoll_overruns
  unfold overrunsAfter at one
  rw [whole] at one
  have kept : ((strayPoll.replied (frame 0 0x03 [1]) [0] strayPoll.cfg r).run.probe 2) = r.probe 2 :=
    congrArg (fun v : Vector ProbeRun _ => v.get 2) (State.replied_probes ..)
  dsimp only at one
  rw [kept, zero] at one
  exact absurd one (by decide)
end

section
/-! SUPPORT. The FLOOR entries of the raise queue, and the seat of a sled that is admitted (R38, R44, R64). -/

namespace Sys2Proof.Machine

open Sys2Proof

/-! ## FLOOR entries stand first (R38) -/

/-- Whether an entry is a FLOOR entry. -/
def Entry.isFloor (e : Entry) : Bool := e.cls == .floor

theorem Entry.isFloor_iff {e : Entry} : e.isFloor = true ↔ e.cls = .floor := beq_iff_eq

theorem Entry.rank_eq_zero_iff {e : Entry} : e.cls.rank = 0 ↔ e.isFloor = true := by
  rw [Entry.isFloor_iff]
  cases e.cls with
  | floor => simp [QClass.rank]
  | cls k => simp [QClass.rank]

/-- A queue in order is its FLOOR entries and then the others. -/
theorem queue_split {q : List Entry} (h : q.Pairwise fun a b => a.cls.rank ≤ b.cls.rank ∧ a.sled ≠ b.sled) :
    q = q.filter Entry.isFloor ++ q.filter fun e => !e.isFloor := by
  induction q with
  | nil => rfl
  | cons e q ih =>
    obtain ⟨first, rest⟩ := List.pairwise_cons.mp h
    by_cases floor : e.isFloor = true
    · rw [List.filter_cons_of_pos floor, List.filter_cons_of_neg (by simp [floor]), List.cons_append, ← ih rest]
    · have none : q.filter Entry.isFloor = [] := List.filter_eq_nil_iff.mpr fun x hx above =>
        floor (Entry.rank_eq_zero_iff.mp (Nat.le_zero.mp (Nat.le_trans (first x hx).1 (Nat.le_of_eq (Entry.rank_eq_zero_iff.mpr above)))))
      rw [List.filter_cons_of_neg floor, none, List.filter_cons_of_pos (by simpa using floor), List.nil_append]
      congr 1
      rw [none, List.nil_append] at ih
      exact ih rest

/-- A FLOOR entry joins behind the FLOOR entries that wait. -/
theorem insertEntry_floor {e : Entry} {q : List Entry} (floor : e.cls = .floor)
    (h : q.Pairwise fun a b => a.cls.rank ≤ b.cls.rank ∧ a.sled ≠ b.sled) :
    insertEntry e q = q.filter Entry.isFloor ++ e :: q.filter fun x => !x.isFloor := by
  have rank : e.cls.rank = 0 := Entry.rank_eq_zero_iff.mpr (Entry.isFloor_iff.mpr floor)
  have test : (fun x : Entry => decide (x.cls.rank ≤ e.cls.rank)) = Entry.isFloor := by
    funext x
    exact Bool.eq_iff_iff.mpr (decide_eq_true_iff.trans (rank ▸ Nat.le_zero.trans Entry.rank_eq_zero_iff))
  have front : q.takeWhile Entry.isFloor = q.filter Entry.isFloor := by
    conv => lhs; rw [queue_split h]
    rw [List.takeWhile_append_of_pos fun x hx => (List.mem_filter.mp hx).2]
    have stop : (q.filter fun x => !x.isFloor).takeWhile Entry.isFloor = [] := by
      cases rest : q.filter fun x => !x.isFloor with
      | nil => rfl
      | cons x xs =>
        have mem : x ∈ q.filter fun x => !x.isFloor := rest ▸ List.mem_cons_self
        exact List.takeWhile_cons_of_neg (by simpa using (List.mem_filter.mp mem).2)
    rw [stop, List.append_nil]
  have back : q.dropWhile Entry.isFloor = q.filter fun x => !x.isFloor := by
    have whole := (List.takeWhile_append_dropWhile (p := Entry.isFloor) (l := q)).trans (queue_split h)
    rw [front] at whole
    exact List.append_cancel_left whole
  unfold insertEntry
  rw [test, front, back]

/-- The sleds that wait for their floors, in order. -/
def Run.floors (r : Run) : List Sled := ((r.queue.map Entry.seat).filter fun x => x.2 == .floor).map Prod.fst

theorem Run.floors_eq (r : Run) : r.floors = (r.queue.filter Entry.isFloor).map Entry.sled := by
  unfold Run.floors
  rw [List.filter_map, List.map_map]
  rfl

theorem Run.floors_congr {r t : Run} (h : t.queue.map Entry.seat = r.queue.map Entry.seat) : t.floors = r.floors := by
  unfold Run.floors
  rw [h]

theorem Run.floors_of_left {r t : Run} {j : Sled}
    (h : t.queue.map Entry.seat = (r.queue.filter fun e => e.sled != j).map Entry.seat) :
    t.floors = r.floors.filter fun k => k != j := by
  have seats : (r.queue.filter fun e => e.sled != j).map Entry.seat = (r.queue.map Entry.seat).filter fun x => x.1 != j :=
    (List.filter_map (f := Entry.seat) (l := r.queue) (p := fun x => x.1 != j)).symm
  have sleds : r.floors.filter (fun k => k != j)
      = (((r.queue.map Entry.seat).filter fun x => x.2 == .floor).filter fun x => x.1 != j).map Prod.fst := List.filter_map
  rw [sleds]
  unfold Run.floors
  rw [h, seats, List.filter_filter, List.filter_filter]
  simp only [Bool.and_comm]

theorem Run.floors_join {c : Cfg} {i : Sled} {k : Fin 4} (r : Run) : (r.join c i (.cls k)).floors = r.floors := by
  have floors (e : Entry) (q : List Entry) (cls : e.isFloor = false) : (insertEntry e q).filter Entry.isFloor = q.filter Entry.isFloor := by
    unfold insertEntry
    rw [List.filter_append, List.filter_cons_of_neg (by simp [cls]), ← List.filter_append, List.takeWhile_append_dropWhile]
  rw [Run.floors_eq, Run.floors_eq]
  exact congrArg (List.map Entry.sled) (floors _ _ rfl)

theorem Run.floors_joinIfShort (c : Cfg) (i : Sled) (r : Run) : (r.joinIfShort c i).floors = r.floors := by
  rw [Run.joinIfShort_eq]
  split
  · exact Run.floors_join r
  · rfl

theorem Run.floors_becomeTracking (c : Cfg) (i : Sled) (r : Run) : (r.becomeTracking c i).floors = r.floors := by
  unfold Run.becomeTracking
  rw [Run.floors_joinIfShort]
  exact Run.floors_congr (by rw [Run.post_queue]; rfl)

theorem Run.floors_settleAdmission {c : Cfg} {i : Sled} {r : Run} (out : r.queued i = false) : (r.settleAdmission c i).floors = r.floors := by
  have gone : (r.queue.filter fun e => e.sled != i) = r.queue := by
    refine List.filter_eq_self.mpr fun e he => ?_
    simpa using Run.ne_of_queued out (Run.queued_of_mem he)
  unfold Run.settleAdmission
  dsimp only
  split
  · split
    · exact Run.floors_congr ((Run.isolate_queue c i r).trans (by rw [gone]))
    · split
      · rfl
      · exact Run.floors_becomeTracking ..
  · rfl

end Sys2Proof.Machine
end

section
/-! SUPPORT. The walk of the arbiter while a FLOOR entry waits (R25, R44, R65). -/

namespace Sys2Proof.Machine

open Sys2Proof

/-! ## The service of a FLOOR entry -/

/-- A sled's floor is reserved and its entry has left, before the sled is looked at again. -/
def Run.floorTaken (c : Cfg) (i : Sled) (r : Run) : Run :=
  ((r.modBooks i fun b => { b with grant := floorCost c i, floorReserved := true }).leaveQueue i).takeNewest i

theorem Run.serveFloor_of_room {c : Cfg} {i : Sled} {r : Run} (room : (floorCost c i : Int) ≤ r.headroom) :
    r.serveFloor c i = ((r.floorTaken c i).settleAdmission c i, true) := if_pos room

theorem Run.serveFloor_of_short {c : Cfg} {i : Sled} {r : Run} (short : r.headroom < floorCost c i) : r.serveFloor c i = (r, false) :=
  if_neg (by omega)

theorem Run.floorTaken_get (c : Cfg) (i : Sled) (r : Run) :
    (r.floorTaken c i).sleds.get i
      = { r.sleds.get i with books := { r.books i with grant := floorCost c i, floorReserved := true } } :=
  r.modBooks_get i fun b => { b with grant := floorCost c i, floorReserved := true }

theorem Run.floorTaken_queued (c : Cfg) (i : Sled) (r : Run) : (r.floorTaken c i).queued i = false := Run.leaveQueue_queued ..

/-- Isolation moves a sled's units between grant, loan and draining only (R69). -/
theorem SledRun.isolated_units (n : Nat) (x : SledRun) :
    (x.isolated n).books.grant + (x.isolated n).books.loan + (x.isolated n).books.draining
      = x.books.grant + x.books.loan + x.books.draining := by
  unfold SledRun.isolated SledRun.boostEnded
  dsimp only
  split
  · dsimp only
    omega
  · omega

theorem Run.settleAdmission_units (c : Cfg) (i : Sled) (r : Run) : (r.settleAdmission c i).units i = r.units i := by
  unfold Run.settleAdmission
  dsimp only
  split
  · split
    · unfold Run.units Run.books
      rw [Run.isolate_get, if_pos rfl]
      exact SledRun.isolated_units ..
    · split
      · rfl
      · unfold Run.units Run.books
        rw [Run.becomeTracking_get]
  · rfl

/-- The service of a FLOOR entry costs no more headroom than the floor. -/
theorem Run.headroom_serveFloor (c : Cfg) (i : Sled) (r : Run) : r.headroom - floorCost c i ≤ (r.serveFloor c i).1.headroom := by
  by_cases room : (floorCost c i : Int) ≤ r.headroom
  · have kept := Run.OthersKept.serveFloor (c := c) (i := i) r
    have total := Run.headroom_of_other kept.size fun j hj => congrArg SledRun.books (kept.sled j hj)
    rw [Run.serveFloor_of_room room] at total ⊢
    have taken : (r.floorTaken c i).units i = floorCost c i + (r.books i).loan + (r.books i).draining :=
      congrArg (fun x : SledRun => x.books.grant + x.books.loan + x.books.draining) (r.floorTaken_get c i)
    rw [Run.settleAdmission_units, taken] at total
    unfold Run.units at total
    dsimp only at total ⊢
    omega
  · rw [Run.serveFloor_of_short (by omega)]
    dsimp only
    omega

theorem Run.floors_serveFloor {c : Cfg} {i : Sled} {r : Run} (room : (floorCost c i : Int) ≤ r.headroom) :
    (r.serveFloor c i).1.floors = r.floors.filter fun k => k != i := by
  rw [Run.serveFloor_of_room room, Run.floors_settleAdmission (r.floorTaken_queued c i)]
  exact Run.floors_of_left rfl

/-! ## The sled in front -/

theorem Run.floors_nodup {r : Run} (h : r.queueSound) : r.floors.Nodup := by
  rw [Run.floors_eq]
  exact List.pairwise_map.mpr ((h.1.sublist List.filter_sublist).imp fun ⟨_, other⟩ => other)

/-- While a FLOOR entry waits, the first of them is served next. -/
theorem Run.first_of_floors {r : Run} {j : Sled} {F : List Sled} (h : r.queueSound) (floors : r.floors = j :: F) :
    ∃ e, r.queue.find? (fun e => !e.held) = some e ∧ e.sled = j ∧ e.cls = .floor := by
  rw [Run.floors_eq] at floors
  obtain ⟨e, es, front, rfl, -⟩ := List.map_eq_cons_iff.mp floors
  have mem := List.mem_filter.mp (show e ∈ r.queue.filter Entry.isFloor from front ▸ List.mem_cons_self)
  have cls := Entry.isFloor_iff.mp mem.2
  have free := (h.2.1 e mem.1 cls).2.2
  refine ⟨e, ?_, rfl, cls⟩
  rw [queue_split h.1, front]
  exact List.find?_cons_of_pos (by simp [free])

/-- A queue with a FLOOR entry in front: whichever entry is served next, it is that sled's. -/
theorem Run.serveEntry_of_floors {c : Cfg} {r : Run} {j : Sled} {F : List Sled} {e : Entry} (h : r.queueSound) (floors : r.floors = j :: F)
    (first : r.queue.find? (fun e => !e.held) = some e) : r.serveEntry c e = r.serveFloor c j := by
  obtain ⟨x, hx, rfl, cls⟩ := Run.first_of_floors h floors
  obtain rfl : x = e := Option.some.inj (hx.symm.trans first)
  unfold Run.serveEntry
  rw [cls]

theorem Run.floors_tail {c : Cfg} {r : Run} {j : Sled} {F : List Sled} (h : r.queueSound) (floors : r.floors = j :: F)
    (room : (floorCost c j : Int) ≤ r.headroom) : (r.serveFloor c j).1.floors = F := by
  have distinct := Run.floors_nodup h
  rw [floors, List.nodup_cons] at distinct
  rw [Run.floors_serveFloor room, floors, List.filter_cons_of_neg (by simp)]
  exact List.filter_eq_self.mpr fun k hk => bne_iff_ne.mpr fun same => distinct.1 (same ▸ hk)

/-! ## A sled that waits for its floor, and one that has it -/

/-- Sled `i`, with the records `x`, waits for its floor behind sleds of `ahead`. -/
structure Run.Seeks (i : Sled) (x : SledRun) (ahead : List Sled) (r : Run) : Prop where
  sound : r.queueSound
  own : r.sleds.get i = x
  floors : ∃ front, front <:+ ahead ∧ r.floors = front ++ [i]

/-- Whether an admission waits for a probe. -/
def Life.awaits (l : Life) : Bool := l.awaitA || l.awaitB

/-- Sled `i` has its floor, having waited for it with the life `l`. -/
structure Run.HasFloor (c : Cfg) (i : Sled) (l : Life) (r : Run) : Prop where
  sound : r.queueSound
  reserved : (r.books i).floorReserved = true
  raised : i ∈ r.raiseOrder
  life : r.life i = if l.awaits then l else { l with state := .tracking, admission := none }
  rests : l.awaits = true → (r.books i).grant = floorCost c i ∧ r.queued i = false

/-- The floor of an admission without a containment pending. -/
theorem Run.hasFloor_serveFloor {c : Cfg} {i : Sled} {r : Run} (h : r.queueSound) (admitting : (r.life i).state = .admitting)
    (calm : (r.life i).containPending = false) (room : (floorCost c i : Int) ≤ r.headroom) :
    Run.HasFloor c i (r.life i) (r.serveFloor c i).1 := by
  have sound := Run.queueSound_serveFloor (c := c) (i := i) h
  have get := r.floorTaken_get c i
  have life : (r.floorTaken c i).life i = r.life i := (congrArg SledRun.life get).trans rfl
  have reserved : ((r.floorTaken c i).books i).floorReserved = true := (congrArg (fun x : SledRun => x.books.floorReserved) get).trans rfl
  have grant : ((r.floorTaken c i).books i).grant = floorCost c i := (congrArg (fun x : SledRun => x.books.grant) get).trans rfl
  have raised : i ∈ (r.floorTaken c i).raiseOrder := Run.mem_takeNewest (.inr rfl)
  rw [Run.serveFloor_of_room room] at sound ⊢
  rw [Run.settleAdmission_eq (by rw [life, admitting]) reserved, life, if_neg (by rw [calm]; exact Bool.false_ne_true)] at sound ⊢
  by_cases awaits : (r.life i).awaits = true
  · rw [if_pos (show ((r.life i).awaitA || (r.life i).awaitB) = true from awaits)] at sound ⊢
    exact ⟨sound, reserved, raised, by rw [if_pos awaits, life], fun _ => ⟨grant, r.floorTaken_queued c i⟩⟩
  · rw [if_neg (show ¬((r.life i).awaitA || (r.life i).awaitB) = true from awaits)] at sound ⊢
    have own := (r.floorTaken c i).becomeTracking_get c i
    refine ⟨sound, ?_, ?_, ?_, fun yes => absurd yes awaits⟩
    · exact (congrArg (fun x : SledRun => x.books.floorReserved) own).trans reserved
    · rw [Run.becomeTracking_raiseOrder]
      exact raised
    · rw [if_neg awaits, ← life]
      exact (congrArg SledRun.life own).trans rfl

/-- A sled that has its floor keeps it through the service of every other entry, and of its own class entry. -/
theorem Run.HasFloor.serveEntry {c : Cfg} {i : Sled} {l : Life} {r : Run} {e : Entry} (h : Run.HasFloor c i l r) (he : e ∈ r.queue) :
    Run.HasFloor c i l (r.serveEntry c e).1 := by
  have sound := Run.queueSound_serveEntry (c := c) (e := e) h.sound
  have kept := r.serveEntry_kept c e
  by_cases other : i = e.sled
  · subst other
    have moves (yes : l.awaits = true) : False := Bool.false_ne_true ((h.rests yes).2.symm.trans (Run.queued_of_mem he))
    have cls : e.cls ≠ .floor := fun floor => Bool.false_ne_true ((h.sound.2.1 e he floor).2.1.symm.trans h.reserved)
    have service : r.serveEntry c e = r.serveClass c e.sled := by
      unfold Run.serveEntry
      cases k : e.cls with
      | floor => exact absurd k cls
      | cls k => rfl
    have own : ((r.serveClass c e.sled).1.books e.sled).floorReserved = (r.books e.sled).floorReserved
        ∧ (r.serveClass c e.sled).1.life e.sled = r.life e.sled := by
      cases level : r.serviceLevel c e.sled with
      | none =>
        unfold Run.serveClass
        rw [level]
        exact ⟨rfl, rfl⟩
      | some k =>
        have get := Run.serveClass_get level
        exact ⟨(congrArg (fun x : SledRun => x.books.floorReserved) get).trans rfl, (congrArg SledRun.life get).trans rfl⟩
    rw [← service] at own
    obtain ⟨reserved, life⟩ := own
    exact ⟨sound, reserved.trans h.reserved, kept.order _ h.raised, life.trans h.life, fun yes => (moves yes).elim⟩
  · have own := kept.sled i other
    refine ⟨sound, ?_, kept.order _ h.raised, (congrArg SledRun.life own).trans h.life, fun yes => ⟨?_, ?_⟩⟩
    · exact (congrArg (fun x : SledRun => x.books.floorReserved) own).trans h.reserved
    · exact (congrArg (fun x : SledRun => x.books.grant) own).trans (h.rests yes).1
    · refine Bool.eq_false_iff.mpr fun hq => ?_
      obtain ⟨x, hx, rfl⟩ := Run.queued_iff.mp hq
      obtain ⟨y, hy, same, -⟩ := kept.entry x hx other
      exact Bool.false_ne_true ((h.rests yes).2.symm.trans (Run.queued_iff.mpr ⟨y, hy, same⟩))

/-- A sled that waits for its floor waits on, or has it. -/
theorem Run.Seeks.serveEntry {c : Cfg} {i : Sled} {x : SledRun} {ahead : List Sled} {r : Run} {e : Entry} (h : Run.Seeks i x ahead r)
    (calm : x.life.containPending = false) (first : r.queue.find? (fun e => !e.held) = some e) :
    Run.Seeks i x ahead (r.serveEntry c e).1 ∨ Run.HasFloor c i x.life (r.serveEntry c e).1 := by
  obtain ⟨sound, own, front, behind, floors⟩ := h
  have sound' := Run.queueSound_serveEntry (c := c) (e := e) sound
  cases front with
  | nil =>
    rw [Run.serveEntry_of_floors sound floors first] at sound' ⊢
    by_cases room : (floorCost c i : Int) ≤ r.headroom
    · obtain ⟨y, hy, rfl, cls⟩ := Run.first_of_floors sound floors
      have admitting := (sound.2.1 y (List.mem_of_find?_eq_some hy) cls).1
      have life : r.life y.sled = x.life := congrArg SledRun.life own
      exact .inr (life ▸ Run.hasFloor_serveFloor sound admitting (by rw [life, calm]) room)
    · rw [Run.serveFloor_of_short (by omega)]
      exact .inl ⟨sound, own, [], behind, floors⟩
  | cons j front =>
    rw [Run.serveEntry_of_floors sound floors first] at sound' ⊢
    by_cases room : (floorCost c j : Int) ≤ r.headroom
    · have distinct := Run.floors_nodup sound
      rw [floors, List.cons_append, List.nodup_cons] at distinct
      have other : i ≠ j := fun same => distinct.1 (same ▸ List.mem_append_right _ List.mem_cons_self)
      refine .inl ⟨sound', ?_, front, (List.suffix_cons j front).trans behind, Run.floors_tail sound floors room⟩
      exact ((Run.OthersKept.serveFloor r).sled i other).trans own
    · rw [Run.serveFloor_of_short (by omega)]
      exact .inl ⟨sound, own, j :: front, behind, floors⟩

/-! ## The walk -/

/-- What the service of each first entry keeps, the walk keeps. -/
theorem Run.walk_keeps {c : Cfg} {P : Run → Prop}
    (step : ∀ r e, P r → r.queue.find? (fun e => !e.held) = some e → P (r.serveEntry c e).1) {n : Nat} {r : Run} (h : P r) :
    P (r.walk c n) := by
  induction n generalizing r with
  | zero => exact h
  | succ n ih =>
    rw [Run.walk]
    split
    · exact h
    · next e first =>
      split
      · exact ih (step r e h first)
      · exact step r e h first

theorem Run.HasFloor.walk {c : Cfg} {i : Sled} {l : Life} {r : Run} (h : Run.HasFloor c i l r) (n : Nat) :
    Run.HasFloor c i l (r.walk c n) :=
  Run.walk_keeps (P := Run.HasFloor c i l) (fun _ _ hr first => hr.serveEntry (List.mem_of_find?_eq_some first)) h

theorem Run.Seeks.walk {c : Cfg} {i : Sled} {x : SledRun} {ahead : List Sled} {r : Run} (h : Run.Seeks i x ahead r)
    (calm : x.life.containPending = false) (n : Nat) :
    Run.Seeks i x ahead (r.walk c n) ∨ Run.HasFloor c i x.life (r.walk c n) := by
  refine Run.walk_keeps (P := fun t => Run.Seeks i x ahead t ∨ Run.HasFloor c i x.life t) (fun t e ht first => ?_) (.inl h)
  rcases ht with seeks | has
  · exact seeks.serveEntry calm first
  · exact .inr (has.serveEntry (List.mem_of_find?_eq_some first))

/-- Where headroom covers the floors that wait and the sled's own, the walk comes to the sled (R44). -/
theorem Run.hasFloor_walk {c : Cfg} {i : Sled} {front : List Sled} {n : Nat} {r : Run} (h : r.queueSound) (floors : r.floors = front ++ [i])
    (calm : (r.life i).containPending = false) (turns : front.length < n)
    (covered : (((front ++ [i]).map fun j => (floorCost c j : Int)).sum) ≤ r.headroom) :
    Run.HasFloor c i (r.life i) (r.walk c n) := by
  induction front generalizing r n with
  | nil =>
    obtain ⟨n, rfl⟩ := Nat.exists_eq_add_of_lt turns
    obtain ⟨e, first, own, cls⟩ := Run.first_of_floors h floors
    have admitting := (h.2.1 e (List.mem_of_find?_eq_some first) cls).1
    rw [own] at admitting
    have room : (floorCost c i : Int) ≤ r.headroom := by simpa using covered
    have has := Run.hasFloor_serveFloor h admitting calm room
    rw [Run.walk, first]
    dsimp only
    rw [Run.serveEntry_of_floors h floors first, if_pos (by rw [Run.serveFloor_of_room room])]
    exact has.walk _
  | cons j front ih =>
    obtain ⟨n, rfl⟩ := Nat.exists_eq_add_of_lt turns
    obtain ⟨e, first, -⟩ := Run.first_of_floors h floors
    rw [List.cons_append, List.map_cons, List.sum_cons] at covered
    have nonneg : 0 ≤ ((front ++ [i]).map fun j => (floorCost c j : Int)).sum := sum_map_nonneg (floorCost c) _
    have room : (floorCost c j : Int) ≤ r.headroom := by omega
    have less := r.headroom_serveFloor c j
    have distinct := Run.floors_nodup h
    rw [floors, List.cons_append, List.nodup_cons] at distinct
    have other : i ≠ j := fun same => distinct.1 (same ▸ List.mem_append_right _ List.mem_cons_self)
    have life : (r.serveFloor c j).1.life i = r.life i := congrArg SledRun.life ((Run.OthersKept.serveFloor r).sled i other)
    rw [Run.walk, first]
    dsimp only
    rw [Run.serveEntry_of_floors h floors first, if_pos (by rw [Run.serveFloor_of_room room])]
    rw [← life]
    refine ih (Run.queueSound_serveFloor h) (Run.floors_tail h floors room) (by rw [life, calm]) ?_ (by omega)
    rw [List.length_cons]
    omega

end Sys2Proof.Machine
end

section
/-! SUPPORT. The seat of an admission (R25, R38, R44, R64, R65). -/

namespace Sys2Proof.Machine

open Sys2Proof

/-! ## The sled joins -/

/-- A sled at the start of its admission, its FLOOR entry in the queue, before the arbiter serves (R64). -/
def Run.joined (c : Cfg) (i : Sled) (r : Run) : Run := (r.modSled i (SledRun.admitting c i)).join c i .floor

theorem Run.joined_get (c : Cfg) (i : Sled) (r : Run) : (r.joined c i).sleds.get i = (r.sleds.get i).admitting c i := modAt_get_self ..

theorem Run.joined_get_other {c : Cfg} {i j : Sled} {r : Run} (other : j ≠ i) : (r.joined c i).sleds.get j = r.sleds.get j :=
  modAt_get_other other ..

theorem Run.joined_queue {c : Cfg} {i : Sled} {r : Run} (h : r.queueSound) :
    (r.joined c i).queue = r.queue.filter Entry.isFloor
      ++ { sled := i, cls := .floor, wanted := (r.books i).wanted, held := false } :: r.queue.filter fun e => !e.isFloor := by
  have wanted : ((r.modSled i (SledRun.admitting c i)).books i).wanted = (r.books i).wanted :=
    (congrArg (fun x : SledRun => x.books.wanted) (r.joined_get c i)).trans rfl
  refine (insertEntry_floor rfl h.1).trans ?_
  rw [wanted]
  rfl

/-- The seat of the statements is the seat that the model takes. -/
theorem Run.takeSeat_eq {c : Cfg} {i : Sled} {r : Run} (h : r.queueSound) : r.takeSeat c i = (r.joined c i).serve c := by
  have begun : (r.modLife i fun l => { l with
      state := .admitting, admission := some c.globals.admitLimitMs, admitTimeout := false, awaitA := (c.probe (probeA i)).enable
      awaitB := (c.probe (probeB i)).enable, containPending := false }).modBooks i
        (fun b => { b with grant := 0, floorReserved := false }) = r.modSled i (SledRun.admitting c i) := modSled_modSled ..
  have whole : r.joined c i = { r.modSled i (SledRun.admitting c i) with queue := (r.joined c i).queue, arbiterDue := true } :=
    congrArg (fun b => { r.modSled i (SledRun.admitting c i) with queue := (r.joined c i).queue, arbiterDue := b }) (Bool.or_true _)
  rw [whole, Run.joined_queue h]
  unfold Run.takeSeat
  rw [begun]
  rfl

theorem Run.queueSound_joined {c : Cfg} {i : Sled} {r : Run} (h : r.queueSound) (works : r.mode ≠ .config) (new : r.queued i = false) :
    (r.joined c i).queueSound := by
  have own := r.joined_get c i
  refine Run.queueSound_join (Run.queueSound_modSled h new (.inr works)) new (fun _ => ?_) fun other => absurd rfl other
  exact ⟨congrArg (fun x => x.life.state) own, congrArg (fun x => x.books.floorReserved) own⟩

theorem Run.joined_floors {c : Cfg} {i : Sled} {r : Run} (h : r.queueSound) : (r.joined c i).floors = r.floors ++ [i] := by
  rw [Run.floors_eq, Run.floors_eq, Run.joined_queue h, List.filter_append, List.filter_filter, List.filter_cons_of_pos rfl,
    List.filter_filter]
  simp

/-- The sled gives up what it held, and takes nothing yet. -/
theorem Run.joined_headroom (c : Cfg) (i : Sled) (r : Run) : (r.joined c i).headroom = r.headroom + (r.books i).grant := by
  have total := Run.headroom_of_other (r := r) (t := r.joined c i) (i := i) rfl fun j hj => congrArg SledRun.books (Run.joined_get_other hj)
  have units : (r.joined c i).units i = 0 + (r.books i).loan + (r.books i).draining :=
    congrArg (fun x : SledRun => x.books.grant + x.books.loan + x.books.draining) (r.joined_get c i)
  rw [units] at total
  unfold Run.units at total
  omega

/-! ## The seat -/

/-- Once the arbiter has served, the sled waits for its floor or has it. -/
theorem Run.seeks_or_hasFloor {c : Cfg} {i : Sled} {r : Run} (h : r.queueSound) (works : r.mode ≠ .config) (new : r.queued i = false) :
    Run.Seeks i ((r.sleds.get i).admitting c i) r.floors (r.takeSeat c i)
      ∨ Run.HasFloor c i ((r.sleds.get i).admitting c i).life (r.takeSeat c i) := by
  have seeks : Run.Seeks i ((r.sleds.get i).admitting c i) r.floors (r.joined c i) :=
    ⟨Run.queueSound_joined h works new, r.joined_get c i, r.floors, List.suffix_rfl, Run.joined_floors h⟩
  rw [Run.takeSeat_eq h]
  rcases seeks.walk (c := c) rfl walkTurns with ⟨sound, own, floors⟩ | ⟨sound, reserved, raised, life, rests⟩
  · exact .inl ⟨sound, own, floors⟩
  · exact .inr ⟨sound, reserved, raised, life, rests⟩

/-- Fewer sleds wait than the walk has turns. -/
theorem Run.floors_length {r : Run} (h : r.queueSound) : r.floors.length < walkTurns := by
  exact Nat.lt_of_le_of_lt (length_le_of_nodup (Run.floors_nodup h)) (by decide)

theorem Run.takeSeat_reserved {c : Cfg} {i : Sled} {r : Run} (h : r.queueSound) (works : r.mode ≠ .config) (new : r.queued i = false)
    (covered : (r.floors.map fun j => (floorCost c j : Int)).sum + floorCost c i ≤ r.headroom + (r.books i).grant) :
    ((r.takeSeat c i).books i).floorReserved = true := by
  have calm : ((r.joined c i).life i).containPending = false := congrArg (fun x : SledRun => x.life.containPending) (r.joined_get c i)
  rw [Run.takeSeat_eq h]
  refine (Run.hasFloor_walk (Run.queueSound_joined h works new) (Run.joined_floors h) calm (Run.floors_length h) ?_).reserved
  rw [Run.joined_headroom, List.map_append, List.sum_append]
  simpa using covered

/-- Where headroom does not cover the first floor that waits, the arbiter serves nothing. -/
theorem Run.takeSeat_of_short {c : Cfg} {i j : Sled} {F : List Sled} {r : Run} (h : r.queueSound) (works : r.mode ≠ .config)
    (new : r.queued i = false) (front : r.floors ++ [i] = j :: F) (short : r.headroom + (r.books i).grant < floorCost c j) :
    r.takeSeat c i = { r.joined c i with arbiterDue := false } := by
  have sound := Run.queueSound_joined (c := c) h works new
  have floors := (Run.joined_floors (c := c) (i := i) h).trans front
  obtain ⟨e, first, -⟩ := Run.first_of_floors sound floors
  have stops : (r.joined c i).serveEntry c e = (r.joined c i, false) := by
    rw [Run.serveEntry_of_floors sound floors first]
    exact Run.serveFloor_of_short (by rw [Run.joined_headroom]; exact short)
  rw [Run.takeSeat_eq h, Run.serve_of_stop first (by rw [stops]), stops]

/-- With no other sled in the queue, the arbiter serves this sled only. -/
theorem Run.takeSeat_others {c : Cfg} {i j : Sled} {r : Run} (h : r.queueSound) (empty : r.queue = []) (other : j ≠ i) :
    (r.takeSeat c i).sleds.get j = r.sleds.get j := by
  have alone : ∀ x ∈ (r.joined c i).queue, x.sled = i := by
    rw [Run.joined_queue h, empty]
    simp
  have kept : Run.OthersKept c i (r.joined c i) ((r.joined c i).walk c walkTurns) :=
    Run.walk_keeps (P := Run.OthersKept c i (r.joined c i)) (fun t e ht first => by
      have own : e.sled = i := by
        refine Classical.byContradiction fun ne => ?_
        obtain ⟨y, hy, same, -⟩ := ht.entry e (List.mem_of_find?_eq_some first) ne
        exact ne (same.symm.trans (alone y hy))
      exact ht.trans (own ▸ t.serveEntry_kept c e)) (.refl _)
  rw [Run.takeSeat_eq h]
  exact (kept.sled j other).trans (Run.joined_get_other other)

/-- A FLOOR entry that waits stands behind the FLOOR entries of the sleds ahead, and before the other entries. -/
theorem Run.Seeks.split {i : Sled} {x : SledRun} {ahead : List Sled} {r : Run} (h : Run.Seeks i x ahead r) :
    ∃ front e back, r.queue = front ++ e :: back ∧ e.sled = i ∧ e.cls = .floor ∧ e.held = false
      ∧ (∀ y ∈ front, y.cls = .floor ∧ y.sled ∈ ahead) ∧ ∀ y ∈ back, y.cls ≠ .floor := by
  obtain ⟨sound, own, front, behind, floors⟩ := h
  rw [Run.floors_eq] at floors
  obtain ⟨es, fs, whole, sleds, last⟩ := List.map_eq_append_iff.mp floors
  obtain ⟨e, rest, rfl, mine, none⟩ := List.map_eq_cons_iff.mp last
  obtain rfl := List.map_eq_nil_iff.mp none
  have floor {y : Entry} (hy : y ∈ es ++ [e]) : y ∈ r.queue ∧ y.cls = .floor := by
    rw [← whole] at hy
    exact ⟨(List.mem_filter.mp hy).1, Entry.isFloor_iff.mp (List.mem_filter.mp hy).2⟩
  obtain ⟨mem, cls⟩ := floor (y := e) (by simp)
  refine ⟨es, e, r.queue.filter fun y => !y.isFloor, ?_, mine, cls, (sound.2.1 e mem cls).2.2, fun y hy => ⟨?_, ?_⟩, fun y hy floor => ?_⟩
  · conv => lhs; rw [queue_split sound.1, whole]
    simp
  · exact (floor (List.mem_append_left _ hy)).2
  · exact behind.subset (sleds ▸ List.mem_map_of_mem hy)
  · simpa [Entry.isFloor_iff.mpr floor] using (List.mem_filter.mp hy).2

end Sys2Proof.Machine
end

section
/-! SUPPORT. The first due events of an admission (R64, R112, R113, R115). -/

namespace Sys2Proof.Machine

open Sys2Proof

/-! ## The thermal records of the other sleds -/

theorem Run.record_therm (c : Cfg) (v : Severity) (f : FaultRecord) (r : Run) (j : Sled) : (r.record c v f).therm j = r.therm j := by
  rw [r.record_frame]
  rfl

theorem SledRun.boostEnded_therm (x : SledRun) : x.boostEnded.therm = x.therm := by
  unfold SledRun.boostEnded
  dsimp only
  split <;> rfl

/-- A fault leaves the thermal records (R138 to R144). -/
theorem Run.raise_therm (c : Cfg) (k : FaultClass) (x : Subject) (d : Nat) (r : Run) (j : Sled) : (r.raise c k x d).therm j = r.therm j := by
  cases action : c.routing.get k.index with
  | ignore => rw [Run.raise_of_ignore action]
  | report => rw [Run.raise_of_report action, Run.record_therm]
  | contain =>
    rw [Run.raise_of_contain action]
    exact ((Run.contain_spec (c := c) (Run.covered_nodup _ x) _).1.therm j).trans (Run.record_therm ..)
  | safe =>
    rw [Run.raise_of_safe action, Run.demandSafe_eq]
    split
    · exact ((congrArg SledRun.therm ((Run.toSafe_spec c _).2.1 j)).trans (SledRun.boostEnded_therm _)).trans (Run.record_therm ..)
    · exact Run.record_therm ..

theorem Run.evaluate_other (c : Cfg) {i j : Sled} (r : Run) (other : j ≠ i) : (r.evaluate c i).sleds.get j = r.sleds.get j := by
  cases inService : (r.life i).state.inService with
  | false => rw [Run.evaluate_of_out inService]
  | true => exact (Run.evaluate_frame inService).1 j other

/-- From `r` to `t` nothing is measured on an alert line, and no sled but `i` is evaluated. -/
structure Run.Apart (i : Sled) (r t : Run) : Prop where
  quiet : Run.Quiet r t
  therm : ∀ j, j ≠ i → t.therm j = r.therm j

theorem Run.Apart.refl (i : Sled) (r : Run) : Run.Apart i r r := ⟨.refl r, fun _ _ => rfl⟩

theorem Run.Apart.trans {i : Sled} {r t u : Run} (h : Run.Apart i r t) (k : Run.Apart i t u) : Run.Apart i r u :=
  ⟨h.quiet.trans k.quiet, fun j other => (k.therm j other).trans (h.therm j other)⟩

theorem Run.Apart.onLanes {i : Sled} {r t : Run} (h : Run.OnLanes r t) (q : Run.Quiet r t) : Run.Apart i r t :=
  ⟨q, fun j _ => congrArg (fun v : Vector SledRun 24 => (v.get j).therm) h.sleds⟩

theorem Run.Apart.evaluate (c : Cfg) (i : Sled) (r : Run) : Run.Apart i r (r.evaluate c i) :=
  ⟨.evaluate .., fun _ other => congrArg SledRun.therm (r.evaluate_other c other)⟩

/-- An outcome is evaluated for its own sled only (R135). -/
theorem Run.Apart.handOutcome (c : Cfg) (p : Probe) (o : PollResult) (r : Run) : Run.Apart (sledOfProbe p) r (r.handOutcome c p o) := by
  refine ⟨.handOutcome .., fun j other => ?_⟩
  cases o with
  | success cls value =>
    rw [Run.handSuccess_eq]
    refine (congrArg SledRun.therm (Run.evaluate_other c _ other)).trans ?_
    split
    · refine ((Run.Accounts.settleAdmission c _ _).therm j).trans ?_
      exact congrArg SledRun.therm (modAt_get_other other ..)
    · rfl
  | failure reason raw =>
    rw [Run.handFailure_eq]
    refine (congrArg SledRun.therm (Run.evaluate_other c _ other)).trans ?_
    have faults : ((r.failed c p reason).implausible c p raw).therm j = r.therm j := by
      cases raw with
      | none => rfl
      | some k => exact Run.raise_therm ..
    split
    · exact (Run.raise_therm ..).trans faults
    · exact faults

/-! ## One first due event -/

section FirstDue
variable {c : Cfg} {p : Probe} {r : Run}

/-- The probe's marks as its sled is admitted (R64). -/
def Run.marked (c : Cfg) (p : Probe) (r : Run) : Run :=
  r.modProbe p fun x => { x with needsInit := true, overruns := 0, due := some (c.probe p).pollMs }

theorem Run.marked_queued : (r.marked c p).modProbe p (fun x => { x with run := .queued })
    = r.modProbe p fun x => { x with needsInit := true, overruns := 0, due := some (c.probe p).pollMs, run := .queued } :=
  r.modProbe_modProbe p _ _

theorem Run.takeFirstDue_of_failed (failed : (r.lane (laneOfProbe p)).state = .failed) :
    r.takeFirstDue c p = (r.marked c p).handOutcome c p (.failure .laneFailed none) := if_pos failed

/-- The probe is marked and stands at the back of its lane's queue. -/
def Run.lined (c : Cfg) (p : Probe) (r : Run) : Run :=
  ((r.marked c p).modProbe p fun x => { x with run := .queued }).modLane (laneOfProbe p) fun y => { y with queue := y.queue ++ [p] }

theorem Run.takeFirstDue_of_works (works : (r.lane (laneOfProbe p)).state ≠ .failed) :
    r.takeFirstDue c p = (r.lined c p).serveLane c (laneOfProbe p) := if_neg works

theorem Run.lined_probe (q : Probe) :
    (r.lined c p).probe q
      = if q = p then { r.probe p with needsInit := true, overruns := 0, due := some (c.probe p).pollMs, run := .queued } else r.probe q := by
  unfold Run.lined
  rw [Run.marked_queued, Run.modLane_probe]
  exact Run.modProbe_probe _ p q _

theorem Run.lined_lane (m : LaneNo) :
    (r.lined c p).lane m
      = if m = laneOfProbe p then { r.lane (laneOfProbe p) with queue := (r.lane (laneOfProbe p)).queue ++ [p] } else r.lane m :=
  Run.modLane_lane _ _ m _

/-- What a first due event leaves, with the lanes served before it. -/
structure Run.TakenDue (c : Cfg) (p : Probe) (r t : Run) : Prop where
  others : ∀ q, q ≠ p → t.probe q = r.probe q
  marks : (t.probe p).needsInit = true ∧ (t.probe p).overruns = 0 ∧ (t.probe p).due = some (c.probe p).pollMs
  failed : (r.lane (laneOfProbe p)).state = .failed →
    t.lanes = r.lanes
      ∧ t.probe p =
          { r.probe p with
            needsInit := true, overruns := 0, due := some (c.probe p).pollMs, failures := r.failures p, lastReason := some .laneFailed
            lastTime := some r.clock.stamp, health := r.worse c p }
  works : (r.lane (laneOfProbe p)).state ≠ .failed → Run.OnLanes r t ∧ (t.lane (laneOfProbe p)).state ≠ .failed

open scoped Classical in
/-- A lane that has failed hands a failure on; another one serves the probe where it is IDLE (R113, R115). -/
theorem Run.takenDue_takeFirstDue (served : r.lanesServed) : Run.TakenDue c p r (r.takeFirstDue c p) := by
  by_cases failed : (r.lane (laneOfProbe p)).state = .failed
  · have own : (r.marked c p).probe p
        = { r.probe p with needsInit := true, overruns := 0, due := some (c.probe p).pollMs } := Run.modProbe_probe_self ..
    have probes : (r.takeFirstDue c p).probes = ((r.marked c p).failed c p .laneFailed).probes := by
      rw [Run.takeFirstDue_of_failed failed]
      exact Run.handFailure_probes ..
    have probe (q : Probe) : (r.takeFirstDue c p).probe q = ((r.marked c p).failed c p .laneFailed).probe q :=
      congrArg (fun v : Vector ProbeRun _ => v.get q) probes
    have count : (r.marked c p).failures p = r.failures p := by
      unfold Run.failures
      rw [own]
    have health : (r.marked c p).worse c p = r.worse c p := by
      unfold Run.worse
      rw [count]
    have after : (r.takeFirstDue c p).probe p =
        { r.probe p with
          needsInit := true, overruns := 0, due := some (c.probe p).pollMs, failures := r.failures p, lastReason := some .laneFailed
          lastTime := some r.clock.stamp, health := r.worse c p } := by
      rw [probe p]
      unfold Run.failed
      rw [Run.modProbe_probe_self, own, count, health]
      rfl
    refine ⟨fun q other => ?_, by rw [after]; exact ⟨rfl, rfl, rfl⟩, fun _ => ⟨?_, after⟩, fun works => absurd failed works⟩
    · rw [probe q]
      exact ((Run.modProbe_probe _ p q _).trans (if_neg other)).trans ((Run.modProbe_probe _ p q _).trans (if_neg other))
    · rw [Run.takeFirstDue_of_failed failed]
      exact Run.handOutcome_lanes ..
  · have lined : Run.OnLanes r (r.lined c p) :=
      (Run.OnLanes.modProbe p _ r).trans ((Run.OnLanes.modProbe p _ _).trans (.modLane ..))
    have probe (q : Probe) := Run.lined_probe (c := c) (p := p) (r := r) q
    have lane : (r.lined c p).lane (laneOfProbe p) = { r.lane (laneOfProbe p) with queue := (r.lane (laneOfProbe p)).queue ++ [p] } :=
      (Run.lined_lane _).trans (if_pos rfl)
    rw [Run.takeFirstDue_of_works failed]
    by_cases idle : (r.lane (laneOfProbe p)).state = .idle
    · have started := Run.laneServed_serveLane (c := c) (p := p) (rest := []) ((congrArg Lane.state lane).trans idle)
        ((congrArg Lane.queue lane).trans (by rw [served _ idle]; rfl))
      generalize (r.lined c p).serveLane c (laneOfProbe p) = t at started ⊢
      refine ⟨fun q other => ?_, ?_, fun yes => absurd yes failed, fun _ => ⟨lined.trans started.onLanes, ?_⟩⟩
      · rw [started.probe q, if_neg other, probe q, if_neg other]
      · rw [started.probe p, if_pos rfl, probe p, if_pos rfl]
        exact ⟨rfl, rfl, rfl⟩
      · rw [started.lane]
        nofun
    · rw [Run.serveLane_of_busy (by rw [lane]; exact idle)]
      refine ⟨fun q other => ?_, ?_, fun yes => absurd yes failed, fun _ => ⟨lined, by rw [lane]; exact failed⟩⟩
      · rw [probe q, if_neg other]
      · rw [probe p, if_pos rfl]
        exact ⟨rfl, rfl, rfl⟩

theorem Run.Apart.takeFirstDue : Run.Apart (sledOfProbe p) r (r.takeFirstDue c p) := by
  have marked : Run.Apart (sledOfProbe p) r (r.marked c p) := .onLanes (.modProbe ..) (.modProbe ..)
  by_cases failed : (r.lane (laneOfProbe p)).state = .failed
  · rw [Run.takeFirstDue_of_failed failed]
    exact marked.trans (.handOutcome ..)
  · rw [Run.takeFirstDue_of_works failed]
    exact marked.trans (.onLanes ((Run.OnLanes.modProbe p _ _).trans ((Run.OnLanes.modLane ..).trans (.serveLane ..)))
      ((Run.Quiet.modProbe p _ _).trans ((Run.Quiet.modLane ..).trans (.serveLane ..))))

end FirstDue

end Sys2Proof.Machine
end

section
/-! SUPPORT. The first due events and the edge of an admission, whole (R64, R97 to R99, R102, R113). -/

namespace Sys2Proof.Machine

open Sys2Proof

/-! ## The first due events in their order (R64) -/

/-- The record of a probe whose first due event finds its lane FAILED (R113, R134). -/
def Run.failedDue (c : Cfg) (p : Probe) (r : Run) : ProbeRun :=
  { r.probe p with
    needsInit := true, overruns := 0, due := some (c.probe p).pollMs, failures := r.failures p, lastReason := some .laneFailed
    lastTime := some r.clock.stamp, health := r.worse c p }

theorem Run.failedDue_congr {c : Cfg} {p : Probe} {r t : Run} (probe : t.probe p = r.probe p) (clock : t.clock = r.clock) :
    t.failedDue c p = r.failedDue c p := by
  unfold Run.failedDue Run.worse Run.failures
  rw [probe, clock]

/-- The model's order of the first due events is one of the two (R64; assumption 5). -/
theorem Run.firstDueOrder_eq (c : Cfg) (i : Sled) (r : Run) :
    ∃ order, (order = [probeA i, probeB i] ∨ order = [probeB i, probeA i])
      ∧ r.firstDueOrder c i = order.filter fun p => (c.probe p).enable := by
  unfold Run.firstDueOrder enabledProbes
  by_cases a : (c.probe (probeA i)).enable = true
  · by_cases b : (c.probe (probeB i)).enable = true
    · by_cases swap : Config.probeBFirst r.free = true
      · exact ⟨_, .inr rfl, by simp [a, b, swap]⟩
      · exact ⟨_, .inl rfl, by simp [a, b, swap]⟩
    · exact ⟨_, .inl rfl, by simp [a, b]⟩
  · by_cases b : (c.probe (probeB i)).enable = true
    · exact ⟨_, .inl rfl, by simp [a, b]⟩
    · exact ⟨_, .inl rfl, by simp [a, b]⟩

section Dues
variable {c : Cfg} {i : Sled} {ps : List Probe}

/-- What the first due events of probes of sled `i` leave, with the lanes served before them. -/
structure Run.DuesTaken (c : Cfg) (i : Sled) (ps : List Probe) (r t : Run) : Prop where
  others : ∀ q, q ∉ ps → t.probe q = r.probe q
  marks : ∀ p ∈ ps, (t.probe p).needsInit = true ∧ (t.probe p).overruns = 0 ∧ (t.probe p).due = some (c.probe p).pollMs
  failed : (r.lane (laneOfSled i)).state = .failed → t.lanes = r.lanes ∧ ∀ p ∈ ps, t.probe p = r.failedDue c p
  works : (r.lane (laneOfSled i)).state ≠ .failed → Run.OnLanes r t
  apart : Run.Apart i r t

theorem Run.duesTaken {r : Run} (nodup : ps.Nodup) (own : ∀ p ∈ ps, sledOfProbe p = i ∧ laneOfProbe p = laneOfSled i)
    (idle : ∀ p ∈ ps, (r.probe p).run = .idle) (served : r.lanesServed) :
    ps.foldl (fun r p => r.firstDue c p) r = ps.foldl (fun r p => r.takeFirstDue c p) r
      ∧ Run.DuesTaken c i ps r (ps.foldl (fun r p => r.takeFirstDue c p) r) := by
  induction ps generalizing r with
  | nil => exact ⟨rfl, fun _ _ => rfl, nofun, fun _ => ⟨rfl, nofun⟩, fun _ => .refl r, .refl i r⟩
  | cons p ps ih =>
    obtain ⟨new, nodup⟩ := List.nodup_cons.mp nodup
    obtain ⟨⟨sled, lane⟩, own⟩ := List.forall_mem_cons.mp own
    obtain ⟨still, idle⟩ := List.forall_mem_cons.mp idle
    have first := Run.takenDue_takeFirstDue (c := c) (p := p) served
    have same := Run.firstDue_of_idle (c := c) still
    have served' : (r.takeFirstDue c p).lanesServed := same ▸ Run.lanesServed_firstDue served
    have apart : Run.Apart i r (r.takeFirstDue c p) := sled ▸ .takeFirstDue
    have ne {q : Probe} (hq : q ∈ ps) : q ≠ p := fun e => new (e ▸ hq)
    obtain ⟨whole, rest⟩ := ih nodup own (r := r.takeFirstDue c p) (fun q hq => by rw [first.others q (ne hq), idle q hq]) served'
    rw [List.foldl_cons, List.foldl_cons, same]
    refine ⟨whole, fun q out => ?_, List.forall_mem_cons.mpr ⟨?_, rest.marks⟩, fun failed => ?_, fun works => ?_, apart.trans rest.apart⟩
    · obtain ⟨other, out⟩ := not_or.mp (mt List.mem_cons.mpr out)
      exact (rest.others q out).trans (first.others q other)
    · rw [rest.others p new]
      exact first.marks
    · obtain ⟨lanes, after⟩ := first.failed (lane ▸ failed)
      obtain ⟨lanes', afters⟩ := rest.failed ((congrArg (fun v : Vector Lane _ => (v.get (laneOfSled i)).state) lanes).trans failed)
      refine ⟨lanes'.trans lanes, List.forall_mem_cons.mpr ⟨(rest.others p new).trans after, fun q hq => ?_⟩⟩
      exact (afters q hq).trans (Run.failedDue_congr (first.others q (ne hq)) apart.quiet.clock)
    · obtain ⟨onLanes, still⟩ := first.works (lane ▸ works)
      exact onLanes.trans (rest.works (lane ▸ still))

end Dues

/-! ## The edge (R97 to R99, R102) -/

section Edge
variable {c : Cfg} {i : Sled} {r : Run}

theorem Run.setAlert_self : r.setAlert i (r.alert i) = r := by
  have sleds : modAt i (fun x => { x with alert := r.alert i }) r.sleds = r.sleds := modAt_of_fixed rfl
  exact congrArg (fun v => { r with sleds := v }) sleds

/-- Whether a line is held asserted (R97). -/
def Run.asserted (c : Cfg) (i : Sled) (r : Run) : Prop := (r.alert i).accepted ≠ (c.sled i).alertPolarity.deasserted

theorem Run.alertLevel_iff (inService : (r.life i).state.inService = true) : r.alertLevel c i = true ↔ r.asserted c i := by
  have level := Run.setAlert_level (c := c) (i := i) (r := r) (a := r.alert i)
  rw [Run.setAlert_self, inService, Bool.true_and] at level
  rw [level, decide_eq_true_iff]
  rfl

end Edge

/-! ## What the edge leaves -/

/-- The marks of the probes that an admission sets are as they were. -/
structure Run.MarksKept (r t : Run) : Prop where
  each : ∀ p, (t.probe p).needsInit = (r.probe p).needsInit ∧ (t.probe p).overruns = (r.probe p).overruns ∧ (t.probe p).due = (r.probe p).due

theorem Run.MarksKept.of_probes {r t : Run} (h : t.probes = r.probes) : Run.MarksKept r t := ⟨fun p => by
  have same : t.probe p = r.probe p := congrArg (fun v : Vector ProbeRun _ => v.get p) h
  rw [same]
  exact ⟨rfl, rfl, rfl⟩⟩

theorem Run.MarksKept.trans {r t u : Run} (h : Run.MarksKept r t) (k : Run.MarksKept t u) : Run.MarksKept r u := ⟨fun p => by
  obtain ⟨inits, overruns, due⟩ := h.each p
  obtain ⟨inits', overruns', due'⟩ := k.each p
  exact ⟨inits'.trans inits, overruns'.trans overruns, due'.trans due⟩⟩

theorem Run.MarksKept.modProbe {p : Probe} {f : ProbeRun → ProbeRun} {r : Run}
    (h : (f (r.probe p)).needsInit = (r.probe p).needsInit ∧ (f (r.probe p)).overruns = (r.probe p).overruns
      ∧ (f (r.probe p)).due = (r.probe p).due) : Run.MarksKept r (r.modProbe p f) := ⟨fun q => by
  rw [Run.modProbe_probe]
  split
  · next e => rw [e]; exact h
  · exact ⟨rfl, rfl, rfl⟩⟩

open scoped Classical in
theorem Run.MarksKept.serveLane (c : Cfg) (n : LaneNo) (r : Run) : Run.MarksKept r (r.serveLane c n) := by
  by_cases idle : (r.lane n).state = .idle
  · cases queue : (r.lane n).queue with
    | nil => rw [Run.serveLane_of_empty queue]; exact .of_probes rfl
    | cons p rest =>
      have served := Run.laneServed_serveLane (c := c) idle queue
      refine ⟨fun q => ?_⟩
      rw [served.probe q]
      split
      · next e => rw [e]; exact ⟨rfl, rfl, rfl⟩
      · exact ⟨rfl, rfl, rfl⟩
  · rw [Run.serveLane_of_busy idle]
    exact .of_probes rfl

theorem Run.handSuccess_probes (c : Cfg) (p : Probe) (cls : Heat) (value : Option Int) (r : Run) :
    (r.handOutcome c p (.success cls value)).probes = (r.succeeded p cls value).probes := by
  rw [Run.handSuccess_eq, Run.evaluate_probes]
  split
  · exact (congrArg Run.probes (Run.Accounts.settleAdmission c _ _).frame).trans rfl
  · rfl

theorem Run.MarksKept.freeLane (c : Cfg) (n : LaneNo) (r : Run) : Run.MarksKept r (r.freeLane c n) := by
  have freed : Run.MarksKept r (r.modLane n fun x => { x with state := .idle, poll := .absent }) := .of_probes rfl
  exact freed.trans (.serveLane ..)

section EdgeLeaves
variable (c : Cfg) (i : Sled) (r : Run)

theorem Run.MarksKept.endPoll_success (n : LaneNo) (p : Probe) (cls : Heat) (value : Option Int) :
    Run.MarksKept r (r.endPoll c n p (.success cls value)) := by
  have success : Run.MarksKept r (r.handOutcome c p (.success cls value)) :=
    (Run.MarksKept.modProbe ⟨rfl, rfl, rfl⟩).trans (.of_probes (Run.handSuccess_probes c p cls value r))
  exact success.trans ((Run.MarksKept.modProbe (f := fun x => { x with run := .idle }) ⟨rfl, rfl, rfl⟩).trans (.freeLane ..))

theorem Run.MarksKept.offerReady : Run.MarksKept r (r.offerReady c i) := by
  rw [Run.offerReady_eq]
  split
  · split
    · split
      · exact endPoll_success ..
      · exact .of_probes rfl
    · exact .of_probes rfl
  · exact .of_probes rfl
  · exact .of_probes rfl

theorem Run.MarksKept.followAlert : Run.MarksKept r (r.followAlert c i) := by
  unfold Run.followAlert Run.assertingEdge Run.deassertingEdge
  dsimp only
  split
  · split
    · exact .of_probes (Run.evaluate_probes ..)
    · exact (Run.MarksKept.of_probes (r := r) (t := r.modAlert i fun a => a.beginAssertion r.clock.stamp) rfl).trans (.offerReady ..)
    · exact .of_probes rfl
  · split
    · exact .of_probes (Run.evaluate_probes ..)
    · exact .of_probes rfl
    · exact .of_probes rfl
  · exact .of_probes rfl
  · exact .of_probes rfl

/-- Without a poll on its lane, an edge leaves the probes. -/
theorem Run.followAlert_probes {c : Cfg} {i : Sled} {r : Run} (none : (r.lane (laneOfSled i)).poll = .absent) :
    (r.followAlert c i).probes = r.probes := by
  have offer (a : Alert → Alert) : (r.modAlert i a).offerReady c i = r.modAlert i a :=
    Run.offerReady_of_none fun q poll _ => absurd (none.symm.trans poll) nofun
  unfold Run.followAlert Run.assertingEdge Run.deassertingEdge
  dsimp only
  split
  · split
    · exact Run.evaluate_probes ..
    · rw [offer]
      rfl
    · rfl
  · split
    · exact Run.evaluate_probes ..
    · rfl
    · rfl
  · rfl
  · rfl

theorem Run.Apart.offerReady : Run.Apart i r (r.offerReady c i) := by
  refine ⟨.offerReady .., ?_⟩
  rw [Run.offerReady_eq]
  split
  · next q _ =>
    split
    · next waits =>
      split
      · intro j other
        have ended : (r.endPoll c (laneOfSled i) q.probe (.success (c.probe q.probe).selfClass none)).therm j
            = (r.handOutcome c q.probe (.success (c.probe q.probe).selfClass none)).therm j :=
          congrArg (fun v : Vector SledRun 24 => (v.get j).therm)
            ((Run.OnLanes.modProbe q.probe _ _).trans (.freeLane ..)).sleds
        exact ended.trans ((Run.Apart.handOutcome c q.probe _ r).therm j (by rw [waits.1]; exact other))
      · exact fun _ _ => rfl
    · exact fun _ _ => rfl
  · exact fun _ _ => rfl
  · exact fun _ _ => rfl

theorem Run.Apart.handEdge (a : Alert) : Run.Apart i (r.setAlert i a) (r.handEdge c i a) := by
  unfold Run.handEdge
  split
  · exact .evaluate ..
  · exact .refl ..

/-- An edge is measured on its own line, and evaluated for its own sled; a line that is not asserted and shows no assertion gives
none (R97, R98). -/
theorem Run.followAlert_apart {c : Cfg} {i : Sled} {r : Run} (inService : (r.life i).state.inService = true) :
    ∃ a, Run.Apart i (r.setAlert i a) (r.followAlert c i)
      ∧ ((r.alert i).filtered = false →
          (r.asserted c i → a = (r.alert i).beginAssertion r.clock.stamp)
            ∧ (¬r.asserted c i → a = r.alert i ∧ r.followAlert c i = r)) := by
  have level := Run.alertLevel_iff (c := c) inService
  have whole := Run.setAlert_self (i := i) (r := r)
  have same (h : r.alertLevel c i = (r.alert i).filtered) : Run.Apart i (r.setAlert i (r.alert i)) (r.followAlert c i) := by
    rw [Run.followAlert_of_same h, whole]
    exact .refl i r
  by_cases asserted : r.asserted c i
  · have high := level.mpr asserted
    cases filtered : (r.alert i).filtered with
    | true => exact ⟨_, same (high.trans filtered.symm), nofun⟩
    | false =>
      have rises := Run.followAlert_of_rises (c := c) (by rw [whole]; exact high) filtered
      rw [whole] at rises
      refine ⟨_, ?_, fun _ => ⟨fun _ => rfl, fun not => absurd asserted not⟩⟩
      rw [rises]
      split
      · exact (Run.Apart.handEdge ..).trans (.offerReady ..)
      · exact .handEdge ..
  · have low := Bool.eq_false_iff.mpr (mt level.mp asserted)
    cases filtered : (r.alert i).filtered with
    | true =>
      have falls := Run.followAlert_of_falls (c := c) (by rw [whole]; exact low) filtered
      rw [whole] at falls
      refine ⟨(r.alert i).endAssertion, ?_, nofun⟩
      rw [falls]
      exact .handEdge ..
    | false =>
      exact ⟨_, same (low.trans filtered.symm), fun _ => ⟨fun yes => absurd yes asserted,
        fun _ => ⟨rfl, Run.followAlert_of_same (low.trans filtered.symm)⟩⟩⟩

end EdgeLeaves

end Sys2Proof.Machine
end

section
/-! SUPPORT. An admission whole (R62 to R65, R97, R113). -/

namespace Sys2Proof.Machine

open Sys2Proof

/-! ## The admission of the statements -/

theorem own_mem_order {i : Sled} {order : List Probe} (h : order = [probeA i, probeB i] ∨ order = [probeB i, probeA i]) (p : Probe) :
    p ∈ order ↔ p = probeA i ∨ p = probeB i := by
  rcases h with rfl | rfl
  · simp
  · simp [or_comm]

theorem own_nodup {i : Sled} {order : List Probe} (h : order = [probeA i, probeB i] ∨ order = [probeB i, probeA i]) : order.Nodup := by
  have ne : probeA i ≠ probeB i := by simp [probeA, probeB, Fin.ext_iff]
  rcases h with rfl | rfl
  · simp [ne]
  · simp [ne.symm]

/-- The enabled probes of a sled in the order of their first due events. -/
def dueIn (c : Cfg) (order : List Probe) : List Probe := order.filter fun p => (c.probe p).enable

/-- The first due events and all that follows them, after the seat `u` (R64). -/
def Run.admits (c : Cfg) (i : Sled) (ps : List Probe) (u : Run) : Run :=
  ((ps.foldl (fun r p => r.firstDue c p) u.spendFree).followAlert c i).post c (.sled i)

theorem Run.startAdmission_eq {c : Cfg} {i : Sled} {r : Run} (h : r.queueSound) :
    r.startAdmission c i = (r.takeSeat c i).admits c i ((r.takeSeat c i).firstDueOrder c i) := by
  have begun : (r.modLife i fun l => { l with
      state := .admitting, containPending := false, admitTimeout := false, awaitA := (c.probe (probeA i)).enable
      awaitB := (c.probe (probeB i)).enable, admission := some c.globals.admitLimitMs }).modBooks i
        (fun b => { b with grant := 0, floorReserved := false }) = r.modSled i (SledRun.admitting c i) := modSled_modSled ..
  rw [Run.takeSeat_eq h]
  unfold Run.startAdmission
  dsimp only
  rw [begun]
  rfl

/-- The seat touches neither lanes nor probes, neither alert lines nor thermal records. -/
structure Run.SeatTaken (c : Cfg) (i : Sled) (r u : Run) : Prop where
  lanes : u.lanes = r.lanes
  probes : u.probes = r.probes
  clock : u.clock = r.clock
  mode : u.mode = r.mode
  alert : ∀ j, u.alert j = r.alert j
  therm : ∀ j, u.therm j = r.therm j

theorem Run.seatTaken {c : Cfg} {i : Sled} {r : Run} (h : r.queueSound) : Run.SeatTaken c i r (r.takeSeat c i) := by
  have accounts := Run.Accounts.serve c (r.joined c i)
  have sled (j : Sled) : ((r.joined c i).sleds.get j).alert = r.alert j ∧ ((r.joined c i).sleds.get j).therm = r.therm j := by
    by_cases own : j = i
    · rw [own, Run.joined_get]
      exact ⟨rfl, rfl⟩
    · rw [Run.joined_get_other own]
      exact ⟨rfl, rfl⟩
  rw [Run.takeSeat_eq h]
  refine ⟨(congrArg Run.lanes accounts.frame).trans rfl, (congrArg Run.probes accounts.frame).trans rfl,
    (congrArg Run.clock accounts.frame).trans rfl, (congrArg Run.mode accounts.frame).trans rfl, fun j => ?_, fun j => ?_⟩
  · exact ((congrArg SledRun.alert (accounts.sled j).same).trans rfl).trans (sled j).1
  · exact ((congrArg SledRun.therm (accounts.sled j).same).trans rfl).trans (sled j).2

/-! ## What follows the seat -/

section After
variable {c : Cfg} {i : Sled} {order : List Probe} {u : Run}

/-- What an admission leaves after its seat `u`. -/
structure Run.Admitted (c : Cfg) (i : Sled) (u t : Run) : Prop where
  whole : ∃ order, (order = [probeA i, probeB i] ∨ order = [probeB i, probeA i])
    ∧ t = (((dueIn c order).foldl (fun r p => r.takeFirstDue c p) u.spendFree).takeEdge c i).post c (.sled i)
  calm : (u.lane (laneOfSled i)).state ≠ .failed → ¬u.asserted c i → (u.alert i).filtered = false →
    t.sleds = u.sleds ∧ t.queue = u.queue
  others : ∀ j, j ≠ i → t.therm j = u.therm j ∧ t.alert j = u.alert j
  rises : (u.alert i).filtered = false → u.asserted c i → t.alert i = (u.alert i).beginAssertion u.clock.stamp
  stays : (u.alert i).filtered = false → ¬u.asserted c i → t.alert i = u.alert i
  marks : ∀ p, p = probeA i ∨ p = probeB i → (c.probe p).enable = true →
    (t.probe p).needsInit = true ∧ (t.probe p).overruns = 0 ∧ (t.probe p).due = some (c.probe p).pollMs
  failed : (u.lane (laneOfSled i)).state = .failed → (u.lane (laneOfSled i)).poll = .absent →
    ∀ p, p = probeA i ∨ p = probeB i → (c.probe p).enable = true → t.probe p = u.failedDue c p
  notice : c.mask.sled = true → t.notices.sled.get i = true

theorem Run.admitted_admits (inService : (u.life i).state.inService = true) (works : u.mode ≠ .config) (served : u.lanesServed)
    (idle : ∀ p, p = probeA i ∨ p = probeB i → (u.probe p).run = .idle) :
    Run.Admitted c i u (u.admits c i (u.firstDueOrder c i)) := by
  obtain ⟨order, two, same⟩ := Run.firstDueOrder_eq c i u
  have mem (p : Probe) : p ∈ dueIn c order ↔ (p = probeA i ∨ p = probeB i) ∧ (c.probe p).enable = true := by
    unfold dueIn
    rw [List.mem_filter, own_mem_order two]
  have own (p : Probe) (hp : p ∈ dueIn c order) : sledOfProbe p = i ∧ laneOfProbe p = laneOfSled i := by
    have sled := sledOfProbe_iff.mpr ((mem p).mp hp).1
    exact ⟨sled, laneOfProbe_of_sled sled⟩
  have lanes : u.spendFree.lanesServed := served
  obtain ⟨firsts, taken⟩ := Run.duesTaken (c := c) (i := i) (ps := dueIn c order) (r := u.spendFree) ((own_nodup two).filter _) own
    (fun p hp => idle p ((mem p).mp hp).1) lanes
  unfold Run.admits
  rw [same, show (order.filter fun p => (c.probe p).enable) = dueIn c order from rfl, firsts]
  generalize hd : (dueIn c order).foldl (fun r p => r.takeFirstDue c p) u.spendFree = d at taken
  have alert (j : Sled) : d.alert j = u.alert j := taken.apart.quiet.alert j
  have clock : d.clock = u.clock := taken.apart.quiet.clock
  have asserted : d.asserted c i ↔ u.asserted c i := by
    unfold Run.asserted
    rw [alert]
  have serviced : (d.life i).state.inService = true := taken.apart.quiet.service i inService
  obtain ⟨a, apart, edge⟩ := Run.followAlert_apart (c := c) serviced
  have working : (d.followAlert c i).mode ≠ .config := by
    have before : d.mode ≠ .config := by
      rcases taken.apart.quiet.mode with same | ⟨-, safe⟩
      · rw [same]; exact works
      · rw [safe]; nofun
    rcases apart.quiet.mode with same | ⟨-, safe⟩
    · rw [same]; exact before
    · rw [safe]; nofun
  have sleds : ((d.followAlert c i).post c (.sled i)).sleds = (d.followAlert c i).sleds := Run.post_sleds ..
  have line (j : Sled) : ((d.followAlert c i).post c (.sled i)).alert j = (d.setAlert i a).alert j :=
    (congrArg (fun v : Vector SledRun 24 => (v.get j).alert) sleds).trans (apart.quiet.alert j)
  have probes (p : Probe) : ((d.followAlert c i).post c (.sled i)).probe p = (d.followAlert c i).probe p := by
    obtain ⟨n, e⟩ := (d.followAlert c i).post_eq c (.sled i)
    rw [e]
    rfl
  rw [alert, clock] at edge
  refine ⟨⟨order, two, ?_⟩, fun healthy low free => ?_, fun j other => ⟨?_, ?_⟩, fun free high => ?_, fun free low => ?_,
    fun p hp on => ?_, fun failed none p hp on => ?_, fun masked => ?_⟩
  · rw [hd, Run.followAlert_of_inService serviced]
  · obtain ⟨-, calm⟩ := (edge free).2 (mt asserted.mp low)
    have onLanes := taken.works healthy
    rw [sleds, calm, Run.post_queue, onLanes.sleds]
    exact ⟨rfl, (congrArg Run.queue onLanes).trans rfl⟩
  · refine ((congrArg (fun v : Vector SledRun 24 => (v.get j).therm) sleds).trans (apart.therm j other)).trans ?_
    exact (congrArg SledRun.therm (modAt_get_other other ..)).trans (taken.apart.therm j other)
  · rw [line]
    exact (congrArg SledRun.alert (modAt_get_other other ..)).trans (alert j)
  · rw [line, Run.setAlert_alert]
    exact (edge free).1 (asserted.mpr high)
  · rw [line, Run.setAlert_alert]
    exact ((edge free).2 (mt asserted.mp low)).1
  · obtain ⟨inits, overruns, due⟩ := (Run.MarksKept.followAlert c i d).each p
    rw [probes, inits, overruns, due]
    exact taken.marks p ((mem p).mpr ⟨hp, on⟩)
  · obtain ⟨lanes, dues⟩ := taken.failed failed
    have poll : (d.lane (laneOfSled i)).poll = .absent :=
      (congrArg (fun v : Vector Lane _ => (v.get (laneOfSled i)).poll) lanes).trans none
    rw [probes]
    refine (congrArg (fun v : Vector ProbeRun _ => v.get p) (Run.followAlert_probes (c := c) poll)).trans ?_
    exact dues p ((mem p).mpr ⟨hp, on⟩)
  · exact Run.post_sled_pending i working masked

end After

/-! ## The settle count expires (R62, R63) -/

section Settle
variable {c : Cfg} {i : Sled} {r : Run}

theorem Run.settlePresence_of_kept (h : (r.life i).present = decide ((r.life i).prs = .low) ∨ (r.life i).state = .disabled) :
    r.settlePresence c i = r.modLife i fun l => { l with settle := none, present := decide ((r.life i).prs = .low) } := by
  have now : ((r.life i).prs == .low) = decide ((r.life i).prs = .low) := rfl
  unfold Run.settlePresence
  dsimp only
  rw [now]
  split
  · next changed =>
    have disabled : (r.life i).state = .disabled := h.resolve_left fun same => by simp [same] at changed
    have state : ((r.modLife i fun l => { l with settle := none, present := decide ((r.life i).prs = .low) }).life i).state
        = .disabled := (congrArg Life.state (Run.modLife_life_self ..)).trans disabled
    unfold Run.presenceEvent
    rw [state]
  · rfl

/-- A sled comes: it is seated in CONFIG, and admitted in the other modes (R63). -/
theorem Run.settlePresence_of_comes (absent : (r.life i).state = .absent) (empty : (r.life i).present = false)
    (low : (r.life i).prs = .low) :
    r.settlePresence c i
      = if r.mode = .config then r.modLife i fun l => { l with settle := none, present := true, state := .standby }
        else (r.modLife i fun l => { l with settle := none, present := true }).startAdmission c i := by
  have state : ((r.modLife i fun l => { l with settle := none, present := true }).life i).state = .absent :=
    (congrArg Life.state (Run.modLife_life_self ..)).trans absent
  have whole : r.settlePresence c i = (r.modLife i fun l => { l with settle := none, present := true }).presenceEvent c i true := by
    unfold Run.settlePresence
    dsimp only
    rw [low, empty]
    rfl
  rw [whole]
  unfold Run.presenceEvent
  rw [state]
  dsimp only
  by_cases config : r.mode = .config
  · rw [if_pos config]
    exact (if_neg fun works => (Mode.works_iff _).mp works config).trans (modSled_modSled ..)
  · rw [if_neg config]
    exact if_pos ((Mode.works_iff _).mpr config)

end Settle

end Sys2Proof.Machine
end

section
/-! SUPPORT. The seat of an admission in the words of its statement (R25, R38, R44, R64, R65). -/

namespace Sys2Proof.Machine

open Sys2Proof

/-- A sled that has its floor as it is seated and has no probe to wait for is TRACKING at once (R65). -/
def Run.tracksAtOnce (c : Cfg) (i : Sled) (u : Run) : Bool :=
  (u.books i).floorReserved && !(c.probe (probeA i)).enable && !(c.probe (probeB i)).enable

/-- What an admission makes of its sled as it is seated. -/
structure Run.Seat (c : Cfg) (i : Sled) (r u : Run) : Prop where
  life : u.life i =
    { r.life i with
      state := if u.tracksAtOnce c i then .tracking else .admitting
      admission := if u.tracksAtOnce c i then none else some c.globals.admitLimitMs
      admitTimeout := false
      awaitA := (c.probe (probeA i)).enable
      awaitB := (c.probe (probeB i)).enable
      containPending := false }
  grant : u.tracksAtOnce c i = false → (u.books i).grant = if (u.books i).floorReserved then floorCost c i else 0
  waits : (u.books i).floorReserved = false →
    ∃ front e back, u.queue = front ++ e :: back ∧ e.sled = i ∧ e.cls = .floor ∧ e.held = false
      ∧ (∀ x ∈ front, x.cls = .floor ∧ x.sled ∈ r.floors) ∧ ∀ x ∈ back, x.cls ≠ .floor
  raised : (u.books i).floorReserved = true → i ∈ u.raiseOrder

theorem Run.seat {c : Cfg} {i : Sled} {r : Run} (h : r.queueSound) (works : r.mode ≠ .config) (new : r.queued i = false) :
    Run.Seat c i r (r.takeSeat c i) := by
  rcases Run.seeks_or_hasFloor (c := c) h works new with seeks | has
  · have own := seeks.own
    have reserved : ((r.takeSeat c i).books i).floorReserved = false := congrArg (fun x : SledRun => x.books.floorReserved) own
    have later : (r.takeSeat c i).tracksAtOnce c i = false := by
      unfold Run.tracksAtOnce
      rw [reserved]
      rfl
    refine ⟨?_, fun _ => ?_, fun _ => seeks.split, fun yes => absurd (reserved.symm.trans yes) Bool.false_ne_true⟩
    · rw [later]
      exact congrArg SledRun.life own
    · rw [reserved]
      exact congrArg (fun x : SledRun => x.books.grant) own
  · obtain ⟨-, reserved, raised, life, rests⟩ := has
    have once : (r.takeSeat c i).tracksAtOnce c i = !((r.sleds.get i).admitting c i).life.awaits := by
      unfold Run.tracksAtOnce
      rw [reserved, Bool.true_and]
      exact (Bool.not_or ..).symm
    refine ⟨?_, fun later => ?_, fun no => absurd (no.symm.trans reserved) Bool.false_ne_true, fun _ => raised⟩
    · rw [life, once]
      cases ((r.sleds.get i).admitting c i).life.awaits <;> rfl
    · rw [once, Bool.not_eq_false'] at later
      rw [(rests later).1, if_pos reserved]

/-! ## The sled that comes -/

section Comes
variable {c : Cfg} {i : Sled} {r : Run}

/-- The sled's slot is accepted as filled (R62). -/
def Run.filled (i : Sled) (r : Run) : Run := r.modLife i fun l => { l with settle := none, present := true }

theorem Run.filled_life : (r.filled i).life i = { r.life i with settle := none, present := true } := Run.modLife_life_self ..

theorem Run.filled_headroom : (r.filled i).headroom = r.headroom := by
  unfold Run.headroom Run.sumGrants Run.sumLoans Run.sumDraining Run.filled
  simp only [Run.modLife_books]
  rfl

theorem Run.filled_get (j : Sled) (other : j ≠ i) : (r.filled i).sleds.get j = r.sleds.get j := modAt_get_other other ..

theorem Run.filled_alert (j : Sled) : (r.filled i).alert j = r.alert j := Run.modLife_alert ..

theorem Run.filled_therm (j : Sled) : (r.filled i).therm j = r.therm j := Run.modLife_therm ..

theorem Run.filled_floors : (r.filled i).floors = (r.queue.filter Entry.isFloor).map Entry.sled := Run.floors_eq _

theorem Run.queueSound_filled (h : r.queueSound) : (r.filled i).queueSound :=
  (Run.Moves.modLife (c := .default) (f := fun l => { l with settle := none, present := true }) fun _ => rfl).queueSound h

/-- The admission of a sled that comes (R62 to R65). -/
theorem Run.admitted_filled (h : r.queueSound) (works : r.mode ≠ .config) (absent : (r.life i).state = .absent) (served : r.lanesServed)
    (idle : ∀ p, p = probeA i ∨ p = probeB i → (r.probe p).run = .idle) :
    Run.Admitted c i ((r.filled i).takeSeat c i) ((r.filled i).startAdmission c i) := by
  have sound := Run.queueSound_filled (i := i) h
  have taken := Run.seatTaken (c := c) (i := i) sound
  have seat := Run.seat (c := c) (i := i) sound works (h.not_queued_of_out (by rw [absent]; rfl))
  rw [Run.startAdmission_eq sound]
  refine Run.admitted_admits ?_ (fun config => works (taken.mode.symm.trans config)) (Run.lanesServed_of_lanes taken.lanes served)
    fun p own => ?_
  · rw [seat.life]
    dsimp only
    split <;> rfl
  · exact (congrArg (fun v : Vector ProbeRun _ => (v.get p).run) taken.probes).trans (idle p own)

end Comes

end Sys2Proof.Machine
end

section
/-! SUPPORT. The acceptance of a presence level (R62 to R65). -/

namespace Sys2Proof.Machine

open Sys2Proof

section Accepted
variable {i : Sled} {s : State}

/-- An expiry whose effect posts nothing and triggers nothing. -/
theorem State.settle_next {r : Run} (live : s.inReset = false) (rest : s.atRest) (settle : (s.run.life i).settle ≠ none)
    (h : s.run.settlePresence s.cfg i = r) (due : r.arbiterDue = s.run.arbiterDue) (notices : r.notices = s.run.notices) :
    exec (.presenceSettleExpiry i) s = .next { s with run := r } := by
  refine (State.runEvent_after (f := fun c r => r.settlePresence c i) live (Option.isSome_iff_ne_none.mpr settle)).trans ?_
  exact congrArg Host.Outcome.next ((congrArg s.after h).trans (State.after_of_atRest rest due notices))

/-- Where headroom does not cover the first floor that waits, nothing moves as the sled joins (R44). -/
theorem Run.takeSeat_short {c : Cfg} {i : Sled} {r : Run} (h : r.queueSound) (works : r.mode ≠ .config) (new : r.queued i = false)
    (short : r.headroom + (r.books i).grant
      < (((r.queue.filter Entry.isFloor).head?.map fun e => (floorCost c e.sled : Int)).getD (floorCost c i))) :
    r.takeSeat c i = { r.joined c i with arbiterDue := false } := by
  have floors := r.floors_eq
  cases front : r.queue.filter Entry.isFloor with
  | nil =>
    rw [front] at floors short
    exact Run.takeSeat_of_short h works new (j := i) (F := []) (by rw [floors]; rfl) short
  | cons e es =>
    rw [front] at floors short
    exact Run.takeSeat_of_short h works new (j := e.sled) (F := es.map Entry.sled ++ [i]) (by rw [floors]; rfl) short

end Accepted

end Sys2Proof.Machine

open Sys2Proof Sys2Proof.Machine

/-- Settles O48: the level is accepted; a sled that comes takes its seat, where it waits for its floor or has it; its probes have
their first due events; and its line gives its edge. -/
theorem presenceIsAccepted : Obligations.PresenceIsAccepted := by
  intro i s live rest l now accepted
  refine ⟨fun none => ?_, fun settle kept => ?_, fun settle absent empty low config => ?_,
    fun settle absent empty low works sound served idleA idleB => ?_⟩
  · refine State.runEvent_not (f := fun c r => r.settlePresence c i) (.inr ?_)
    rw [show (s.run.life i).settle = Option.none from none]
    rfl
  · refine State.settle_next live rest settle ((Run.settlePresence_of_kept kept).trans ?_) rfl rfl
    exact Run.modLife_congr rfl
  · refine State.settle_next live rest settle ((Run.settlePresence_of_comes absent empty low).trans ((if_pos config).trans ?_)) rfl rfl
    refine Run.modLife_congr ?_
    rw [show now = true from decide_eq_true low]
  · intro a b cost free waiting rest' next place failed y asserted begun u
    have idle (p : Probe) (own : p = probeA i ∨ p = probeB i) : (s.run.probe p).run = .idle := by
      rcases own with rfl | rfl
      · exact idleA
      · exact idleB
    have sound' : begun.queueSound := Run.queueSound_filled sound
    have new : begun.queued i = false := sound.not_queued_of_out (by rw [show (s.run.life i).state = .absent from absent]; rfl)
    have taken : Run.SeatTaken s.cfg i begun u := Run.seatTaken sound'
    have seat : Run.Seat s.cfg i begun u := Run.seat sound' works new
    have after : Run.Admitted s.cfg i u (begun.startAdmission s.cfg i) := Run.admitted_filled sound works absent served idle
    have headroom : begun.headroom + (begun.books i).grant = free := by
      rw [show begun.headroom = s.run.headroom from Run.filled_headroom, show begun.books i = s.run.books i from Run.modLife_books ..]
    have life : begun.life i = { l with settle := none, present := true } := Run.filled_life
    have floors : begun.floors = waiting.map Entry.sled := Run.filled_floors
    have alert (j : Sled) : u.alert j = s.run.alert j := (taken.alert j).trans (Run.filled_alert j)
    have lane : u.lane (laneOfSled i) = s.run.lane (laneOfSled i) := congrArg (fun v : Vector Lane _ => v.get (laneOfSled i)) taken.lanes
    have probe (p : Probe) : u.probe p = s.run.probe p := congrArg (fun v : Vector ProbeRun _ => v.get p) taken.probes
    have line : u.asserted s.cfg i ↔ asserted := by
      unfold Run.asserted
      rw [alert]
    obtain ⟨order, two, whole⟩ := after.whole
    refine ⟨begun.startAdmission s.cfg i, order, ?_, two, whole,
      ⟨fun covered => ?_, fun short => ?_, ?_, fun later => ?_, fun out => ?_, seat.raised⟩, fun none j other => ?_,
      fun healthy low free => ?_, fun j other => ⟨?_, ?_⟩, fun free => ?_, fun p own on => ?_, after.notice⟩
    · refine (State.runEvent_after (f := fun c r => r.settlePresence c i) live (Option.isSome_iff_ne_none.mpr settle)).trans ?_
      exact congrArg (fun r => Host.Outcome.next (s.after r)) ((Run.settlePresence_of_comes absent empty low).trans (if_neg works))
    · refine Run.takeSeat_reserved sound' works new ?_
      rw [headroom, floors, List.map_map]
      exact covered
    · have still : u = { begun.joined s.cfg i with arbiterDue := false } := Run.takeSeat_short sound' works new (by rw [headroom]; exact short)
      rw [still]
      refine ⟨congrArg (fun x : SledRun => x.books.floorReserved) (begun.joined_get s.cfg i), fun j other => ?_, ?_⟩
      · exact (Run.joined_get_other other).trans (Run.filled_get j other)
      · refine (congrArg (List.map place) (Run.joined_queue sound')).trans ?_
        rw [List.map_append, List.map_cons]
        rfl
    · exact seat.life.trans (by rw [life]; rfl)
    · exact seat.grant later
    · obtain ⟨front, e, back, queue, sled, cls, held, ahead, behind⟩ := seat.waits out
      refine ⟨front, e, back, queue, sled, cls, held, fun x hx => ⟨(ahead x hx).1, ?_⟩, behind⟩
      have among := (ahead x hx).2
      rw [floors] at among
      exact List.mem_map.mp among
    · exact (Run.takeSeat_others sound' none other).trans (Run.filled_get j other)
    · exact after.calm (by rw [lane]; exact healthy) (mt line.mp low) (by rw [alert]; exact free)
    · exact (after.others j other).1.trans ((taken.therm j).trans (Run.filled_therm j))
    · exact (after.others j other).2.trans (alert j)
    · have free : (u.alert i).filtered = false := by rw [alert]; exact free
      by_cases high : asserted
      · rw [if_pos high, after.rises free (line.mpr high), alert, taken.clock]
        rfl
      · rw [if_neg high, after.stays free (mt line.mp high), alert]
    · obtain ⟨inits, overruns, due⟩ := after.marks p own on
      refine ⟨inits, overruns, due, fun failed none => ?_⟩
      have record := after.failed (by rw [lane]; exact failed) (by rw [lane]; exact none) p own on
      rw [record]
      unfold Run.failedDue Run.worse Run.failures
      rw [probe, taken.clock]
      exact ⟨idle p own, rfl, rfl, rfl, rfl⟩
end
